-- ==== Sys2Proof/Word.lean ====
section
/-! DEFINITION. Word.lean: the byte, and the identifiers of the two cable ports. -/

namespace Sys2Proof

/-- One byte of a parcel, a lane message or the Section Pool (chapter 11). -/
abbrev Byte := BitVec 8

/-- A set of slots: 16 bits, bit s for slot s (11.1). -/
abbrev SlotSet := BitVec 16

/-- The two cable ports (chapter 1). -/
inductive PortId where
  | p0
  | p1
  deriving DecidableEq, Repr, Inhabited

/-- The other cable port of the same controller. -/
def PortId.other : PortId → PortId
  | .p0 => .p1
  | .p1 => .p0

/-- The code of a port in a record: 0 or 1 (11.1). -/
def PortId.code : PortId → Nat
  | .p0 => 0
  | .p1 => 1

/-- Both ports, in ascending order. -/
def PortId.all : List PortId := [.p0, .p1]

end Sys2Proof
end

