-- ==== Sys2Proof/Syntax.lean ====
section
/-! DEFINITION. Syntax.lean: the parcels, requests, lane messages and written records that commands
carry, and `Instr`, one constructor per row of spec/opcode_table.json. A field that arrives from a
cable, a lane or a request is a number as received; the meaning applies the rule's range check. -/

namespace Sys2Proof

/-- The operations of a request (8.1); a code that is none of the five is kept as received (R184). -/
inductive Op where
  | read
  | write
  | readLock
  | writeUnlock
  | assign
  | undefined (code : Nat)
  deriving DecidableEq, Repr, Inhabited

/-- Who issued a request: requester frame, requester id (slot 0 to 15, channel 16 to 19, notice
engine 20) and requester tag (8.1). -/
structure Requester where
  frame : Nat
  id : Nat
  tag : Nat
  deriving DecidableEq, Repr, Inhabited

/-- The ASSIGN fields of a request to NEXT: the header extension of 11.2. -/
structure NextExt where
  expected : Option Nat
  branch : Nat
  deriving DecidableEq, Repr, Inhabited

/-- A request (8.1), as a REQUEST parcel carries it. -/
structure Request where
  who : Requester
  dest : Nat
  target : Nat
  op : Op
  hop : Nat
  address : Nat
  length : Nat
  ext : Option NextExt
  data : List Byte
  deriving DecidableEq, Repr, Inhabited

/-- A completion (8.1), as a COMPLETION parcel carries it; the status is its code (11.5). -/
structure Completion where
  who : Requester
  status : Nat
  hop : Nat
  data : List Byte
  deriving DecidableEq, Repr, Inhabited

/-- A HELLO (R5, R25, 11.2). -/
structure Hello where
  uid : Nat
  frame : Nat
  hops : Nat
  root : Bool
  rootward : Bool
  fast : Bool
  loopRequest : Bool
  limStream : Nat
  limRequest : Nat
  limCompletion : Nat
  deriving DecidableEq, Repr, Inhabited

/-- A MARK (3.2, 11.2): origin stamp in sixteenths, correction, epoch number, hops. -/
structure Mark where
  origin : Nat
  correction : Nat
  epoch : Nat
  hops : Nat
  deriving DecidableEq, Repr, Inhabited

/-- An ANNOUNCE (R32, 11.2). -/
structure Announce where
  frame : Nat
  hop : Nat
  uid : Nat
  deriving DecidableEq, Repr, Inhabited

/-- A TRIGGER (R67, 11.2). -/
structure Trigger where
  origin : Nat
  line : Nat
  seq : Nat
  untimed : Bool
  fire : Nat
  deriving DecidableEq, Repr, Inhabited

/-- A STREAM parcel (R81, R82, 11.2). -/
structure StreamParcel where
  tag : Nat
  source : Nat
  epoch : Nat
  seq : Nat
  last : Bool
  absent : Bool
  truncated : Bool
  payload : List Byte
  deriving DecidableEq, Repr, Inhabited

/-- The ten parcel kinds (11.2). -/
inductive Parcel where
  | stream (p : StreamParcel)
  | mark (m : Mark)
  | echo (number : Nat)
  | echoReply (number t2 t3 : Nat)
  | trigger (t : Trigger)
  | hello (h : Hello)
  | announce (a : Announce)
  | credit (stream request completion : Nat)
  | request (r : Request)
  | completion (c : Completion)
  deriving DecidableEq, Repr

/-- A REQUEST lane message from a module (8.2, 11.3). In the windowed form `dest` is the window number
and `address` the offset. -/
structure LaneRequest where
  tag : Nat
  windowed : Bool
  retry : Bool
  op : Op
  length : Nat
  dest : Nat
  target : Nat
  address : Nat
  ext : Option NextExt
  data : List Byte
  deriving DecidableEq, Repr, Inhabited

/-- A SECTION lane message (R109, 11.3). -/
structure SectionMsg where
  binding : Nat
  tag : Option Nat
  epoch : Nat
  status : Nat
  untimed : Bool
  discontinuous : Bool
  length : Nat
  offset : Nat
  final : Bool
  data : List Byte
  deriving DecidableEq, Repr, Inhabited

/-- The lane messages to a module (11.3). -/
inductive LaneMsg where
  | sectionMsg (m : SectionMsg)
  | parcel (p : StreamParcel)
  | inbound (handle frame id : Nat) (write : Bool) (length address : Nat) (data : List Byte)
  | completion (tag status : Nat) (data : List Byte)
  deriving DecidableEq, Repr

/-- The lane messages from a module (11.3). -/
inductive ModuleMsg where
  | burst (tag : Nat) (data : List Byte)
  | request (r : LaneRequest)
  | reply (handle status : Nat) (data : List Byte)
  | credit (count : Nat)
  deriving DecidableEq, Repr

/-- The writable fields of a Route Table entry as written (R77, 11.4). -/
structure RouteWrite where
  mode : Nat
  source : Option Nat
  fwdRoot : Bool
  fwdAway : Bool
  sinks : SlotSet
  binding : Option Nat
  q : Nat
  deriving DecidableEq, Repr, Inhabited

/-- The writable fields of a binding as written (R97, 11.4). -/
structure BindingWrite where
  state : Nat
  base : Nat
  blocks : Nat
  sinks : SlotSet
  swap : Nat
  deriving DecidableEq, Repr, Inhabited

/-- A window as written (R144); `size` in bytes. -/
structure WindowWrite where
  enabled : Bool
  frame : Nat
  target : Nat
  base : Nat
  size : Nat
  swap : Nat
  readOnly : Bool
  policy : Nat
  retryLimit : Nat
  deriving DecidableEq, Repr, Inhabited

/-- A guard record as written (R92). -/
structure GuardWrite where
  low : Nat
  high : Nat
  complement : Bool
  locked : Bool
  deriving DecidableEq, Repr, Inhabited

/-- A slot's four settings as written (R118); times in ms. -/
structure SlotSettings where
  policy : Nat
  powerTimeout : Nat
  drainLimit : Nat
  attention : Bool
  deriving DecidableEq, Repr, Inhabited

/-- The timebase settings as written (R61, 3.8). -/
structure TimebaseSettings where
  gi : Nat
  gp : Nat
  st : Nat
  lw : Nat
  stepPolicy : Nat
  holdoverLimit : Nat
  delayMode : Nat
  deriving DecidableEq, Repr, Inhabited

/-- The Transaction Unit's settings as written (R147), in µs. -/
structure TransSettings where
  timeout : Nat
  responseLimit : Nat
  lockHold : Nat
  deriving DecidableEq, Repr, Inhabited

/-- A channel's setup as written (R165); pacing 0 is FREE. -/
structure ChannelSetup where
  srcFrame : Nat
  srcTarget : Nat
  srcAddr : Nat
  dstFrame : Nat
  dstTarget : Nat
  dstAddr : Nat
  length : Nat
  chunk : Nat
  pacing : Nat
  policy : Nat
  deriving DecidableEq, Repr, Inhabited

/-- A Trigger Map entry as written (R64). -/
structure TriggerEntry where
  enabled : Bool := false
  sources : SlotSet := 0
  outputs : SlotSet := 0
  budget : Nat := 4096
  deriving DecidableEq, Repr, Inhabited

/-- The two transmit queues that offers to are refused rather than dropped (R16). -/
inductive TxClass where
  | request
  | completion
  deriving DecidableEq, Repr

/-- The commands: one constructor per row of spec/opcode_table.json, in the table's order. A `who`
names the requester of the controller-space write that is the command; a row that a timer or the
clock brings is that event itself (log entry 2). -/
inductive Instr where
  | powerOnReset (root : Bool) (mgrSlot : Fin 16)
  | controllerReset (who : Requester)
  | releaseNumber (who : Requester)
  | assign (port : PortId) (who : Requester) (hop : Nat) (ext : NextExt) (data : List Byte)
  | cableSensePresent (port : PortId)
  | cableSenseLost (port : PortId)
  | symbolLock (port : PortId)
  | peerTrainingAtBase (port : PortId)
  | symbolLockLost (port : PortId)
  | helloTimer (port : PortId)
  | pairingTimeout (port : PortId)
  | helloReceived (port : PortId) (h : Hello)
  | echoReceived (port : PortId) (number : Nat)
  | echoSpacing (port : PortId)
  | echoReplyReceived (port : PortId) (number t2 t3 : Nat)
  | loopbackParcelReturned (port : PortId) (bytes : List Byte)
  | burstEnd (port : PortId)
  | burstSchedule (port : PortId)
  | startBurst (who : Requester) (port : PortId)
  | retrain (who : Requester) (port : PortId)
  | loopbackNear (who : Requester) (port : PortId)
  | loopbackFar (who : Requester) (port : PortId)
  | loopbackOff (who : Requester) (port : PortId)
  | loopbackSilenceEnd (port : PortId)
  | rateRequestWrite (who : Requester) (port : PortId) (rate : Nat)
  | creditReceived (port : PortId) (stream request completion : Nat)
  | parcelTransmit (port : PortId)
  | epochBoundary
  | seenListAgeOut
  | rootwardStale
  | markGapLoss
  | holdoverLimit
  | retrainHistoryAgeOut (port : PortId)
  | slewEnd
  | markReceived (port : PortId) (m : Mark)
  | announceReceived (port : PortId) (a : Announce)
  | rootTrimWrite (who : Requester) (value : Int)
  | rackTimeLoad (who : Requester) (value : Nat)
  | timebaseSettingsWrite (who : Requester) (w : TimebaseSettings)
  | triggerMapWrite (who : Requester) (line : Nat) (entry : TriggerEntry)
  | triggerEdge (slot : Fin 16) (line : Fin 8)
  | triggerReceived (port : PortId) (t : Trigger)
  | triggerFire
  | routeTableWrite (who : Requester) (first : Nat) (entries : List RouteWrite)
  | routeGuardWrite (who : Requester) (w : GuardWrite)
  | sampleBurst (slot : Fin 16) (tag : Nat) (data : List Byte)
  | streamParcelReceived (port : PortId) (p : StreamParcel)
  | bindingWrite (who : Requester) (first : Nat) (bindings : List BindingWrite)
  | sectionSegmentSend (slot : Fin 16)
  | presenceAssert (slot : Fin 16)
  | debounceExpiry (slot : Fin 16)
  | presenceLost (slot : Fin 16)
  | powerGood (slot : Fin 16)
  | powerGoodLost (slot : Fin 16)
  | powerTimeout (slot : Fin 16)
  | laneAdvertisement (slot : Fin 16) (credits : Nat)
  | laneLost (slot : Fin 16)
  | laneCreditReturn (slot : Fin 16) (count : Nat)
  | undefinedLaneMessage (slot : Fin 16) (bytes : List Byte)
  | handleOpen (slot : Fin 16)
  | handleClose (slot : Fin 16)
  | drainLimit (slot : Fin 16)
  | slotSettingsWrite (who : Requester) (slot : Fin 16) (w : SlotSettings)
  | admitSlot (who : Requester) (slot : Fin 16)
  | eject (who : Requester) (slot : Fin 16)
  | park (who : Requester) (slot : Fin 16)
  | unpark (who : Requester) (slot : Fin 16)
  | clear (who : Requester) (slot : Fin 16)
  | slotReset (who : Requester) (slot : Fin 16)
  | slotRequestTaken (slot : Fin 16) (arriving : Option LaneRequest)
  | requestReceived (port : PortId) (r : Request)
  | transactionQueueTake (port : PortId) (queue : TxClass)
  | completionReceived (port : PortId) (c : Completion)
  | transactionDeadline (entry : Fin 32)
  | backoffEnd (entry : Fin 32)
  | completionLaneSend (slot : Fin 16)
  | inboundSend (slot : Fin 16)
  | moduleReply (slot : Fin 16) (handle status : Nat) (data : List Byte)
  | responseDeadline (handle : Fin 16)
  | lockExpiry (slot : Fin 16)
  | transactionSettingsWrite (who : Requester) (w : TransSettings)
  | windowWrite (who : Requester) (first : Nat) (windows : List WindowWrite)
  | windowGuardWrite (who : Requester) (w : GuardWrite)
  | channelSetupWrite (who : Requester) (channel : Fin 4) (w : ChannelSetup)
  | start (who : Requester) (channel : Fin 4)
  | pause (who : Requester) (channel : Fin 4)
  | resume (who : Requester) (channel : Fin 4)
  | abort (who : Requester) (channel : Fin 4)
  | chunkReadStart (channel : Fin 4)
  | chunkWriteStart (channel : Fin 4)
  | attentionEdge (slot : Fin 16)
  | noticeIssue
  | eventSummaryClear (who : Requester) (kinds : BitVec 32)
  | noticeEnableWrite (who : Requester) (enable : BitVec 32) (address : Nat)
  | attentionRemovalWrite (who : Requester) (slots : SlotSet)
  | managerWrite (who : Requester) (frame slot : Nat)
  | controllerWrite (who : Requester) (address : Nat) (data : List Byte)
  | badParcelArrival (port : PortId) (bytes : List Byte)
  deriving DecidableEq, Repr

end Sys2Proof
end

