-- ==== Sys2Proof/Decode.lean ====
section
/-! DEFINITION. Decode.lean: the formats of chapter 11 (parcels, lane messages, the CRC), encoders and
decoders total on any bytes, and `decodeTableWord`. The opcode table gives no row any bits, so
`decodeTableWord` answers none for every word. -/

namespace Sys2Proof

/-! ## Byte order (11.1) -/

/-- The `n` low bytes of a number, most significant byte first. -/
def beBytes : Nat → Nat → List Byte
  | 0, _ => []
  | n + 1, v => BitVec.ofNat 8 (v / 256 ^ n) :: beBytes n v

/-- The number that bytes spell, most significant byte first. -/
def beNat (bs : List Byte) : Nat := bs.foldl (fun a b => a * 256 + b.toNat) 0

/-- The number that bytes spell, least significant byte first: the CRC field's order. -/
def leNat : List Byte → Nat
  | [] => 0
  | b :: bs => b.toNat + 256 * leNat bs

/-- The `n` low bytes of a number, least significant byte first. -/
def leBytes : Nat → Nat → List Byte
  | 0, _ => []
  | n + 1, v => BitVec.ofNat 8 v :: leBytes n (v / 256)

/-- A flag as bit `k` of a byte. -/
def flagBit (k : Nat) (b : Bool) : Nat := if b then 2 ^ k else 0

/-! ## The parcel CRC (R12) -/

/-- One bit of the CRC-32 register taken least significant bit first; EDB88320h is the generator
04C11DB7h with its bits reversed. -/
def crcBit (r : Nat) : Nat := if r % 2 = 1 then (r / 2) ^^^ 0xEDB88320 else r / 2

/-- One byte into the CRC-32 register, its least significant bit first. -/
def crcByte (r : Nat) (b : Byte) : Nat :=
  crcBit (crcBit (crcBit (crcBit (crcBit (crcBit (crcBit (crcBit (r ^^^ b.toNat))))))))

/-- The CRC-32 of R12: the register starts at all ones and the result is complemented. -/
def crc32 (bs : List Byte) : Nat := bs.foldl crcByte 0xFFFFFFFF ^^^ 0xFFFFFFFF

/-! ## Parcels (11.2) -/

/-- The codes of the operations (11.1). -/
def Op.code : Op → Nat
  | .read => 0
  | .write => 1
  | .readLock => 2
  | .writeUnlock => 3
  | .assign => 4
  | .undefined c => c

/-- The operation a code names, or the code kept as undefined (R184). -/
def Op.ofCode (c : Nat) : Op :=
  match c with
  | 0 => .read
  | 1 => .write
  | 2 => .readLock
  | 3 => .writeUnlock
  | 4 => .assign
  | c => .undefined c

/-- The destination code NEXT (11.1). -/
def nextCode : Nat := 62

/-- The frame code UNNUMBERED (11.1). -/
def unnumberedCode : Nat := 63

/-- The target code CONTROLLER (11.1). -/
def controllerTarget : Nat := 31

/-- The credit classes (11.2), by their codes. -/
inductive ParcelClass where
  | stream | request | completion | timing | link
  deriving DecidableEq, Repr

/-- The class a class field names, if any. -/
def ParcelClass.ofCode (c : Nat) : Option ParcelClass :=
  match c with
  | 1 => some .stream
  | 2 => some .request
  | 3 => some .completion
  | 4 => some .timing
  | 5 => some .link
  | _ => none

/-- The class code of each kind code (R13, 11.2); 0 for a code that is no kind. -/
def classOfKind (kind : Nat) : Nat :=
  match kind with
  | 1 => 1
  | 2 => 4
  | 3 => 4
  | 4 => 4
  | 5 => 4
  | 6 => 5
  | 7 => 5
  | 8 => 5
  | 9 => 2
  | 10 => 3
  | _ => 0

/-- The header extension of a request to NEXT (11.2). -/
def NextExt.encode (x : NextExt) : List Byte :=
  beBytes 8 (x.expected.getD 0) ++ beBytes 1 x.branch ++ beBytes 1 (flagBit 0 x.expected.isSome) ++ beBytes 2 0

/-- The 12 bytes of a header extension; bytes that are missing read as zero. -/
def NextExt.decode (bs : List Byte) : NextExt where
  expected := if beNat ((bs.drop 9).take 1) % 2 = 1 then some (beNat (bs.take 8)) else none
  branch := beNat ((bs.drop 8).take 1)

/-- Kind code, bytes 4 to 15 and payload of a parcel (11.2); every reserved byte is zero (R183). -/
def Parcel.fields : Parcel → Nat × List Byte × List Byte
  | .stream p => (1, beBytes 2 p.tag ++ beBytes 1 p.source ++ beBytes 2 p.epoch ++ beBytes 1 p.seq
      ++ beBytes 1 (flagBit 0 p.last + flagBit 1 p.absent + flagBit 2 p.truncated) ++ beBytes 5 0, p.payload)
  | .mark m => (2, beBytes 8 m.origin ++ beBytes 4 m.correction, beBytes 5 m.epoch ++ beBytes 1 m.hops ++ beBytes 2 0)
  | .echo n => (3, beBytes 2 n ++ beBytes 10 0, [])
  | .echoReply n t2 t3 => (4, beBytes 2 n ++ beBytes 10 0, beBytes 8 t2 ++ beBytes 8 t3)
  | .trigger t => (5, beBytes 1 t.origin ++ beBytes 1 t.line ++ beBytes 1 t.seq ++ beBytes 1 (flagBit 0 t.untimed)
      ++ beBytes 7 t.fire ++ beBytes 1 0, [])
  | .hello h => (6, beBytes 1 h.frame ++ beBytes 1 h.hops
      ++ beBytes 1 (flagBit 0 h.root + flagBit 1 h.rootward + flagBit 2 h.fast + flagBit 3 h.loopRequest)
      ++ beBytes 1 h.limStream ++ beBytes 1 h.limRequest ++ beBytes 1 h.limCompletion ++ beBytes 6 0, beBytes 8 h.uid)
  | .announce a => (7, beBytes 1 a.frame ++ beBytes 1 a.hop ++ beBytes 10 0, beBytes 8 a.uid)
  | .credit a b c => (8, beBytes 1 a ++ beBytes 1 b ++ beBytes 1 c ++ beBytes 9 0, [])
  | .request r => (9, beBytes 1 r.who.frame ++ beBytes 1 r.who.id ++ beBytes 1 r.who.tag ++ beBytes 1 r.dest
      ++ beBytes 1 r.target ++ beBytes 1 r.op.code ++ beBytes 1 r.hop ++ beBytes 1 (r.length - 1) ++ beBytes 4 r.address,
      (match r.ext with | some x => x.encode | none => []) ++ r.data)
  | .completion c => (10, beBytes 1 c.who.frame ++ beBytes 1 c.who.id ++ beBytes 1 c.who.tag ++ beBytes 1 c.status
      ++ beBytes 1 c.hop ++ beBytes 7 0, c.data)

/-- The header and payload of a parcel as sent. -/
def Parcel.body (p : Parcel) : List Byte :=
  let f := p.fields
  beBytes 1 f.1 ++ beBytes 1 (classOfKind f.1) ++ beBytes 2 f.2.2.length ++ f.2.1 ++ f.2.2

/-- A parcel as sent: header, payload and the CRC, least significant byte first (11.1). -/
def Parcel.encode (p : Parcel) : List Byte := p.body ++ leBytes 4 (crc32 p.body)

/-- The three checks of R12 in their order. -/
inductive ParcelFault where
  | crc | length | kind
  deriving DecidableEq, Repr

/-- The header and payload of received bytes: all but the last four. -/
def bodyOf (bytes : List Byte) : List Byte := bytes.take (bytes.length - 4)

/-- The first check of R12 that received bytes fail, if any. Fewer than 20 bytes hold no CRC field and
fail the first check. -/
def parcelFault (bytes : List Byte) : Option ParcelFault :=
  let body := bodyOf bytes
  let kind := (body.getD 0 0).toNat
  let declared := beNat ((body.drop 2).take 2)
  if bytes.length < 20 ∨ crc32 body ≠ leNat (bytes.drop (bytes.length - 4)) then some .crc
  else if 256 < declared ∨ declared ≠ body.length - 16 then some .length
  else if kind < 1 ∨ 10 < kind ∨ classOfKind kind ≠ (body.getD 1 0).toNat then some .kind
  else none

/-- The class the header of received bytes names, if any (R12). -/
def classNamed (bytes : List Byte) : Option ParcelClass := ParcelClass.ofCode ((bytes.getD 1 0).toNat)

/-- The parcel a header and payload spell; reserved bits are ignored (R183). None for a kind code that
is no kind or a header shorter than 16 bytes. Where the payload is not as long as the kind's layout, which
no check of R12 names, the fields are read from the bytes there are: a missing byte reads 0 and one too
many is ignored (DESIGN CHOICE, log entry 45). -/
def Parcel.decode (body : List Byte) : Option Parcel :=
  match body with
  | k :: _ :: _ :: _ :: b4 :: b5 :: b6 :: b7 :: b8 :: b9 :: b10 :: b11 :: b12 :: b13 :: b14 :: b15 :: pay =>
    match k.toNat with
    | 1 => some (.stream
        { tag := beNat [b4, b5] % 1024, source := b6.toNat, epoch := beNat [b7, b8], seq := b9.toNat,
          last := b10.getLsbD 0, absent := b10.getLsbD 1, truncated := b10.getLsbD 2, payload := pay })
    | 2 => some (.mark
        { origin := beNat [b4, b5, b6, b7, b8, b9, b10, b11] % 2 ^ 60, correction := beNat [b12, b13, b14, b15],
          epoch := beNat (pay.take 5) % 2 ^ 39, hops := beNat ((pay.drop 5).take 1) })
    | 3 => some (.echo (beNat [b4, b5]))
    | 4 => some (.echoReply (beNat [b4, b5]) (beNat (pay.take 8) % 2 ^ 60) (beNat ((pay.drop 8).take 8) % 2 ^ 60))
    | 5 => some (.trigger
        { origin := b4.toNat, line := b5.toNat, seq := b6.toNat, untimed := b7.getLsbD 0,
          fire := beNat [b8, b9, b10, b11, b12, b13, b14] })
    | 6 => some (.hello
        { uid := beNat (pay.take 8), frame := b4.toNat, hops := b5.toNat, root := b6.getLsbD 0,
          rootward := b6.getLsbD 1, fast := b6.getLsbD 2, loopRequest := b6.getLsbD 3, limStream := b7.toNat,
          limRequest := b8.toNat, limCompletion := b9.toNat })
    | 7 => some (.announce { frame := b4.toNat, hop := b5.toNat, uid := beNat (pay.take 8) })
    | 8 => some (.credit b4.toNat b5.toNat b6.toNat)
    | 9 => some (.request
        { who := ⟨b4.toNat, b5.toNat, b6.toNat⟩, dest := b7.toNat, target := b8.toNat, op := Op.ofCode b9.toNat,
          hop := b10.toNat, length := b11.toNat + 1, address := beNat [b12, b13, b14, b15],
          ext := if b7.toNat = nextCode then some (NextExt.decode (pay.take 12)) else none,
          data := if b7.toNat = nextCode then pay.drop 12 else pay })
    | 10 => some (.completion { who := ⟨b4.toNat, b5.toNat, b6.toNat⟩, status := b7.toNat, hop := b8.toNat, data := pay })
    | _ => none
  | _ => none

/-! ## Lane messages (11.3) -/

/-- The 12 header bytes 4 to 15 of a lane message, padded with the reserved zeros (R183). -/
def laneHeader (kind b1 : Nat) (rest data : List Byte) : List Byte :=
  beBytes 1 kind ++ beBytes 1 b1 ++ beBytes 2 data.length ++ (rest ++ List.replicate (12 - rest.length) 0) ++ data

/-- A lane message to a module as its bytes. -/
def LaneMsg.encode : LaneMsg → List Byte
  | .sectionMsg m => laneHeader 1 m.binding
      (beBytes 5 m.epoch ++ beBytes 1 (m.status % 16 + flagBit 4 m.final + flagBit 5 m.untimed
        + flagBit 6 m.discontinuous + flagBit 7 m.tag.isSome) ++ beBytes 2 (m.tag.getD 0)
        ++ beBytes 3 m.length ++ beBytes 1 (m.offset / 256)) m.data
  | .parcel p => laneHeader 2 0
      (beBytes 2 p.tag ++ beBytes 1 p.source ++ beBytes 2 p.epoch ++ beBytes 1 p.seq
        ++ beBytes 1 (flagBit 0 p.last + flagBit 1 p.absent + flagBit 2 p.truncated)) p.payload
  | .inbound h f i w l a d => laneHeader 3 h
      (beBytes 1 f ++ beBytes 1 i ++ beBytes 1 (if w then 1 else 0) ++ beBytes 1 (l - 1) ++ beBytes 4 a) d
  | .completion t st d => laneHeader 4 t (beBytes 1 st) d

/-- The message from a module that bytes spell; none for an undefined type, a short header, or a data
length (bytes 2 and 3) that is not that of the data that follow (R184; log entry 35). -/
def ModuleMsg.decode (bytes : List Byte) : Option ModuleMsg :=
  match bytes with
  | k :: b1 :: b2 :: b3 :: b4 :: b5 :: b6 :: b7 :: b8 :: _ :: _ :: _ :: b12 :: b13 :: b14 :: b15 :: data =>
    if beNat [b2, b3] ≠ data.length then none
    else match k.toNat with
    | 8 => some (.burst (beNat [b4, b5]) data)
    | 9 =>
      let isNext := !b4.getLsbD 0 && b7.toNat == nextCode
      some (.request
        { tag := b1.toNat, windowed := b4.getLsbD 0, retry := b4.getLsbD 1, op := Op.ofCode b5.toNat,
          length := b6.toNat + 1, dest := b7.toNat, target := b8.toNat, address := beNat [b12, b13, b14, b15],
          ext := if isNext then some (NextExt.decode (data.take 12)) else none,
          data := if isNext then data.drop 12 else data })
    | 10 => some (.reply b1.toNat b4.toNat data)
    | 11 => some (.credit b4.toNat)
    | _ => none
  | _ => none

/-! ## The opcode table's words -/

/-- The command that a word spells by the table's bits. Every row of the table has an empty field
list and no fixed bits, so no word spells a command. -/
def decodeTableWord (_nbits _w : Nat) : Option Instr := none

end Sys2Proof
end

