-- ==== Sys2Proof/Config.lean ====
section
/-! DEFINITION. Config.lean: the constants the specification fixes, and the free values: opaque
constants for the paces and orders the specification leaves open (log entries 3 and 4). -/

namespace Sys2Proof

/-- Local cycles in 1 ms: the oscillator runs at 125 MHz, 8 ns a cycle (Straps and signals). -/
def Config.cyclesPerMs : Nat := 125000

/-- Local cycles in 1 µs. -/
def Config.cyclesPerUs : Nat := 125

/-- Ticks of one epoch, 2^17 (R43). -/
def Config.epochTicks : Nat := 131072

/-- The spacing of a burst's echoes, in local cycles (R10). -/
def Config.echoSpacing : Nat := 16384

/-- Local cycles an entry waits in BACKOFF: 8 µs (R146, R153). -/
def Config.backoffCycles : Nat := 8 * Config.cyclesPerUs

/-- Local cycles of the presence debounce: 16 ms (R119). -/
def Config.debounceCycles : Nat := 16 * Config.cyclesPerMs

/-- Every counter is 32 bits wide and saturates (Conventions, Counters). -/
def Config.counterMax : Nat := 4294967295

/-- FREE VALUE (log entry 3). Whether, at a given local time, the lane of a given slot has finished
sending the message it last began: the specification gives no lane rate. -/
opaque Config.laneReady : Nat → Nat → Bool

/-- FREE VALUE (log entry 3). Whether, at a given local time, a given port's transmitter is free to
begin a parcel: the specification gives the arbiter's choice, not the time a parcel takes. -/
opaque Config.transmitterFree : Nat → PortId → Bool

/-- FREE VALUE (log entry 3). Whether, at a given local time, the parcel that a given port in LOOPBACK
NEAR sent first has come back to its receiver: the specification gives no time for the loop. -/
opaque Config.loopReturned : Nat → PortId → Bool

/-- FREE VALUE (log entry 4). The place, among the events that come due in one local cycle, of the
event at a given index: the specification says that the one taken first decides, and not which that
is. -/
opaque Config.dueRank : Nat → Nat → Nat

end Sys2Proof
end

