-- ==== Sys2Proof/Machine/State.lean ====
section
/-! DEFINITION. Machine/State.lean: every piece of state the specification gives one FL216, as plain
data, the machine after reset, and the reasons a step can stop. A list of numbered entries is kept in
one canonical form: keys strictly rising, and no entry equal to what an unlisted key reads as. -/

namespace Sys2Proof.Machine

/-! ## Cable ports (chapter 1) -/

/-- The port states (1.1), in the order of the record's table. -/
inductive PortState where
  | absent | training | pairing | measure | up | loopback
  deriving DecidableEq, Repr, Inhabited

/-- The Loopback Form (1.1). -/
inductive LoopForm where
  | none | near | far | farServed
  deriving DecidableEq, Repr, Inhabited

/-- The two cable rates (1.1). -/
inductive Rate where
  | base | fast
  deriving DecidableEq, Repr, Inhabited

/-- The peer record (1.1): what the peer's HELLOs declared; frame and hops as received (R184). -/
structure Peer where
  uid : Nat
  frame : Nat
  root : Bool
  hops : Nat
  rootward : Bool
  fast : Bool
  limStream : Nat
  limRequest : Nat
  limCompletion : Nat
  deriving DecidableEq, Repr, Inhabited

/-- One echo of a burst (R10): its number, T1 once it has departed, T2, T3 and T4 once answered, and
whether it spans a step. -/
structure Echo where
  number : Nat
  t1 : Option Nat := none
  reply : Option (Nat × Nat × Nat) := none
  spanned : Bool := false
  deriving DecidableEq, Repr, Inhabited

/-- A running echo burst (R10): the echoes offered so far, and the local time of the next offer, or of
the burst's end once eight have been offered. -/
structure Burst where
  echoes : List Echo
  nextAt : Nat
  deriving DecidableEq, Repr, Inhabited

/-- A count for each credited class (R14, R15). -/
structure Credits where
  stream : Nat := 0
  request : Nat := 0
  completion : Nat := 0
  deriving DecidableEq, Repr, Inhabited

/-- The counters of a port record (1.1). -/
structure PortCounters where
  badCrc : Nat := 0
  badLength : Nat := 0
  badKind : Nat := 0
  rxOverflow : Nat := 0
  early : Nat := 0
  stale : Nat := 0
  creditExcess : Nat := 0
  txDrops : Nat := 0
  tailDrops : Nat := 0
  flushed : Nat := 0
  retrains : Nat := 0
  loopGood : Nat := 0
  loopBad : Nat := 0
  deriving DecidableEq, Repr, Inhabited

/-- A parcel waiting in the timing queue (R16). A root's mark is stamped as it departs (R45); a
forwarded mark keeps its arrival port and stamp, that port's Delay as it stood at the arrival, none where it was not
valid (R49), and whether a step fell since (R46). -/
inductive TimingItem where
  | rootMark
  | fwdMark (arrival : PortId) (stamp : Nat) (m : Mark) (delay : Option Nat) (spanned : Bool)
  | echo (number : Nat)
  | echoReply (number t2 : Nat)
  | trigger (t : Trigger)
  deriving DecidableEq, Repr

/-- A parcel waiting in the link control queue (R16). A CREDIT's counts are written as it departs (R14). -/
inductive LinkItem where
  | hello (h : Hello)
  | announce (a : Announce)
  | credit
  deriving DecidableEq, Repr

/-- A REQUEST held in its receive buffer (R150); `order` says which arrived first. -/
structure HeldRequest where
  order : Nat
  req : Request
  deriving DecidableEq, Repr, Inhabited

/-- A COMPLETION held in its receive buffer (R150). -/
structure HeldCompletion where
  order : Nat
  comp : Completion
  deriving DecidableEq, Repr, Inhabited

/-- The port record (1.1) with its queues and receive buffers (R13, R16). -/
structure Port where
  state : PortState := .absent
  loopForm : LoopForm := .none
  cableSense : Bool := false
  rate : Rate := .base
  rateRequest : Rate := .base
  /-- The training rate fixed on entry to TRAINING (R4). -/
  trainRate : Rate := .base
  peer : Option Peer := none
  peerFast : Bool := false
  rootConflict : Bool := false
  selfCabled : Bool := false
  delay : Nat := 0
  delayValid : Bool := false
  loopDelay : Option Nat := none
  burst : Option Burst := none
  echoNumber : Nat := 0
  burstCount : Nat := 0
  txCredits : Credits := {}
  freed : Credits := {}
  badThisEpoch : Nat := 0
  retrainHistory : List Nat := []
  streamRun : Nat := 0
  counters : PortCounters := {}
  qTiming : List TimingItem := []
  qLink : List LinkItem := []
  qStream : List StreamParcel := []
  qCompletion : List Completion := []
  qRequest : List Request := []
  heldRequests : List HeldRequest := []
  heldCompletions : List HeldCompletion := []
  /-- Local time of the next 1 ms HELLO (R5, R7). -/
  helloAt : Nat := 0
  /-- Local time at which the 10 ms HELLO timer of PAIRING runs out (R5, R6). -/
  pairingEnd : Nat := 0
  /-- A rate change waits for its HELLO to depart before the port retrains (R20). -/
  retrainPending : Bool := false
  /-- A FAR command waits for its HELLO to depart (R23). -/
  loopPending : Bool := false
  /-- Local time at which the 1 ms of silence after OFF in FAR ends (R23). -/
  silenceEnd : Option Nat := none
  /-- Which group the request and completion queues took from last: true a held parcel (R150). -/
  reqTookHeld : Bool := false
  compTookHeld : Bool := false
  /-- The parcel last put on the cable's transmit pair. -/
  wire : Option Parcel := none
  /-- The parcels on their way round the loop of LOOPBACK NEAR, first sent first (R22; log entry 18). -/
  looped : List Parcel := []
  /-- What a FAR-served port last sent straight back out of its transmitter (R23; log entry 18). -/
  sentBack : List Byte := []
  deriving DecidableEq, Repr, Inhabited

/-! ## Topology (chapter 2) -/

/-- Where a route leads: out of a port, or LOCAL (2.1, 8.3). -/
inductive Via where
  | here
  | port (p : PortId)
  deriving DecidableEq, Repr, Inhabited

/-- A Mark Record (2.1). -/
structure MarkRecord where
  hops : Nat
  epoch : Nat
  age : Nat
  deriving DecidableEq, Repr, Inhabited

/-- A Reachable entry of the Frame Directory (2.1); an entry that is not Reachable is not listed. -/
structure DirEntry where
  via : Via
  hops : Nat
  uid : Nat
  deriving DecidableEq, Repr, Inhabited

/-- The topology record (2.1). A frame number or hop count that is absent is UNNUMBERED or UNROOTED. -/
structure Topology where
  frameNumber : Option Nat := none
  root : Bool := false
  rootward : Option PortId := none
  hops : Option Nat := none
  mark0 : Option MarkRecord := none
  mark1 : Option MarkRecord := none
  directory : List (Nat × DirEntry) := []
  alternateMarks : Nat := 0
  childMarks : Nat := 0
  overrangeMarks : Nat := 0
  rootwardChanges : Nat := 0
  announcesReceived : Nat := 0
  announcesRefused : Nat := 0
  numberClashes : Nat := 0
  assignsTaken : Nat := 0
  deriving DecidableEq, Repr, Inhabited

/-! ## Rack time (chapter 3) -/

/-- The timebase states (3.1). -/
inductive Timebase where
  | reference | free | acquire | track | holdover
  deriving DecidableEq, Repr, Inhabited

/-- The Slew (R42): S in sixteenths, and the cycles remaining. -/
structure Slew where
  s : Int
  cycles : Nat
  deriving DecidableEq, Repr, Inhabited

/-- The timebase record (3.1) with its settings (3.8) and counters. Rack Time is one 88-bit word: 56
integer bits and 32 bits of fraction. -/
structure Rtu where
  rackTime : BitVec 88 := 0
  epoch : Nat := 0
  state : Timebase := .free
  trim : Int := 0
  rootTrim : Int := 0
  slew : Option Slew := none
  pendingStep : Option Int := none
  pendingLoad : Option Nat := none
  lockCount : Nat := 0
  wideCount : Nat := 0
  outlierCount : Nat := 0
  markGap : Nat := 0
  holdoverEpochs : Nat := 0
  lastOffset : Option Int := none
  lastMarkEpoch : Nat := 0
  trimHistory : List Int := []
  gi : Nat := 4
  gp : Nat := 2
  st : Nat := 1000
  lw : Nat := 32
  stepAllowed : Bool := true
  holdoverLimit : Nat := 4096
  delayRepeat : Bool := true
  marksUsed : Nat := 0
  marksUnusable : Nat := 0
  outliers : Nat := 0
  steps : Nat := 0
  loads : Nat := 0
  trimClamps : Nat := 0
  correctionClamps : Nat := 0
  burstsValid : Nat := 0
  burstsInvalid : Nat := 0
  forwardSaturations : Nat := 0
  deriving DecidableEq, Repr, Inhabited

/-! ## Triggers (chapter 4) -/

/-- A Seen List entry (4.1). -/
structure Seen where
  origin : Nat
  seq : Nat
  age : Nat
  deriving DecidableEq, Repr, Inhabited

/-- An entry of the Pending Trigger Queue (4.1). -/
structure PendingTrigger where
  line : Nat
  fire : Nat
  origin : Nat
  deriving DecidableEq, Repr, Inhabited

/-- The trigger record (4.1). `seenAged` is the model's own: the ageing of the last boundary event
stands performed, and its row SEEN_LIST_AGE_OUT has not been taken (log entry 6). -/
structure TriggerUnit where
  map : List (Nat × TriggerEntry) := []
  originSeq : List (Nat × Nat) := []
  seen : List (Nat × List Seen) := []
  queue : List PendingTrigger := []
  edgesStamped : Nat := 0
  edgesIgnored : Nat := 0
  originated : Nat := 0
  received : Nat := 0
  bad : Nat := 0
  looped : Nat := 0
  nonTree : Nat := 0
  duplicate : Nat := 0
  passedThrough : Nat := 0
  queued : Nat := 0
  merged : Nat := 0
  fired : Nat := 0
  untimedFires : Nat := 0
  lateFires : Nat := 0
  overflows : Nat := 0
  discarded : Nat := 0
  seenAged : Bool := false
  deriving DecidableEq, Repr, Inhabited

/-! ## Stream routing (chapter 5) -/

/-- A source packer (5.2). -/
structure Packer where
  openEpoch : Option Nat := none
  gathered : Nat := 0
  held : List Byte := []
  nextSeq : Nat := 0
  truncated : Bool := false
  sourceSeen : Bool := false
  deriving DecidableEq, Repr, Inhabited

/-- A Route Table entry (5.1); its defaults are the entry after reset (R76). -/
structure RouteEntry where
  active : Bool := false
  source : Option Nat := none
  fwdRoot : Bool := false
  fwdAway : Bool := false
  sinks : SlotSet := 0
  binding : Option Nat := none
  q : Nat := 0
  tracker : Option (Nat × Nat) := none
  packer : Option Packer := none
  inCount : Nat := 0
  forwarded : Nat := 0
  quotaDrops : Nat := 0
  gaps : Nat := 0
  duplicates : Nat := 0
  unrouted : Nat := 0
  looped : Nat := 0
  nonTree : Nat := 0
  deriving DecidableEq, Repr, Inhabited

/-- A guard (R92, R144); its defaults are the cleared guard. -/
structure Guard where
  low : Nat := 1
  high : Nat := 0
  complement : Bool := false
  locked : Bool := false
  deriving DecidableEq, Repr, Inhabited

/-- The router record's fields for one port (5.1). -/
structure RouterPort where
  committed : Nat := 0
  overcommitted : Bool := false
  unrouted : Nat := 0
  deriving DecidableEq, Repr, Inhabited

/-- The Stream Router (5.1). -/
structure Router where
  table : List (Nat × RouteEntry) := []
  port0 : RouterPort := {}
  port1 : RouterPort := {}
  guard : Guard := {}
  deriving DecidableEq, Repr, Inhabited

/-! ## Timed delivery (chapter 6) -/

/-- The swaps (R110). -/
inductive Swap where
  | none | bytes16 | halves32 | bytes32
  deriving DecidableEq, Repr, Inhabited

/-- The states of a section (6.1). -/
inductive SectionState where
  | idle | opened | released
  deriving DecidableEq, Repr, Inhabited

/-- The statuses of a released section, in the order of their codes (6.1, 11.3). -/
inductive SectionStatus where
  | complete | incomplete | truncated | lost | sourceAbsent
  deriving DecidableEq, Repr, Inhabited

/-- A section record (6.1). `received` holds, for each sequence number of the Received set, how many
bytes its parcel wrote, in ascending order. -/
structure Section where
  state : SectionState := .idle
  epoch : Option Nat := none
  received : List (Nat × Nat) := []
  last : Option (Nat × Nat) := none
  truncatedSeen : Bool := false
  absentSeen : Bool := false
  cut : Bool := false
  highWater : Nat := 0
  status : SectionStatus := .complete
  untimed : Bool := false
  discontinuous : Bool := false
  length : Nat := 0
  deriving DecidableEq, Repr, Inhabited

/-- A binding (6.1); its defaults are the binding after power-on reset (R100). -/
structure Binding where
  enabled : Bool := false
  base : Nat := 0
  blocks : Nat := 1
  sinks : SlotSet := 0
  swap : Swap := .none
  sec0 : Section := {}
  sec1 : Section := {}
  sec2 : Section := {}
  released : Nat := 0
  lost : Nat := 0
  late : Nat := 0
  early : Nat := 0
  duplicate : Nat := 0
  overrun : Nat := 0
  skipped : Nat := 0
  unopened : Nat := 0
  disabledDiscards : Nat := 0
  deriving DecidableEq, Repr, Inhabited

/-- An entry of a slot's Delivery List (6.1). -/
structure DeliveryItem where
  binding : Nat
  sec : Nat
  offset : Nat
  deriving DecidableEq, Repr, Inhabited

/-! ## Slots (chapter 7) -/

/-- The slot states (7.1). -/
inductive SlotState where
  | empty | inserted | powering | admitted | parked | extracting | quiesced | faulted
  deriving DecidableEq, Repr, Inhabited

/-- The lane states (7.1). -/
inductive LaneState where
  | off | training | up | dormant
  deriving DecidableEq, Repr, Inhabited

/-- The three slot timers (7.1). -/
inductive TimerKind where
  | debounce | power | drain
  deriving DecidableEq, Repr, Inhabited

/-- A running timer and the local time at which it started (7.1). -/
structure Timer where
  kind : TimerKind
  start : Nat
  deriving DecidableEq, Repr, Inhabited

/-- The Drain record's four flags (7.1, R131). -/
structure Drain where
  boundaryPassed : Bool := false
  inboundClear : Bool := false
  lockClear : Bool := false
  ownClear : Bool := false
  deriving DecidableEq, Repr, Inhabited

/-- Last Cause (7.1): the values the rules name, then the causes of the transition table of 7.2 in
its order. AUTO, and ADMIT in INSERTED, which one row of that table names together, are one value
here, and so are 'Power Good lost after it was seen' in POWERING and 'Power Good lost' in the states after it, the
model's choice (DESIGN CHOICE, log entry 43). -/
inductive Cause where
  | powerOn | presenceLost | drainComplete | drainLimit | laneLost | removed | surpriseRemoval
  | presenceStable | autoOrAdmit | laneUp | powerTimeout | powerGoodLost | handleOpened | eject | park
  | slotReset | unpark | handleClosed | readmitted | clear
  deriving DecidableEq, Repr, Inhabited

/-- The counters of a slot record (7.1, R184), of the Delivery Unit's record of the slot (6.1), and
the router's Stray Bursts of the slot (5.1). -/
structure SlotCounters where
  insertions : Nat := 0
  withdrawn : Nat := 0
  admissions : Nat := 0
  extractions : Nat := 0
  drainTimeouts : Nat := 0
  parks : Nat := 0
  slotResets : Nat := 0
  laneLosses : Nat := 0
  surpriseRemovals : Nat := 0
  powerFaults : Nat := 0
  powerTimeouts : Nat := 0
  creditExcess : Nat := 0
  dormantIgnored : Nat := 0
  requestsDiscarded : Nat := 0
  laneErrors : Nat := 0
  deriving DecidableEq, Repr, Inhabited

/-- A request waiting in a slot's lane, and whether it has been refused for a duplicate tag and waits
only for its completion to be committed (R141). -/
structure WaitingRequest where
  req : LaneRequest
  refused : Bool := false
  deriving DecidableEq, Repr, Inhabited

/-- The slot record (7.1), the slot's lane, its delivery record (6.1) and Stray Bursts (5.1). -/
structure Slot where
  state : SlotState := .empty
  presence : Bool := false
  handleOpen : Bool := false
  powerGood : Bool := false
  powerEnable : Bool := false
  removal : Bool := false
  auto : Bool := true
  powerTimeout : Nat := 200
  drainLimit : Nat := 50
  attention : Bool := false
  lane : LaneState := .off
  advertised : Nat := 0
  available : Nat := 0
  timer : Option Timer := none
  drain : Option Drain := none
  lastCause : Cause := .powerOn
  counters : SlotCounters := {}
  /-- Requests waiting in the lane, head first (R141). -/
  waiting : List WaitingRequest := []
  /-- Messages committed to the lane and not yet sent, in order (R124). -/
  committed : List LaneMsg := []
  delivery : List DeliveryItem := []
  segmentsSent : Nat := 0
  parcelsSent : Nat := 0
  immediateDrops : Nat := 0
  strayBursts : Nat := 0
  deriving DecidableEq, Repr, Inhabited

/-! ## Transactions (chapter 8) -/

/-- The completion statuses (8.1), in the order of their codes (11.5). -/
inductive Status where
  | ok | busy | timeout | targetTimeout | noTarget | targetReset | unreachable | noFrame | denied
  | writeProtected | lockLost | aborted | badRequest | linkLost | duplicateNumber | noBandwidth | overlap
  | inUse
  deriving DecidableEq, Repr, Inhabited

/-- The states of an OTT entry (8.3). -/
inductive OttState where
  | queued | sent | backoff | answered
  deriving DecidableEq, Repr, Inhabited

/-- The answer of an entry: status and data (8.3). -/
structure Answer where
  status : Status
  data : List Byte
  deriving DecidableEq, Repr, Inhabited

/-- An OTT entry (8.3). In BACKOFF `deadline` holds the end of the backoff; `order` says which of a
group is oldest (R150, R156). A QUEUED entry without `via` awaits routing within the same act (R155). -/
structure OttEntry where
  id : Nat
  tag : Nat
  dest : Nat
  target : Nat
  op : Op
  address : Nat
  length : Nat
  data : List Byte
  ext : Option NextExt
  window : Option Nat
  swap : Swap
  retry : Bool
  retries : Nat
  deadline : Nat
  via : Option Via
  state : OttState
  answer : Option Answer
  order : Nat
  deriving DecidableEq, Repr, Inhabited

/-- The states of an inbound entry (8.6). -/
inductive InState where
  | waiting | atModule | answering
  deriving DecidableEq, Repr, Inhabited

/-- An entry of the Inbound Request List (8.6), numbered by its Handle. -/
structure InEntry where
  who : Requester
  slot : Nat
  op : Op
  address : Nat
  length : Nat
  data : List Byte
  source : Via
  deadline : Nat
  state : InState
  answer : Option Answer
  order : Nat
  deriving DecidableEq, Repr, Inhabited

/-- A slot's lock record (8.7). The holder is a requester frame and id. -/
structure Lock where
  holder : Option (Nat × Nat) := none
  expiry : Nat := 0
  releasing : Bool := false
  unlockHandle : Option Nat := none
  deriving DecidableEq, Repr, Inhabited

/-- A window (8.2); its defaults are the window after power-on reset (R145). -/
structure Window where
  enabled : Bool := false
  frame : Nat := 0
  target : Nat := 0
  base : Nat := 0
  size : Nat := 4096
  swap : Swap := .none
  readOnly : Bool := false
  retry : Bool := false
  retryLimit : Nat := 0
  deriving DecidableEq, Repr, Inhabited

/-- The Transaction Unit (chapter 8). -/
structure Trans where
  ott : List (Nat × OttEntry) := []
  inbound : List (Nat × InEntry) := []
  locks : List (Nat × Lock) := []
  windows : List (Nat × Window) := []
  guard : Guard := {}
  settings : TransSettings := ⟨200, 100, 100⟩
  /-- The requester id after which the OTT's arbiter begins its count, or none for the start at 0 (R141). -/
  lastTaken : Option Nat := none
  /-- The requesters to which the OTT's arbiter has given a freed entry that they have yet to take, in the
  order in which it gave them (R141; log entry 15). -/
  granted : List Nat := []
  issued : Nat := 0
  refusedAtIssue : Nat := 0
  timeouts : Nat := 0
  retries : Nat := 0
  linkLost : Nat := 0
  lateCompletions : Nat := 0
  completionsDropped : Nat := 0
  unreachable : Nat := 0
  busyAnswers : Nat := 0
  noTargetAnswers : Nat := 0
  targetTimeouts : Nat := 0
  repliesDiscarded : Nat := 0
  lockConflicts : Nat := 0
  lockLost : Nat := 0
  lockExpiries : Nat := 0
  deriving DecidableEq, Repr, Inhabited

/-! ## Block move channels (chapter 9) -/

/-- The channel states (9.1). -/
inductive ChannelState where
  | idle | running | paused | done | faulted
  deriving DecidableEq, Repr, Inhabited

/-- The stages of a chunk (9.1). -/
inductive Stage where
  | reading | held | writing
  deriving DecidableEq, Repr, Inhabited

/-- A chunk in flight (9.1). -/
structure Chunk where
  offset : Nat
  length : Nat
  stage : Stage
  tag : Nat
  data : List Byte
  deriving DecidableEq, Repr, Inhabited

/-- A Fault record (9.1): true for the DESTINATION side. -/
structure ChannelFault where
  destination : Bool
  status : Status
  deriving DecidableEq, Repr, Inhabited

/-- A channel record (9.1); its defaults are the channel after power-on reset (R166). Pacing 0 is FREE. -/
structure Channel where
  srcFrame : Nat := 0
  srcTarget : Nat := 0
  srcAddr : Nat := 0
  dstFrame : Nat := 0
  dstTarget : Nat := 0
  dstAddr : Nat := 0
  length : Nat := 256
  chunk : Nat := 256
  pacing : Nat := 0
  retry : Bool := false
  state : ChannelState := .idle
  remaining : Nat := 0
  readOffset : Nat := 0
  inFlight : List Chunk := []
  chunksThisEpoch : Nat := 0
  nextTag : Nat := 0
  fault : Option ChannelFault := none
  starts : Nat := 0
  chunksRead : Nat := 0
  chunksWritten : Nat := 0
  faults : Nat := 0
  discardedAnswers : Nat := 0
  deriving DecidableEq, Repr, Inhabited

/-! ## Management (chapter 10) -/

/-- The event kinds, in the order of their codes (11.5). -/
inductive EventKind where
  | linkUp | linkDown | linkRetrain | rateFallback | rootConflict | rootChanged | delayFail
  | locked | unlocked | holdover | freeRun | stepped | trimLimit | overcommit
  | slotInserted | slotAdmitted | extractRequest | slotQuiesced | surpriseRemoval | powerFault | attention
  | lockExpired | triggerLate | triggerOverflow | sectionFault | channelDone | channelFault | wasReset
  deriving DecidableEq, Repr, Inhabited

/-- The Notice States (10.1). -/
inductive NoticeState where
  | none | awaiting | sent | failed
  deriving DecidableEq, Repr, Inhabited

/-- One kind's record in the Event Summary (10.1). -/
structure EventRecord where
  pending : Bool := false
  count : Nat := 0
  notice : NoticeState := .none
  deriving DecidableEq, Repr, Inhabited

/-- Notice In Flight (10.1). -/
structure NoticeInFlight where
  kind : Nat
  tag : Nat
  stale : Bool := false
  deriving DecidableEq, Repr, Inhabited

/-- The management record (10.1). The manager is a requester frame and requester id. -/
structure Mgmt where
  manager : Option (Nat × Nat) := none
  noticeAddress : Nat := 0
  noticeEnable : BitVec 32 := 0
  summary : List (Nat × EventRecord) := []
  attentionSet : SlotSet := 0
  inFlight : Option NoticeInFlight := none
  nextTag : Nat := 0
  lastKind : Nat := 0
  reads : Nat := 0
  writes : Nat := 0
  deniedWrites : Nat := 0
  badRequests : Nat := 0
  noticesSent : Nat := 0
  noticesFailed : Nat := 0
  deriving DecidableEq, Repr, Inhabited

/-! ## The whole controller -/

/-- The state of one FL216, and the queue of commands that wait, first in, first out. -/
structure State where
  /-- The local oscillator's cycle count (11.1, local time). -/
  localTime : Nat := 0
  /-- The factory Unit Identifier (2.1). -/
  unitId : Nat := 1
  /-- The MGR_SLOT straps as sampled at power-on reset (R182). -/
  mgrSlot : Nat := 0
  port0 : Port := {}
  port1 : Port := {}
  topo : Topology := {}
  rtu : Rtu := {}
  trig : TriggerUnit := {}
  router : Router := {}
  bindings : List (Nat × Binding) := []
  /-- The bytes of the Section Pool, 1,024 blocks of 512 bytes (6.1). -/
  pool : List Host.Cell := []
  slots : List (Nat × Slot) := []
  trans : Trans := {}
  channels : List (Nat × Channel) := []
  mgmt : Mgmt := {}
  /-- The trigger edges driven on the slots' sidebands and not yet ended: slot and line (R73). -/
  sideband : List (Nat × Nat) := []
  /-- The model's own count of entries and arrivals, from which `order` fields are taken. -/
  serial : Nat := 0
  pending : List Instr := []
  deriving DecidableEq, Repr, Inhabited

/-- The machine right after power-on reset (R182 and the rules it names), strapped root with manager
slot 0 and with no cable and no module present (log entry 1). -/
def State.reset : State :=
  { topo := { frameNumber := some 0, root := true, hops := some 0, directory := [(0, ⟨.here, 0, 1⟩)] }
    rtu := { state := .reference }
    mgmt := { manager := some (0, 0), summary := [(27, { pending := true, count := 1 })] } }

/-- The reasons a step faults. There is none: the specification gives every command an effect in every
state, so this type has no constructor. -/
inductive Fault where
  deriving DecidableEq, Repr

/-- The reasons a step is refused. -/
inductive Refusal where
  /-- Raised by `exec` for a command that has no meaning yet; safe (the machine stops). No arm raises it. -/
  | notModelled (mnemonic : String)
  deriving DecidableEq, Repr

end Sys2Proof.Machine
end

