-- ==== Sys2Proof/Machine/Operands.lean ====
section
/-! DEFINITION. Machine/Operands.lean: the codings of 11.1 and 11.5, the swaps of R110, the lane credit
cost of R109, and the exact arithmetic (rounding, clamping, time modulo 2^56) the rules use. -/

namespace Sys2Proof.Machine

/-- A counter moved up by `k`, saturating at its maximum (Conventions, Counters). -/
def bumpBy (k n : Nat) : Nat := min (n + k) Config.counterMax

/-- A counter moved up by one. -/
def bump (n : Nat) : Nat := bumpBy 1 n

/-- The statuses in the order of their codes (11.5). -/
def Status.all : List Status :=
  [.ok, .busy, .timeout, .targetTimeout, .noTarget, .targetReset, .unreachable, .noFrame, .denied,
   .writeProtected, .lockLost, .aborted, .badRequest, .linkLost, .duplicateNumber, .noBandwidth, .overlap, .inUse]

/-- The code of a status (11.5). -/
def Status.code : Status → Nat
  | .ok => 0
  | .busy => 1
  | .timeout => 2
  | .targetTimeout => 3
  | .noTarget => 4
  | .targetReset => 5
  | .unreachable => 6
  | .noFrame => 7
  | .denied => 8
  | .writeProtected => 9
  | .lockLost => 10
  | .aborted => 11
  | .badRequest => 12
  | .linkLost => 13
  | .duplicateNumber => 14
  | .noBandwidth => 15
  | .overlap => 16
  | .inUse => 17

/-- The status a code names, if any (11.5). -/
def Status.ofCode (c : Nat) : Option Status := Status.all[c]?

/-- The status an answer takes from a completion's code: an undefined one reads as BAD_REQUEST (R184). -/
def Status.received (c : Nat) : Status := (Status.ofCode c).getD .badRequest

/-- The swap a code names, if any (11.1). -/
def Swap.ofCode (c : Nat) : Option Swap :=
  match c with
  | 0 => some .none
  | 1 => some .bytes16
  | 2 => some .halves32
  | 3 => some .bytes32
  | _ => none

/-- The code of a swap. -/
def Swap.code : Swap → Nat
  | .none => 0
  | .bytes16 => 1
  | .halves32 => 2
  | .bytes32 => 3

/-- R110, BYTES16: groups of two bytes; a shorter trailing part is left as it is. -/
def swap16 : List Byte → List Byte
  | a :: b :: r => b :: a :: swap16 r
  | r => r

/-- R110, HALVES32. -/
def swapHalves : List Byte → List Byte
  | a :: b :: c :: d :: r => c :: d :: a :: b :: swapHalves r
  | r => r

/-- R110, BYTES32. -/
def swap32 : List Byte → List Byte
  | a :: b :: c :: d :: r => d :: c :: b :: a :: swap32 r
  | r => r

/-- R110: the bytes as a swap delivers them, groups counted from the first byte. -/
def Swap.apply : Swap → List Byte → List Byte
  | .none, r => r
  | .bytes16, r => swap16 r
  | .halves32, r => swapHalves r
  | .bytes32, r => swap32 r

/-- R109, R124: the lane credits of a message of `d` data bytes with its 16-byte header. -/
def laneCost (d : Nat) : Nat := (16 + d + 63) / 64

/-- Nearest value within ±`m`. -/
def clampInt (m x : Int) : Int := max (-m) (min m x)

/-- Division rounded half away from zero (R50, R51, R57). -/
def divAway (a : Int) (b : Nat) : Int := a.sign * (((2 * a.natAbs + b) / (2 * b) : Nat) : Int)

/-- The number of ticks from `now` to `t`, modulo 2^56 (R63). -/
def tickDiff (t now : Nat) : Nat := (t + 2 ^ 56 - now % 2 ^ 56) % 2 ^ 56

/-- R63: the fire time lies in the future of `now`. -/
def inFuture (t now : Nat) : Bool := decide (1 ≤ tickDiff t now ∧ tickDiff t now ≤ 2 ^ 55 - 1)

/-- R72: two fire times lie within 16 ticks of each other. -/
def withinMerge (t u : Nat) : Bool := decide (tickDiff t u ≤ 16 ∨ tickDiff u t ≤ 16)

/-- R89: the wire bytes of a stream whose Epoch Quota is `q`. -/
def wireBytes (q : Nat) : Nat := q + 20 * (q / 256 + 1)

/-- R89: a port's Limit, 75% of its epoch capacity at its rate. -/
def rateLimit : Rate → Nat
  | .base => 196608
  | .fast => 786432

/-- A timebase state is timed (R54 to R58, 3.6). -/
def Timebase.timed : Timebase → Bool
  | .reference => true
  | .track => true
  | .holdover => true
  | .free => false
  | .acquire => false

/-- A guard covers an entry (R92). -/
def Guard.covers (g : Guard) (i : Nat) : Bool := (decide (g.low ≤ i) && decide (i ≤ g.high)) != g.complement

/-- Window, channel and slot targets: a slot 0 to 15 or CONTROLLER (8.1). -/
def validTarget (t : Nat) : Bool := decide (t ≤ 15) || t == controllerTarget

/-- The slots of a set, in ascending order. -/
def slotsOf (set : SlotSet) : List Nat := (List.range 16).filter (fun i => set.getLsbD i)

/-- A set with one slot added. -/
def addSlot (set : SlotSet) (i : Nat) : SlotSet := set ||| (1#16 <<< i)

/-- The code of an event kind (11.5). -/
def EventKind.code : EventKind → Nat
  | .linkUp => 0
  | .linkDown => 1
  | .linkRetrain => 2
  | .rateFallback => 3
  | .rootConflict => 4
  | .rootChanged => 5
  | .delayFail => 6
  | .locked => 7
  | .unlocked => 8
  | .holdover => 9
  | .freeRun => 10
  | .stepped => 11
  | .trimLimit => 12
  | .overcommit => 13
  | .slotInserted => 14
  | .slotAdmitted => 15
  | .extractRequest => 16
  | .slotQuiesced => 17
  | .surpriseRemoval => 18
  | .powerFault => 19
  | .attention => 20
  | .lockExpired => 21
  | .triggerLate => 22
  | .triggerOverflow => 23
  | .sectionFault => 24
  | .channelDone => 25
  | .channelFault => 26
  | .wasReset => 27

/-- The number of event kinds (11.5). -/
def kindCount : Nat := 28

end Sys2Proof.Machine
end

