-- ==== Sys2Proof/Machine/Table.lean ====
section
/-! DEFINITION. Machine/Table.lean: numbered entries as a list of keys and values in one canonical
form, and the operations that keep it. -/

namespace Sys2Proof.Machine

/-- The value listed under a key, if any. -/
def tfind {α : Type} : List (Nat × α) → Nat → Option α
  | [], _ => none
  | (j, v) :: r, k => if j = k then some v else tfind r k

/-- The table without a key. -/
def tdel {α : Type} (t : List (Nat × α)) (k : Nat) : List (Nat × α) := t.filter (fun e => e.1 != k)

/-- A key and value put before the first greater key. -/
def tins {α : Type} (k : Nat) (v : α) : List (Nat × α) → List (Nat × α)
  | [] => [(k, v)]
  | e :: r => if k < e.1 then (k, v) :: e :: r else e :: tins k v r

/-- The table with a key's value replaced. -/
def tput {α : Type} (t : List (Nat × α)) (k : Nat) (v : α) : List (Nat × α) := tins k v (tdel t k)

/-- The value under a key, where an unlisted key reads as `d`. -/
def tgetD {α : Type} (d : α) (t : List (Nat × α)) (k : Nat) : α := (tfind t k).getD d

/-- The table with a key's value replaced; the value `d` removes the entry. -/
def tset {α : Type} [DecidableEq α] (d : α) (t : List (Nat × α)) (k : Nat) (v : α) : List (Nat × α) :=
  if v = d then tdel t k else tput t k v

/-- The keys rise strictly. -/
def tsorted {α : Type} (t : List (Nat × α)) : Bool := decide (List.Pairwise (fun a b => a.1 < b.1) t)

/-- The canonical form of a table whose unlisted keys read as `d`. -/
def twf {α : Type} [DecidableEq α] (d : α) (t : List (Nat × α)) : Bool := tsorted t && t.all (fun e => decide (e.2 ≠ d))

/-- The lowest key below `n` that is not listed. -/
def tfree {α : Type} (t : List (Nat × α)) (n : Nat) : Option Nat := (List.range n).find? (fun k => (tfind t k).isNone)

end Sys2Proof.Machine
end

