-- ==== Sys2Proof/Machine/Ops.lean ====
section
/-! DEFINITION. Machine/Ops.lean: the one reader and the one writer of each record of the state, the
Section Pool's bytes, and the counts and credits that several units share. -/

namespace Sys2Proof.Machine

/-! ## Records -/

/-- A cable port's record. -/
def State.port (s : State) : PortId → Port
  | .p0 => s.port0
  | .p1 => s.port1

/-- The state with a cable port's record replaced. -/
def State.setPort (s : State) (p : PortId) (r : Port) : State :=
  match p with
  | .p0 => { s with port0 := r }
  | .p1 => { s with port1 := r }

/-- The state with a cable port's record changed. -/
def State.updPort (s : State) (p : PortId) (f : Port → Port) : State := s.setPort p (f (s.port p))

/-- A port's counters changed. -/
def State.countPort (s : State) (p : PortId) (f : PortCounters → PortCounters) : State :=
  s.updPort p (fun r => { r with counters := f r.counters })

/-- A slot's record. -/
def State.slot (s : State) (i : Nat) : Slot := tgetD {} s.slots i

/-- The state with a slot's record replaced. -/
def State.setSlot (s : State) (i : Nat) (r : Slot) : State := { s with slots := tset {} s.slots i r }

/-- The state with a slot's record changed. -/
def State.updSlot (s : State) (i : Nat) (f : Slot → Slot) : State := s.setSlot i (f (s.slot i))

/-- A slot's counters changed. -/
def State.countSlot (s : State) (i : Nat) (f : SlotCounters → SlotCounters) : State :=
  s.updSlot i (fun r => { r with counters := f r.counters })

/-- A binding. -/
def State.binding (s : State) (i : Nat) : Binding := tgetD {} s.bindings i

/-- The state with a binding replaced. -/
def State.setBinding (s : State) (i : Nat) (b : Binding) : State := { s with bindings := tset {} s.bindings i b }

/-- A Route Table entry. -/
def State.route (s : State) (tag : Nat) : RouteEntry := tgetD {} s.router.table tag

/-- The state with a Route Table entry replaced. -/
def State.setRoute (s : State) (tag : Nat) (e : RouteEntry) : State :=
  { s with router := { s.router with table := tset {} s.router.table tag e } }

/-- The router record's fields for a port. -/
def Router.port (r : Router) : PortId → RouterPort
  | .p0 => r.port0
  | .p1 => r.port1

/-- The router record with a port's fields replaced. -/
def Router.setPort (r : Router) (p : PortId) (x : RouterPort) : Router :=
  match p with
  | .p0 => { r with port0 := x }
  | .p1 => { r with port1 := x }

/-- A channel record. -/
def State.channel (s : State) (c : Nat) : Channel := tgetD {} s.channels c

/-- The state with a channel record replaced. -/
def State.setChannel (s : State) (c : Nat) (r : Channel) : State := { s with channels := tset {} s.channels c r }

/-- The state with the Transaction Unit changed. -/
def State.updTrans (s : State) (f : Trans → Trans) : State := { s with trans := f s.trans }

/-- An OTT entry, if the index is in use. -/
def State.ottEntry (s : State) (i : Nat) : Option OttEntry := tfind s.trans.ott i

/-- The state with an OTT entry written. -/
def State.setOtt (s : State) (i : Nat) (e : OttEntry) : State :=
  { s with trans := { s.trans with ott := tput s.trans.ott i e } }

/-- The state with an OTT entry removed. -/
def State.delOtt (s : State) (i : Nat) : State := { s with trans := { s.trans with ott := tdel s.trans.ott i } }

/-- An entry of the Inbound Request List, if the Handle is in use. -/
def State.inEntry (s : State) (h : Nat) : Option InEntry := tfind s.trans.inbound h

/-- The state with an inbound entry written. -/
def State.setIn (s : State) (h : Nat) (e : InEntry) : State :=
  { s with trans := { s.trans with inbound := tput s.trans.inbound h e } }

/-- The state with an inbound entry removed. -/
def State.delIn (s : State) (h : Nat) : State :=
  { s with trans := { s.trans with inbound := tdel s.trans.inbound h } }

/-- A slot's lock record. -/
def State.lock (s : State) (i : Nat) : Lock := tgetD {} s.trans.locks i

/-- The state with a slot's lock record replaced. -/
def State.setLock (s : State) (i : Nat) (l : Lock) : State :=
  { s with trans := { s.trans with locks := tset {} s.trans.locks i l } }

/-- A window. -/
def State.window (s : State) (i : Nat) : Window := tgetD {} s.trans.windows i

/-- The state with a window replaced. -/
def State.setWindow (s : State) (i : Nat) (w : Window) : State :=
  { s with trans := { s.trans with windows := tset {} s.trans.windows i w } }

/-- A Trigger Map entry (4.1). -/
def State.trigEntry (s : State) (line : Nat) : TriggerEntry := tgetD {} s.trig.map line

/-- The Origin Sequence of a line (4.1). -/
def State.originSeq (s : State) (line : Nat) : Nat := tgetD 0 s.trig.originSeq line

/-- The Seen List of a line, newest first (4.1). -/
def State.seen (s : State) (line : Nat) : List Seen := tgetD [] s.trig.seen line

/-- The state with the trigger record changed. -/
def State.updTrig (s : State) (f : TriggerUnit → TriggerUnit) : State := { s with trig := f s.trig }

/-- The record of an event kind, by its code (10.3). -/
def State.event (s : State) (k : Nat) : EventRecord := tgetD {} s.mgmt.summary k

/-- The state with an event kind's record replaced. -/
def State.setEvent (s : State) (k : Nat) (r : EventRecord) : State :=
  { s with mgmt := { s.mgmt with summary := tset {} s.mgmt.summary k r } }

/-- The state with the management record changed. -/
def State.updMgmt (s : State) (f : Mgmt → Mgmt) : State := { s with mgmt := f s.mgmt }

/-- A Mark Record. -/
def Topology.mark (t : Topology) : PortId → Option MarkRecord
  | .p0 => t.mark0
  | .p1 => t.mark1

/-- The topology record with a port's Mark Record replaced. -/
def Topology.setMark (t : Topology) (p : PortId) (m : Option MarkRecord) : Topology :=
  match p with
  | .p0 => { t with mark0 := m }
  | .p1 => { t with mark1 := m }

/-- The state with the topology record changed. -/
def State.updTopo (s : State) (f : Topology → Topology) : State := { s with topo := f s.topo }

/-- This controller's Frame Number as a frame field carries it: UNNUMBERED is 3Fh (11.1). -/
def State.frameCode (s : State) : Nat := s.topo.frameNumber.getD unnumberedCode

/-- A local time has been reached. -/
def State.reached (s : State) (t : Nat) : Bool := decide (t ≤ s.localTime)

/-- A new serial number, for the fields that say which of a group is oldest. -/
def State.nextSerial (s : State) : State := { s with serial := s.serial + 1 }

/-! ## The Section Pool (6.1) -/

/-- What a byte of the Section Pool reads as before anything has written it: zero. No unwritten byte is
ever delivered (R98, R106; log entry 5). -/
def poolDefault : Byte := 0

/-- A byte of the Section Pool. -/
def poolRead (m : List Host.Cell) (a : Nat) : Byte := tgetD poolDefault m a

/-- The pool with one byte written. -/
def poolWrite (m : List Host.Cell) (a : Nat) (b : Byte) : List Host.Cell := tset poolDefault m a b

/-- The pool with consecutive bytes written. -/
def poolWriteAll (m : List Host.Cell) (a : Nat) : List Byte → List Host.Cell
  | [] => m
  | b :: bs => poolWriteAll (poolWrite m a b) (a + 1) bs

/-- The canonical form of the Section Pool: addresses strictly rising, no entry equal to what an
unlisted address reads as. -/
abbrev Memory.wf (m : List Host.Cell) : Prop := twf poolDefault m = true

/-! ## Credits and receive buffers (R13 to R15) -/

/-- The limit of a class as the peer advertised it (R5, R15). -/
def Port.limit (r : Port) (c : ParcelClass) : Nat :=
  match r.peer, c with
  | some q, .stream => q.limStream
  | some q, .request => q.limRequest
  | some q, .completion => q.limCompletion
  | _, _ => 0

/-- A CREDIT stands in the link control queue (R14). -/
def Port.creditWaits (r : Port) : Bool := r.qLink.any (fun i => match i with | .credit => true | _ => false)

/-- R16: an offer to the link control queue, dropped and counted when the queue is full. -/
def Port.offerLink (r : Port) (i : LinkItem) : Port :=
  if r.qLink.length < 32 then { r with qLink := r.qLink ++ [i] }
  else { r with counters := { r.counters with txDrops := bump r.counters.txDrops } }

/-- R16: an offer to the timing queue, dropped and counted when the queue is full. -/
def Port.offerTiming (r : Port) (i : TimingItem) : Port :=
  if r.qTiming.length < 8 then { r with qTiming := r.qTiming ++ [i] }
  else { r with counters := { r.counters with txDrops := bump r.counters.txDrops } }

/-- R46, R47: a port's Delay, where Delay Valid is true. -/
def Port.validDelay (r : Port) : Option Nat := if r.delayValid then some r.delay else none

/-- R16: an offer to the stream queue, dropped and counted when the queue is full. -/
def Port.offerStream (r : Port) (p : StreamParcel) : Port :=
  if r.qStream.length < 128 then { r with qStream := r.qStream ++ [p] }
  else { r with counters := { r.counters with tailDrops := bump r.counters.tailDrops } }

/-- Freed Credits with one more of a credited class (R14). -/
def Credits.add (c : Credits) : ParcelClass → Credits
  | .stream => { c with stream := c.stream + 1 }
  | .request => { c with request := c.request + 1 }
  | .completion => { c with completion := c.completion + 1 }
  | _ => c

/-- A class is credited (R13). -/
def isCredited : ParcelClass → Bool
  | .stream => true
  | .request => true
  | .completion => true
  | _ => false

/-- R14: a buffer of a class frees. In MEASURE and UP a credited class's buffer is counted in Freed
Credits, and a CREDIT is queued when none waits. -/
def Port.freeBuffer (r : Port) (c : ParcelClass) : Port :=
  if isCredited c && (r.state == .measure || r.state == .up) then
    let r1 := { r with freed := r.freed.add c }
    if r1.creditWaits then r1 else r1.offerLink .credit
  else r

end Sys2Proof.Machine
end

