-- ==== Sys2Proof/Machine/Flags.lean ====
section
/-! DEFINITION. Machine/Flags.lean: the Event Summary's flags: raising a kind, clearing kinds, and the
Notice States that follow an enable (R177). -/

namespace Sys2Proof.Machine

/-- R177: a kind's record after a raise; `enabled` is its Notice Enable. -/
def EventRecord.raise (enabled : Bool) (r : EventRecord) : EventRecord :=
  { pending := true
    count := min (r.count + 1) 255
    notice := if r.pending then r.notice else if enabled then .awaiting else .none }

/-- R177: a kind is raised. -/
def raise (k : EventKind) (s : State) : State :=
  s.setEvent k.code ((s.event k.code).raise (s.mgmt.noticeEnable.getLsbD k.code))

/-- Several kinds raised, in order. -/
def raiseAll (ks : List EventKind) (s : State) : State := ks.foldl (fun s k => raise k s) s

/-- A kind raised when a condition holds. -/
def raiseIf (b : Bool) (k : EventKind) (s : State) : State := if b then raise k s else s

/-- R177: one kind, by its code, is cleared; a notice in flight for it becomes stale, and clearing
ATTENTION empties the Attention Set. -/
def clearKind (s : State) (k : Nat) : State :=
  let s1 := s.setEvent k {}
  let s2 := s1.updMgmt (fun m => { m with
    inFlight := m.inFlight.map (fun n => if n.kind = k then { n with stale := true } else n) })
  if k = EventKind.attention.code then s2.updMgmt (fun m => { m with attentionSet := 0 }) else s2

/-- R177: the named kinds are cleared. -/
def clearKinds (set : BitVec 32) (s : State) : State :=
  ((List.range kindCount).filter (fun k => set.getLsbD k)).foldl clearKind s

/-- R177: a kind's Notice State after its enable is written. -/
def EventRecord.enableNotice (enabled : Bool) (r : EventRecord) : EventRecord :=
  if enabled then
    if r.pending && r.notice == .none then { r with notice := .awaiting } else r
  else if r.notice == .awaiting then { r with notice := .none } else r

end Sys2Proof.Machine
end

