-- ==== Sys2Proof/Machine/Arbiter.lean ====
section
/-! DEFINITION. Machine/Arbiter.lean: the requesters of this frame that wait for an entry of the
Outstanding Transaction Table, and the table's arbiter (R141, R146, R168, R169, R179). -/

namespace Sys2Proof.Machine

/-- The OTT index of a requester id and tag (R152). -/
def State.findOtt (s : State) (id tag : Nat) : Option Nat :=
  (List.range 32).find? (fun i => match s.ottEntry i with | some e => e.id == id && e.tag == tag | none => false)

/-- R141, R146: the number of OTT entries a requester id holds. -/
def State.heldBy (s : State) (id : Nat) : Nat := (s.trans.ott.filter (fun e => e.2.id == id)).length

/-- R146: a requester's share of the OTT. -/
def shareOf (id : Nat) : Nat := if id ≤ 15 then 8 else if id ≤ 19 then 2 else 1

/-- R168: a channel has a chunk to start. -/
def State.chunkToStart (s : State) (c : Nat) : Bool :=
  let r := s.channel c
  r.state == .running && decide (r.readOffset < r.length) && decide (r.inFlight.length < 2)
    && (r.pacing == 0 || decide (r.chunksThisEpoch < r.pacing)) && decide (s.heldBy (16 + c) < 2)

/-- R169: the item whose write a channel has to start: the oldest, once HELD. -/
def State.writeToStart (s : State) (c : Nat) : Option Chunk :=
  let r := s.channel c
  if r.state = .running ∨ r.state = .paused then
    match r.inFlight with
    | x :: _ => if x.stage = .held then some x else none
    | [] => none
  else none

/-- R179: the first AWAITING kind after Last Notice Kind. -/
def State.nextNoticeKind (s : State) : Option Nat :=
  ((List.range kindCount).map (fun d => (s.mgmt.lastKind + 1 + d) % kindCount)).find?
    (fun k => (s.event k).notice == .awaiting)

/-- R179: the notice engine has a notice to send: its kind and the Manager. -/
def State.noticeToSend (s : State) : Option (Nat × Nat × Nat) :=
  match s.mgmt.inFlight, s.topo.frameNumber, s.mgmt.manager, s.nextNoticeKind with
  | none, some _, some (f, i), some k => some (k, f, i)
  | _, _, _, _ => none

/-- R141: a slot has a request at the head of its lane that contends for an entry. -/
def State.slotWaits (s : State) (i : Nat) : Bool :=
  let r := s.slot i
  r.lane == .up && (match r.waiting with
    | w :: _ => !w.refused && (s.findOtt i w.req.tag).isNone
    | [] => false)

/-- R141: a requester waits for an OTT entry, and its share has room. -/
def State.waitsForEntry (s : State) (id : Nat) : Bool :=
  decide (s.heldBy id < shareOf id)
    && (if id ≤ 15 then s.slotWaits id
        else if id ≤ 19 then s.chunkToStart (id - 16) || (s.writeToStart (id - 16)).isSome
        else s.noticeToSend.isSome)

/-- R141: the requesters that wait. -/
def State.waiters (s : State) : List Nat := (List.range 21).filter s.waitsForEntry

/-- R141: the first of a set of requesters, counting 0 to 20 and round from the one after that which took
the last freed entry. -/
def State.firstOf (s : State) (ids : List Nat) : Option Nat :=
  let start := match s.trans.lastTaken with | some k => k + 1 | none => 0
  ((List.range 21).map (fun d => (start + d) % 21)).find? (fun id => ids.contains id)

/-- R141: the requesters that wait and have been given no entry. -/
def State.contending (s : State) : List Nat := s.waiters.filter (fun id => !s.trans.granted.contains id)

/-- R141: the arbiter gives a freed entry to one of the requesters that contend, and counts on from it. An
entry for which none contends stands free. -/
def State.giveOne (s : State) : State :=
  match s.firstOf s.contending with
  | some id => s.updTrans (fun t => { t with granted := t.granted ++ [id], lastTaken := some id })
  | none => s

/-- R141: the arbiter gives freed entries one after the other. -/
def State.give : Nat → State → State
  | 0, s => s
  | n + 1, s => State.give n s.giveOne

/-- R141: the entries of the table that are held, or given and not yet taken. -/
def State.claimed (s : State) : Nat := s.trans.ott.length + s.trans.granted.length

/-- R141: an entry given to a requester that no longer waits goes to the next that contends. -/
def State.regrant (s : State) : State :=
  let live := s.trans.granted.filter s.waitsForEntry
  State.give (s.trans.granted.length - live.length) (s.updTrans (fun t => { t with granted := live }))

/-- R141: from `s` to `t` entries have left the table. Where none was free in `s`, the arbiter gives each
to a requester that waits in `t` (log entry 15). -/
def State.noteFreed (s t : State) : State :=
  if 32 ≤ s.claimed then State.give (s.trans.ott.length - t.trans.ott.length) t.regrant else t

/-- R141, R156: an entry leaves the table. -/
def State.freeOtt (s : State) (i : Nat) : State := s.noteFreed (s.delOtt i)

/-- R141: a requester may take an entry: one that it was given, or one that is free and given to none; where
more contend than such entries stand, the first of them (log entry 15). -/
def State.hasTurn (s : State) (id : Nat) : Bool :=
  s.trans.granted.contains id || decide (s.claimed + s.contending.length ≤ 32)
    || (decide (s.claimed < 32) && s.firstOf s.contending == some id)

/-- R141: the entry that a waiting requester may take now. -/
def State.grant (s : State) (id : Nat) : Option Nat :=
  if s.waitsForEntry id && s.regrant.hasTurn id then tfree s.trans.ott 32 else none

end Sys2Proof.Machine
end

