-- ==== Sys2Proof/Machine/RackTime.lean ====
section
/-! DEFINITION. Machine/RackTime.lean: the Rack Time Unit (chapter 3): the counter, the delay
arithmetic, the servo, steps and loads, and the timebase states. A function here maps the timebase
record to the record and the event kinds raised with it. -/

namespace Sys2Proof.Machine

/-- A change of the timebase record and the kinds it raises. -/
abbrev RtuStep := Rtu × List EventKind

/-- The state after a change of the timebase record. -/
def State.applyRtu (s : State) (x : RtuStep) : State := raiseAll x.2 { s with rtu := x.1 }

/-- Rack Time in sixteenths: 60 bits (R18, R45). -/
def Rtu.stamp (r : Rtu) : Nat := r.rackTime.toNat / 2 ^ 28

/-- The integer part of Rack Time, in ticks (R42). -/
def Rtu.ticks (r : Rtu) : Nat := r.rackTime.toNat / 2 ^ 32

/-- The bound of Trim and Root Trim (R42). -/
def trimMax : Int := 1048576

/-- The bound of the Correction (R42). -/
def correctionMax : Int := 4194304

/-- R42: the Correction of the present cycle, by the timebase state. -/
def Rtu.correction (r : Rtu) : Int :=
  match r.state with
  | .reference => r.rootTrim
  | .free => r.trim
  | .holdover => r.trim
  | .acquire | .track =>
    match r.slew with
    | some w => clampInt correctionMax (r.trim - w.s * 2048)
    | none => r.trim

/-- R42: Rack Time after one local cycle; a Slew present counts down. -/
def Rtu.cycle (r : Rtu) : Rtu :=
  { r with
    rackTime := r.rackTime + BitVec.ofInt 88 (4294967296 + r.correction)
    slew := r.slew.map (fun w => { w with cycles := w.cycles - 1 }) }

/-- R43: the integer part has reached a multiple of 2^17 that the Epoch Number does not yet show. -/
def Rtu.boundaryReached (r : Rtu) : Bool := r.ticks / 2 ^ 17 != r.epoch

/-- Rack Time at the boundary instant: as it stands when it has reached the boundary, and otherwise the
next boundary exactly (log entry 2). -/
def Rtu.boundaryTime (r : Rtu) : BitVec 88 :=
  if r.boundaryReached then r.rackTime else BitVec.ofNat 88 ((r.epoch + 1) % 2 ^ 39 * 2 ^ 49)

/-! ## Cable delay (R48, R49) -/

/-- R48: the sample of one echo, none where it is invalid. -/
def Echo.sample (e : Echo) : Option Nat :=
  match e.t1, e.reply with
  | some t1, some (t2, t3, t4) =>
    let trip := (t4 + 2 ^ 60 - t1) % 2 ^ 60
    let hold := (t3 + 2 ^ 60 - t2) % 2 ^ 60
    if e.spanned || decide (65535 < trip) || decide (trip < hold) then none
    else some ((trip - hold + 1) / 2)
  | _, _ => none

/-- R49: the result of a burst, none where fewer than four samples are valid. -/
def burstResult (es : List Echo) : Option Nat :=
  let v := es.filterMap Echo.sample
  if v.length < 4 then none else some ((2 * v.sum + v.length) / (2 * v.length))

/-! ## The servo (R50, R51) -/

/-- R50: a Trim value at the end of the history, the oldest leaving a full list. -/
def pushTrim (h : List Int) (t : Int) : List Int := (if 16 ≤ h.length then h.drop 1 else h) ++ [t]

/-- R50 and R51: one servo update with offset `θ`. -/
def Rtu.servo (θ : Int) (r : Rtu) : RtuStep :=
  let raw := r.trim - divAway (θ * 2048) (2 ^ r.gi)
  let trim := clampInt trimMax raw
  let s := divAway θ (2 ^ r.gp)
  let corr := trim - s * 2048
  ({ r with
      trim := trim
      trimHistory := pushTrim r.trimHistory trim
      marksUsed := bump r.marksUsed
      trimClamps := if trim = raw then r.trimClamps else bump r.trimClamps
      slew := some ⟨s, 131072⟩
      correctionClamps := if clampInt correctionMax corr = corr then r.correctionClamps else bump r.correctionClamps },
   if trim = raw then [] else [.trimLimit])

/-- The Step Threshold in sixteenths (R52). -/
def Rtu.threshold (r : Rtu) : Int := (r.st : Int) * 16

/-! ## Timebase states (3.6) -/

/-- R54: entry to ACQUIRE from FREE or HOLDOVER. -/
def Rtu.enterAcquire (r : Rtu) : Rtu :=
  { r with state := .acquire, lockCount := 0, wideCount := 0, outlierCount := 0, holdoverEpochs := 0 }

/-- R55: the return from TRACK to ACQUIRE, which raises UNLOCKED. -/
def Rtu.unlock (r : Rtu) : Rtu := { r with state := .acquire, lockCount := 0, wideCount := 0, outlierCount := 0 }

/-- R55: Lock Count after a mark in ACQUIRE; the eighth mark within the Lock Window enters TRACK, where
no Pending Step stands (R52). -/
def Rtu.countLock (θ : Int) (x : RtuStep) : RtuStep :=
  let r := x.1
  if θ.natAbs ≤ r.lw then
    if 8 ≤ r.lockCount + 1 then
      ({ r with state := .track, lockCount := 0, wideCount := 0, outlierCount := 0, pendingStep := none },
       x.2 ++ [.locked])
    else ({ r with lockCount := r.lockCount + 1 }, x.2)
  else ({ r with lockCount := 0 }, x.2)

/-- R51, R52, R55: a usable mark in ACQUIRE. -/
def Rtu.acquireMark (θ : Int) (r : Rtu) : RtuStep :=
  Rtu.countLock θ
    (if θ.natAbs ≤ r.threshold.natAbs then Rtu.servo θ { r with pendingStep := none }
     else if r.stepAllowed then ({ r with pendingStep := some (-θ), lockCount := 0 }, [])
     else Rtu.servo (clampInt r.threshold θ) r)

/-- R53, R57: a usable mark in TRACK. Where LW exceeds ST × 16, a mark between the two is an outlier, as R53
has it, and drives no servo update under R57 (DESIGN CHOICE, log entry 47). -/
def Rtu.trackMark (θ : Int) (r : Rtu) : RtuStep :=
  if θ.natAbs ≤ r.threshold.natAbs then
    let x := Rtu.servo θ { r with outlierCount := 0 }
    if θ.natAbs ≤ r.lw then ({ x.1 with wideCount := 0 }, x.2)
    else if 16 ≤ r.wideCount + 1 then (x.1.unlock, x.2 ++ [.unlocked])
    else ({ x.1 with wideCount := r.wideCount + 1 }, x.2)
  else
    let r1 := { r with outliers := bump r.outliers }
    if 4 ≤ r.outlierCount + 1 then (r1.unlock, [.unlocked])
    else ({ r1 with outlierCount := r.outlierCount + 1 }, [])

/-- R47: a usable mark with offset `θ` and epoch number `e`, handled by the timebase state. -/
def Rtu.usableMark (θ : Int) (e : Nat) (r : Rtu) : RtuStep :=
  let r1 := { r with lastOffset := some θ, lastMarkEpoch := e, markGap := 0 }
  match r1.state with
  | .reference => (r1, [])
  | .free => Rtu.acquireMark θ r1.enterAcquire
  | .holdover => Rtu.acquireMark θ r1.enterAcquire
  | .acquire => Rtu.acquireMark θ r1
  | .track => Rtu.trackMark θ r1

/-- R57: the mean of Trim History rounded half away from zero; an empty history keeps Trim. -/
def Rtu.meanTrim (r : Rtu) : Int :=
  if r.trimHistory.length = 0 then r.trim else divAway r.trimHistory.sum r.trimHistory.length

/-- R56, R57: the timebase has lost its reference. -/
def Rtu.referenceLost (r : Rtu) : RtuStep :=
  match r.state with
  | .track =>
    ({ r with state := .holdover, trim := r.meanTrim, slew := none, holdoverEpochs := 0, markGap := 0,
              wideCount := 0, outlierCount := 0 }, [.holdover])
  | .acquire => ({ r with state := .free, slew := none, pendingStep := none, lockCount := 0, markGap := 0 }, [])
  | _ => (r, [])

/-- R57: Holdover Epochs has passed the Holdover Limit. -/
def Rtu.holdoverOver (r : Rtu) : RtuStep :=
  if r.state = .holdover ∧ r.holdoverLimit < r.holdoverEpochs then ({ r with state := .free }, [.freeRun]) else (r, [])

/-- R56, R57: the timebase's own counts at a boundary event. -/
def Rtu.boundaryCounts (r : Rtu) : RtuStep :=
  match r.state with
  | .acquire | .track =>
    let r1 := { r with markGap := min (r.markGap + 1) 3 }
    if 3 ≤ r1.markGap then r1.referenceLost else (r1, [])
  | .holdover => Rtu.holdoverOver { r with holdoverEpochs := r.holdoverEpochs + 1 }
  | _ => (r, [])

/-- R43, R52, R59: the boundary instant: a Pending Load or a Pending Step is applied and the Epoch
Number set. The flags are STEPPED and LOADED. -/
def Rtu.boundaryInstant (r : Rtu) : RtuStep × Bool × Bool :=
  let r0 := { r with rackTime := r.boundaryTime }
  match r0.pendingLoad, r0.pendingStep with
  | some v, _ =>
    let r1 := { r0 with rackTime := BitVec.ofNat 88 (v * 2 ^ 32), pendingLoad := none, loads := bump r0.loads }
    (({ r1 with epoch := r1.ticks / 2 ^ 17 }, []), false, true)
  | none, some a =>
    let r1 := { r0 with rackTime := r0.rackTime + BitVec.ofInt 88 (a * 2 ^ 28), pendingStep := none, slew := none,
                        steps := bump r0.steps }
    (({ r1 with epoch := r1.ticks / 2 ^ 17 }, [.stepped]), true, false)
  | none, none => (({ r0 with epoch := r0.ticks / 2 ^ 17 }, []), false, false)

/-- R47: the offset of a mark, in sixteenths, as a signed 60-bit value. -/
def markOffset (arrival : Nat) (m : Mark) (delay : Nat) : Int :=
  (BitVec.ofNat 60 arrival - BitVec.ofNat 60 (m.origin + m.correction + delay)).toInt

/-- The correction value that means saturated (R46). -/
def saturated : Nat := 2 ^ 32 - 1

end Sys2Proof.Machine
end

