-- ==== Sys2Proof/Machine/Topology.lean ====
section
/-! DEFINITION. Machine/Topology.lean: the Topology Unit (chapter 2): child and tree ports, the choice
of rootward port, HELLO fields, announces, the Frame Directory, and the bandwidth commitment that
follows the tree (R89, R91). -/

namespace Sys2Proof.Machine

/-- The port is UP. -/
def State.isUp (s : State) (p : PortId) : Bool := (s.port p).state == .up

/-- The peer's last HELLO claims this link as its rootward link (R30). -/
def Port.peerClaims (r : Port) : Bool := match r.peer with | some q => q.rootward | none => false

/-- R30: the port is a child port. -/
def State.isChild (s : State) (p : PortId) : Bool :=
  s.isUp p && s.topo.rootward != some p && (s.port p).peerClaims

/-- R30: the port is a tree port. -/
def State.isTree (s : State) (p : PortId) : Bool := s.topo.rootward == some p || s.isChild p

/-! ## Commitment (R89, R91) -/

/-- R89: the entry uses the port under the present tree. -/
def State.entryUses (s : State) (p : PortId) (e : RouteEntry) : Bool :=
  e.active && ((e.fwdRoot && s.topo.rootward == some p) || (e.fwdAway && s.isChild p))

/-- R89: Committed Bytes of a port over a whole Route Table. -/
def State.committedOver (s : State) (p : PortId) (t : List (Nat × RouteEntry)) : Nat :=
  t.foldl (fun a e => if s.entryUses p e.2 then a + wireBytes e.2.q else a) 0

/-- R91: one port's Committed Bytes and Overcommitted recomputed, with OVERCOMMIT where the flag
becomes true. -/
def recommitPort (s : State) (p : PortId) : State :=
  let x := s.router.port p
  let sum := s.committedOver p s.router.table
  let exceeds := decide (rateLimit (s.port p).rate < sum)
  raiseIf (exceeds && !x.overcommitted) .overcommit
    { s with router := s.router.setPort p { x with committed := sum, overcommitted := exceeds } }

/-- R91: the recomputation for both ports. -/
def recommit (s : State) : State := recommitPort (recommitPort s .p0) .p1

/-! ## HELLO and ANNOUNCE (R25, R32) -/

/-- R25: the HELLO of a port with the current values of its fields. -/
def State.buildHello (s : State) (p : PortId) : Hello where
  uid := s.unitId
  frame := s.frameCode
  hops :=
    if s.topo.root then 0
    else match s.topo.rootward with
      | some q => match s.topo.mark q with
        | some m => m.hops + 1
        | none => 255
      | none => 255
  root := s.topo.root
  rootward := s.topo.rootward == some p
  fast := (s.port p).rateRequest == .fast
  loopRequest := (s.port p).loopPending
  limStream := 64
  limRequest := 8
  limCompletion := 8

/-- R16: a HELLO put in the place of the one that waits. -/
def replaceHello (h : Hello) : List LinkItem → List LinkItem
  | [] => []
  | .hello _ :: r => .hello h :: r
  | i :: r => i :: replaceHello h r

/-- A HELLO waits in the link control queue. -/
def Port.helloWaits (r : Port) : Bool := r.qLink.any (fun i => match i with | .hello _ => true | _ => false)

/-- R16, R23: a port queues a HELLO; it replaces one still waiting. One dropped at a full queue lets a
FAR command, or a retrain that waits for it, lapse. -/
def sendHello (s : State) (p : PortId) : State :=
  s.updPort p (fun r =>
    if r.state = .pairing ∨ r.state = .measure ∨ r.state = .up then
      let h := s.buildHello p
      if r.helloWaits then { r with qLink := replaceHello h r.qLink }
      else if r.qLink.length < 32 then { r with qLink := r.qLink ++ [.hello h] }
      else { r with
        loopPending := false
        retrainPending := false
        counters := { r.counters with txDrops := bump r.counters.txDrops } }
    else r)

/-- R25: a fresh HELLO on each UP port. -/
def helloUpPorts (s : State) : State :=
  PortId.all.foldl (fun s p => if s.isUp p then sendHello s p else s) s

/-- An ANNOUNCE queued on each tree port that is UP, but for one port (R32, R35). -/
def announceExcept (except : Option PortId) (a : Announce) (s : State) : State :=
  PortId.all.foldl
    (fun s p => if s.isTree p && s.isUp p && except != some p then s.updPort p (fun r => r.offerLink (.announce a)) else s) s

/-- R32: the ANNOUNCE a numbered controller sends. -/
def sendAnnounce (s : State) : State :=
  match s.topo.frameNumber with
  | some f => announceExcept none ⟨f, 1, s.unitId⟩ s
  | none => s

/-! ## Purges and tree changes (R30, R34) -/

/-- R34: the directory entries whose Port is `p` are purged. -/
def purgePort (p : PortId) (s : State) : State :=
  s.updTopo (fun t => { t with directory := t.directory.filter (fun e => e.2.via != .port p) })

/-- R34: the ports that were tree ports before and are none now have their entries purged. -/
def purgeLost (before s : State) : State :=
  PortId.all.foldl (fun s p => if before.isTree p && !s.isTree p then purgePort p s else s) s

/-- R30: after an act that may have changed a child flag, the purge of R34 and the tree change's
recomputation (R91). -/
def treeChange (before s : State) : State :=
  if before.isChild .p0 = s.isChild .p0 ∧ before.isChild .p1 = s.isChild .p1 then s
  else recommit (purgeLost before s)

/-! ## The rootward port (R27 to R31) -/

/-- R27: the port is a candidate. -/
def State.isCandidate (s : State) (p : PortId) : Bool :=
  s.isUp p && !(s.port p).peerClaims && (match s.topo.mark p with | some m => decide (m.age < 3) | none => false)

/-- The Mark Record hops of a port. -/
def State.markHops (s : State) (p : PortId) : Nat := match s.topo.mark p with | some m => m.hops | none => 0

/-- R27: the best candidate among the ports other than a lost one. -/
def State.bestCandidate (s : State) (lost : Option PortId) : Option PortId :=
  let c0 := s.isCandidate .p0 && lost != some .p0
  let c1 := s.isCandidate .p1 && lost != some .p1
  if c0 && c1 then (if s.markHops .p1 < s.markHops .p0 then some .p1 else some .p0)
  else if c0 then some .p0
  else if c1 then some .p1
  else none

/-- R31: a rootward change to a port or to none, with the notices to the other units. The timebase loses
its reference where a Rootward Port was left (R56: to none, or from one port to another). -/
def rootwardChange (new : Option PortId) (s : State) : State :=
  let s1 := s.updTopo (fun t => { t with
    rootward := new
    hops := new.map (fun p => s.markHops p + 1)
    rootwardChanges := bump t.rootwardChanges })
  let s2 := purgeLost s s1
  let s3 := helloUpPorts s2
  let s4 := raise .rootChanged s3
  let s5 := sendAnnounce s4
  let s6 := recommit s5
  if s.topo.rootward.isSome then s6.applyRtu s6.rtu.referenceLost else s6

/-- R29: the Rootward Port is lost, and the best candidate takes its place at once. -/
def rootwardLost (p : PortId) (s : State) : State := rootwardChange (s.bestCandidate (some p)) s

/-- R29: the Rootward Port is lost where its Mark Record has reached Age 3. -/
def dropStaleRootward (s : State) : State :=
  match s.topo.rootward with
  | some p => match s.topo.mark p with
    | some m => if 3 ≤ m.age then rootwardLost p s else s
    | none => s
  | none => s

/-- R28: an unrooted controller takes the best candidate, if there is one. -/
def chooseRootward (s : State) : State :=
  if s.topo.root || s.topo.rootward.isSome then s
  else match s.bestCandidate none with
    | some p => rootwardChange (some p) s
    | none => s

/-- R27: a Mark Record one boundary event older. -/
def MarkRecord.older (m : MarkRecord) : MarkRecord := if m.age < 3 then { m with age := m.age + 1 } else m

/-- R27 to R29: the Topology Unit at a boundary event. -/
def topologyBoundary (s : State) : State :=
  let unrooted := s.topo.rootward.isNone
  let s1 := s.updTopo (fun t => { t with mark0 := t.mark0.map MarkRecord.older, mark1 := t.mark1.map MarkRecord.older })
  if unrooted then chooseRootward s1 else dropStaleRootward s1

/-! ## Marks (R26) -/

/-- The classes of R26. -/
inductive MarkClass where
  | overrange | alternate | rootward | child
  deriving DecidableEq, Repr

/-- R26: the class of a mark that arrives on a port. -/
def State.classifyMark (s : State) (p : PortId) (m : Mark) : MarkClass :=
  if 31 ≤ m.hops then .overrange
  else if s.topo.root then .alternate
  else if s.topo.rootward = some p then .rootward
  else if s.isChild p then .child
  else .alternate

/-- R26: a mark recorded in its port's Mark Record. -/
def recordMark (p : PortId) (m : Mark) (s : State) : State :=
  { s with topo := s.topo.setMark p (some ⟨m.hops, s.rtu.epoch, 0⟩) }

/-- R26, R47: an accepted mark that a port in UP hands over. -/
def acceptMark (p : PortId) (m : Mark) (s : State) : State :=
  match s.classifyMark p m with
  | .overrange => s.updTopo (fun t => { t with overrangeMarks := bump t.overrangeMarks })
  | .child => s.updTopo (fun t => { t with childMarks := bump t.childMarks })
  | .alternate => (recordMark p m s).updTopo (fun t => { t with alternateMarks := bump t.alternateMarks })
  | .rootward =>
    let stamp := s.rtu.stamp
    let s1 := (recordMark p m s).updTopo (fun t => { t with hops := some (m.hops + 1) })
    let s2 :=
      if s1.isUp p.other then
        s1.updPort p.other (fun r => r.offerTiming (.fwdMark p stamp { m with hops := m.hops + 1 } (s.port p).validDelay false))
      else s1
    if m.correction < saturated ∧ (s.port p).delayValid then
      s2.applyRtu (s2.rtu.usableMark (markOffset stamp m (s.port p).delay) m.epoch)
    else { s2 with rtu := { s2.rtu with marksUnusable := bump s2.rtu.marksUnusable } }

/-! ## Announces (R35) -/

/-- R35: the entries that hold a unit identifier are purged: by a withdrawal (none) those other than
LOCAL, and by the ANNOUNCE of a frame every one but that frame's own. -/
def purgeUid (uid : Nat) (keep : Option Nat) (t : Topology) : Topology :=
  { t with directory := t.directory.filter (fun e =>
    (keep.isNone && e.2.via == .here) || e.2.uid != uid || keep == some e.1) }

/-- R35: the ANNOUNCE is forwarded with its hop count raised. -/
def forwardAnnounce (p : PortId) (a : Announce) (s : State) : State :=
  if 31 ≤ a.hop then s else announceExcept (some p) { a with hop := a.hop + 1 } s

/-- R35: an arriving ANNOUNCE. -/
def acceptAnnounce (p : PortId) (a : Announce) (s : State) : State :=
  if !s.isTree p || a.hop < 1 || 31 < a.hop || !(a.frame ≤ 31 || a.frame == unnumberedCode) then
    s.updTopo (fun t => { t with announcesRefused := bump t.announcesRefused })
  else
    let s1 := s.updTopo (fun t => { t with announcesReceived := bump t.announcesReceived })
    if a.frame = unnumberedCode then forwardAnnounce p a (s1.updTopo (purgeUid a.uid none))
    else if s.topo.frameNumber = some a.frame then
      if a.uid = s.unitId then s1 else s1.updTopo (fun t => { t with numberClashes := bump t.numberClashes })
    else
      forwardAnnounce p a (s1.updTopo (fun t =>
        let t1 := purgeUid a.uid (some a.frame) t
        { t1 with directory := tput t1.directory a.frame ⟨.port p, a.hop, a.uid⟩ }))

/-- R148, R151: where the directory and the Rootward Port lead for a frame; none is UNREACHABLE. -/
def State.routeTo (s : State) (dest : Nat) : Option Via :=
  if s.topo.frameNumber = some dest then some .here
  else match tfind s.topo.directory dest with
    | some e => some e.via
    | none => s.topo.rootward.map .port

end Sys2Proof.Machine
end

