-- ==== Sys2Proof/Machine/Routing.lean ====
section
/-! DEFINITION. Machine/Routing.lean: what becomes of a request (R36 to R38, R148, R149), and what waits
for the room of a port's transaction queues (R150). -/

namespace Sys2Proof.Machine

/-! ## NEXT requests (R36 to R38) -/

/-- R36: the check of a request with destination NEXT; none where it passes. An ASSIGN of length 4 whose data is not
4 bytes long is refused like one of another length (DESIGN CHOICE, log entry 58). -/
def nextCheck (r : Request) (s : State) : Option Status :=
  if r.target ≠ controllerTarget then some .badRequest
  else match r.op with
    | .assign =>
      if r.length ≠ 4 ∨ r.data.length ≠ 4 ∨ beNat r.data < 1 ∨ 31 < beNat r.data then some .badRequest
      else if (tfind s.topo.directory (beNat r.data)).isSome then some .duplicateNumber
      else none
    | .read => if r.address + r.length ≤ 32 then none else some .denied
    | _ => some .denied

/-- The port a branch field names. -/
def branchPort (b : Nat) : Option PortId :=
  match b with
  | 0 => some .p0
  | 1 => some .p1
  | _ => none

/-- R37: the port away from the root that a NEXT request takes; none is NO_FRAME. -/
def State.nextPort (s : State) (branch : Nat) : Option PortId :=
  if s.topo.root || (s.isChild .p0 && s.isChild .p1) then
    match branchPort branch with
    | some p => if s.isChild p then some p else none
    | none => none
  else if s.isChild .p0 then some .p0
  else if s.isChild .p1 then some .p1
  else none

/-! ## What becomes of a request (R148, R149) -/

/-- What R36 to R38, R148 and R149 make of a request. -/
inductive Fate where
  | forward (p : PortId) (r : Request)
  | serve
  | takeNumber
  | answer (st : Status)
  deriving DecidableEq, Repr

/-- R148, R149: a request sent out of a port: with hop budget 31 from its originating controller, and
one lower when it came from a cable, also from a budget above 31 (DESIGN CHOICE, log entry 60); never back out of its
arrival port. -/
def sendOut (src : Option PortId) (p : PortId) (r : Request) : Fate :=
  match src with
  | none => .forward p { r with hop := 31 }
  | some q => if p = q then .answer .unreachable else .forward p { r with hop := r.hop - 1 }

/-- R37: a NEXT request goes on away from the root. -/
def State.nextOnward (s : State) (src : Option PortId) (r : Request) : Fate :=
  match s.nextPort ((r.ext.getD ⟨none, 0⟩).branch) with
  | some p => sendOut src p r
  | none => .answer .noFrame

/-- R36 to R38: a request with destination NEXT. -/
def State.nextFate (s : State) (src : Option PortId) (r : Request) : Fate :=
  match nextCheck r s with
  | some st => .answer st
  | none =>
    if s.topo.frameNumber.isSome then s.nextOnward src r
    else if r.op = .read then .serve
    else if (r.ext.getD ⟨none, 0⟩).expected.getD s.unitId = s.unitId then .takeNumber
    else s.nextOnward src r

/-- R41, R148, R149: what becomes of a request from this frame's OTT (none), or from a cable port. A request of the
OTT that a link-down has routed again (R155) after the number was released is UNREACHABLE like one issued or issued
again then (DESIGN CHOICE, log entry 59). The hop budget of 0 is judged before the form of a NEXT request (DESIGN
CHOICE, log entry 63). -/
def State.requestFate (s : State) (src : Option PortId) (r : Request) : Fate :=
  if src.isNone && s.topo.frameNumber.isNone then .answer .unreachable
  else if src.isSome && r.hop == 0 then .answer .unreachable
  else if r.dest = nextCode then s.nextFate src r
  else match s.routeTo r.dest with
    | some .here => .serve
    | some (.port p) => sendOut src p r
    | none => .answer .unreachable

/-! ## What waits for a port's transaction queues (R150) -/

/-- R16: a port's request queue takes an offer. -/
def State.requestRoom (s : State) (p : PortId) : Bool := s.isUp p && decide ((s.port p).qRequest.length < 16)

/-- The entry of a list whose `order` is least. -/
def oldest {α : Type} (f : α → Nat) : List (Nat × α) → Option (Nat × α)
  | [] => none
  | e :: r =>
    match oldest f r with
    | none => some e
    | some x => if f x.2 < f e.2 then some x else some e

/-- A held REQUEST with the port whose buffer it holds. -/
abbrev HeldReq := PortId × HeldRequest

/-- The held REQUESTs of both ports. -/
def State.heldReqs (s : State) : List HeldReq :=
  PortId.all.flatMap (fun q => (s.port q).heldRequests.map (fun h => (q, h)))

/-- R150: the first of a list by an `order`. -/
def earliest {α : Type} (f : α → Nat) : List α → Option α
  | [] => none
  | a :: l =>
    match earliest f l with
    | none => some a
    | some b => if f b < f a then some b else some a

/-- R150: a held REQUEST would be forwarded out of a port. -/
def State.goesOut (s : State) (p : PortId) (x : HeldReq) : Bool :=
  match s.requestFate (some x.1) x.2.req with
  | .forward q _ => q == p
  | _ => false

/-- R150: the oldest held REQUEST that waits for a port's request queue. -/
def State.oldestHeldOut (s : State) (p : PortId) : Option HeldReq :=
  earliest (fun x => x.2.order) (s.heldReqs.filter (s.goesOut p))

/-- R150: the oldest QUEUED entry of this frame that waits for a port's request queue. An entry is as old as its
take into the OTT, also where it was issued or routed again since (DESIGN CHOICE, log entry 73). -/
def State.oldestQueued (s : State) (p : PortId) : Option (Nat × OttEntry) :=
  oldest (·.order) (s.trans.ott.filter (fun e => e.2.state == .queued && e.2.via == some (.port p)))

/-- A held parcel that waits for room for a completion: a COMPLETION, or a REQUEST to be answered. -/
inductive HeldAny where
  | req (x : HeldReq)
  | comp (q : PortId) (h : HeldCompletion)
  deriving DecidableEq, Repr

/-- Which of the held parcels arrived first. -/
def HeldAny.order : HeldAny → Nat
  | .req x => x.2.order
  | .comp _ h => h.order

/-- R150, R151: a completion for a frame, from a parcel that arrived on `q`, waits for port `p`; one that
no longer goes to a port waits with its arrival port. -/
def State.completionWaits (s : State) (p q : PortId) (frame : Nat) : Bool :=
  match s.routeTo frame with
  | some (.port x) => x == p || (x == q && q == p)
  | _ => q == p

/-- R150: a held REQUEST is served or answered here, its completion waiting for a port. -/
def State.answersVia (s : State) (p : PortId) (x : HeldReq) : Bool :=
  match s.requestFate (some x.1) x.2.req with
  | .forward _ _ => false
  | _ => s.completionWaits p x.1 x.2.req.who.frame

/-- R150, R151: a held COMPLETION waits for a port, or no longer for any. -/
def State.compWaits (s : State) (p : PortId) (x : PortId × HeldCompletion) : Bool :=
  s.completionWaits p x.1 x.2.comp.who.frame

/-- R150: the held parcels whose completions wait for a port. -/
def State.heldFor (s : State) (p : PortId) : List HeldAny :=
  ((s.heldReqs.filter (s.answersVia p)).map HeldAny.req)
    ++ ((PortId.all.flatMap (fun q => (s.port q).heldCompletions.map (fun h => (q, h)))).filter (s.compWaits p)).map
      (fun x => HeldAny.comp x.1 x.2)

/-- R150, R160: the oldest inbound answer that waits for a port's completion queue: an answer is as old as the act
that gave it, and not as its entry's joining (DESIGN CHOICE, log entry 73). -/
def State.oldestInboundAnswer (s : State) (p : PortId) : Option (Nat × InEntry) :=
  oldest (·.order) (s.trans.inbound.filter (fun e =>
    e.2.state == .answering && e.2.source != .here && (match s.routeTo e.2.who.frame with
      | some (.port q) => q == p
      | _ => e.2.source == .port p)))

/-- R150: something waits for a port's request queue. -/
def State.requestWaiting (s : State) (p : PortId) : Bool := (s.oldestHeldOut p).isSome || (s.oldestQueued p).isSome

/-- R150: something waits for a port's completion queue. -/
def State.completionWaiting (s : State) (p : PortId) : Bool := !(s.heldFor p).isEmpty || (s.oldestInboundAnswer p).isSome

/-- R150: from `s` to `t` a transaction queue has taken a parcel past others that wait for it. An arrival
and a new offer of this frame join the waiting behind the older ones, and do not go past them. -/
def State.overtakes (s t : State) : Bool :=
  PortId.all.any (fun p =>
    (decide ((s.port p).qRequest.length < (t.port p).qRequest.length) && s.requestWaiting p)
      || (decide ((s.port p).qCompletion.length < (t.port p).qCompletion.length) && s.completionWaiting p))

end Sys2Proof.Machine
end

