-- ==== Sys2Proof/Machine/Answers.lean ====
section
/-! DEFINITION. Machine/Answers.lean: how answers reach their requesters: the answers of channels
(R169 to R171) and of the notice engine (R180), the OTT's answers (R152 to R156), the completions this
controller produces (R151), the answers of the Inbound Request List (R160), the release of locks
(R162), the departure cleanup (R129) and the link-down at the OTT (R155). -/

namespace Sys2Proof.Machine

/-! ## Requesters that take their answers at once (R156) -/

/-- R171: an answer that ends a channel's move. -/
def faultChannel (c : Nat) (destination : Bool) (st : Status) (s : State) : State :=
  let r := s.channel c
  raise .channelFault (s.setChannel c { r with
    fault := some ⟨destination, st⟩
    state := .faulted
    faults := bump r.faults
    inFlight := [] })

/-- R169: a chunk's read answered OK. -/
def chunkRead (c : Nat) (item : Chunk) (data : List Byte) (s : State) : State :=
  let r := s.channel c
  s.setChannel c { r with
    inFlight := r.inFlight.map (fun i => if i = item then { i with stage := .held, data := data } else i)
    chunksRead := bump r.chunksRead }

/-- R170: a chunk's write answered OK. -/
def chunkWritten (c : Nat) (item : Chunk) (s : State) : State :=
  let r := s.channel c
  let left := r.remaining - item.length
  let r1 := { r with
    inFlight := r.inFlight.filter (fun i => i != item)
    remaining := left
    chunksWritten := bump r.chunksWritten }
  if left = 0 then raise .channelDone (s.setChannel c { r1 with state := .done }) else s.setChannel c r1

/-- R171: a channel's answer, matched by its tag with the items that await one. -/
def channelAnswer (c tag : Nat) (st : Status) (data : List Byte) (s : State) : State :=
  let r := s.channel c
  match r.inFlight.find? (fun i => i.tag == tag && i.stage != .held) with
  | none => s.setChannel c { r with discardedAnswers := bump r.discardedAnswers }
  | some item =>
    if st ≠ .ok then faultChannel c (item.stage == .writing) st s
    else if item.stage = .writing then chunkWritten c item s
    else chunkRead c item data s

/-- R180: a kind still AWAITING takes a Notice State. -/
def settleNotice (k : Nat) (n : NoticeState) (s : State) : State :=
  let r := s.event k
  if r.notice = .awaiting then s.setEvent k { r with notice := n } else s

/-- R180: the answer to a notice. -/
def noticeAnswer (tag : Nat) (st : Status) (s : State) : State :=
  match s.mgmt.inFlight with
  | none => s
  | some n =>
    if n.tag ≠ tag then s
    else
      let s1 := s.updMgmt (fun m =>
        if st = .ok then { m with inFlight := none, noticesSent := bump m.noticesSent }
        else { m with inFlight := none, noticesFailed := bump m.noticesFailed })
      if n.stale then s1 else settleNotice n.kind (if st = .ok then .sent else .failed) s1

/-! ## The OTT's answers -/

/-- The read data an answer carries: only a READ or READ_LOCK answered OK has any, rearranged by the
entry's Swap (R143). -/
def OttEntry.readData (e : OttEntry) (st : Status) (data : List Byte) : List Byte :=
  if st = .ok ∧ (e.op = .read ∨ e.op = .readLock) then e.swap.apply data else []

/-- R156: an entry's answer is produced. A channel or the notice engine takes it at once and the entry
leaves; a slot's entry becomes ANSWERED. -/
def answerEntry (i : Nat) (st : Status) (data : List Byte) (s : State) : State :=
  match s.ottEntry i with
  | none => s
  | some e =>
    let d := e.readData st data
    if 16 ≤ e.id ∧ e.id ≤ 19 then s.noteFreed (channelAnswer (e.id - 16) e.tag st d (s.delOtt i))
    else if e.id = 20 then s.noteFreed (noticeAnswer e.tag st (s.delOtt i))
    else (s.setOtt i { e with state := .answered, answer := some ⟨st, d⟩, via := none, order := s.serial }).nextSerial

/-- R153: an entry with Retries Left enters BACKOFF. -/
def enterBackoff (i : Nat) (e : OttEntry) (s : State) : State :=
  (s.setOtt i { e with
    state := .backoff, retries := e.retries - 1, via := none
    deadline := s.localTime + Config.backoffCycles }).updTrans (fun t => { t with retries := bump t.retries })

/-- R152, R154: a completion for this frame reaches its entry. -/
def completionHere (id tag : Nat) (st : Status) (data : List Byte) (s : State) : State :=
  let late := s.updTrans (fun t => { t with lateCompletions := bump t.lateCompletions })
  match s.findOtt id tag with
  | none => late
  | some i => match s.ottEntry i with
    | none => late
    | some e =>
      if e.state = .answered then late
      else if st = .busy ∧ e.retry ∧ 0 < e.retries then enterBackoff i e s
      else answerEntry i st data s

/-! ## Completions produced here (R151) -/

/-- R151: a completion produced here is offered to the queue its route chooses, or handed to this
frame's OTT. None where a full queue refuses it. `direct` marks a request of this frame's own OTT. -/
def sendCompletion (direct : Bool) (who : Requester) (st : Status) (data : List Byte) (s : State) : Option State :=
  if direct then some (completionHere who.id who.tag st data s)
  else match s.routeTo who.frame with
    | some .here => some (completionHere who.id who.tag st data s)
    | some (.port p) =>
      if s.isUp p ∧ (s.port p).qCompletion.length < 16 then
        some (s.updPort p (fun r => { r with qCompletion := r.qCompletion ++ [⟨who, st.code, 31, data⟩] }))
      else none
    | none => some (s.updTrans (fun t => { t with completionsDropped := bump t.completionsDropped }))

/-! ## Locks and the Inbound Request List -/

/-- R162: a slot's lock is released. -/
def releaseLock (i : Nat) (s : State) : State := s.setLock i {}

/-- 8.1: the data of the completion that brings an answer: that of a status OK alone. -/
def Answer.completionData (a : Answer) : List Byte := if a.status = .ok then a.data else []

/-- R160: an ANSWERING entry's completion is offered; the entry leaves once it is accepted. None where it
is not accepted. -/
def takeInbound (h : Nat) (s : State) : Option State :=
  match s.inEntry h with
  | none => none
  | some e => match e.state, e.answer with
    | .answering, some a => (sendCompletion (e.source == .here) e.who a.status a.completionData s).map (fun t => t.delIn h)
    | _, _ => none

/-- R150, R160: the completion of an entry that has just become ANSWERING, the state before being
`before`, is offered; the entry stays while it is refused, or while others wait for the queue it goes to. -/
def offerInbound (before : State) (h : Nat) (s : State) : State :=
  match takeInbound h s with
  | some t => if before.overtakes t then s else t
  | none => s

/-- R158 to R162: an inbound entry is answered: it becomes ANSWERING, the lock its WRITE_UNLOCK was
releasing is released, and its completion is offered. -/
def answerInbound (h : Nat) (st : Status) (data : List Byte) (s : State) : State :=
  match s.inEntry h with
  | none => s
  | some e =>
    let s1 := (s.setIn h { e with state := .answering, answer := some ⟨st, data⟩, order := s.serial }).nextSerial
    let s2 := if (s1.lock e.slot).unlockHandle = some h then releaseLock e.slot s1 else s1
    offerInbound s h s2

/-- The Handles of a slot's entries in a given set of states, in the order in which they were taken: R129 and R130
give the answers of the departure cleanup and of an extraction no other order (DESIGN CHOICE, log entry 56). -/
def State.inHandles (s : State) (slot : Nat) (p : InState → Bool) : List Nat :=
  ((s.trans.inbound.filter (fun e => e.2.slot == slot && p e.2.state)).insertionSort
    (fun a b => a.2.order ≤ b.2.order)).map (·.1)

/-- A slot's inbound entries in some states answered with one status (R129, R130). -/
def answerSlotInbound (slot : Nat) (p : InState → Bool) (st : Status) (s : State) : State :=
  (s.inHandles slot p).foldl (fun s h => answerInbound h st [] s) s

/-- R129: the slot's own OTT entries are removed without an answer. -/
def dropSlotEntries (slot : Nat) (s : State) : State :=
  s.noteFreed (s.updTrans (fun t => { t with ott := t.ott.filter (fun e => e.2.id != slot) }))

/-- R126, R129: the slot's waiting requests, committed messages and Delivery List are discarded. -/
def clearLane (slot : Nat) (s : State) : State :=
  s.updSlot slot (fun r => { r with
    waiting := []
    committed := []
    delivery := []
    counters := { r.counters with requestsDiscarded := bumpBy r.waiting.length r.counters.requestsDiscarded } })

/-- R129: the departure cleanup, with its departure status. The inbound requests are answered before the slot's own OTT
entries are removed, so that the answer to a request of the slot to itself still finds its entry and is not counted late
(DESIGN CHOICE, log entry 78). -/
def departureCleanup (slot : Nat) (st : Status) (s : State) : State :=
  let s1 := releaseLock slot s
  let s2 := answerSlotInbound slot (fun x => x != .answering) st s1
  dropSlotEntries slot (clearLane slot s2)

/-! ## The link-down at the OTT (R155) -/

/-- R155: one entry at the link-down of port `p`. A FAIL entry sent through `p` is answered LINK_LOST;
a RETRY entry sent through it, and an entry waiting on it, await routing. -/
def entryLinkDown (p : PortId) (s : State) (i : Nat) : State :=
  match s.ottEntry i with
  | none => s
  | some e =>
    if e.via = some (.port p) then
      match e.state with
      | .sent =>
        if e.retry then s.setOtt i { e with state := .queued, via := none }
        else answerEntry i .linkLost [] (s.updTrans (fun t => { t with linkLost := bump t.linkLost }))
      | .queued => s.setOtt i { e with via := none }
      | _ => s
    else s

/-- R155: the link-down event of port `p` at the OTT. Where it answers several entries of one slot, they are
answered, and so aged, in table index order (DESIGN CHOICE, log entry 57). -/
def ottLinkDown (p : PortId) (s : State) : State := (List.range 32).foldl (entryLinkDown p) s

end Sys2Proof.Machine
end

