-- ==== Sys2Proof/Machine/Link.lean ====
section
/-! DEFINITION. Machine/Link.lean: the cable ports (chapter 1): teardown and link-down, training and
pairing, echo bursts, bad parcels, rate, loopback, and the transmit arbiter. -/

namespace Sys2Proof.Machine

/-! ## Leaving a state (R2 to R4) -/

/-- The number of parcels in a port's five transmit queues (R3). -/
def Port.queuedParcels (r : Port) : Nat :=
  r.qTiming.length + r.qLink.length + r.qStream.length + r.qCompletion.length + r.qRequest.length

/-- The states whose leaving tears the link down (R3). -/
def PortState.linked : PortState → Bool
  | .pairing => true
  | .measure => true
  | .up => true
  | _ => false

/-- R3: the teardown's effects on the port's own record. -/
def Port.teardown (r : Port) : Port :=
  { r with
    qTiming := [], qLink := [], qStream := [], qCompletion := [], qRequest := []
    heldRequests := [], heldCompletions := []
    txCredits := {}, freed := {}, streamRun := 0
    burst := none, delayValid := false, peer := none
    counters := { r.counters with flushed := bumpBy r.queuedParcels r.counters.flushed } }

/-- R3, R33, R91, R155: the link-down event of port `p` in the Topology Unit, the Stream Router and the
Transaction Unit, in that order (the worked ring of 8.8). -/
def linkDown (p : PortId) (s : State) : State :=
  let s1 := purgePort p s
  let s2 := s1.updTopo (fun t => t.setMark p none)
  let s3 := if s2.topo.rootward = some p then rootwardLost p s2 else s2
  ottLinkDown p (recommit s3)

/-- What the port's own record loses on leaving a state: the teardown of R3 where it applies, and the
flags of R6, R20 and R23 that end with the state. A loopback burst does not outlive LOOPBACK (log
entry 9). -/
def Port.leave (r : Port) : Port :=
  let r1 : Port :=
    if r.state.linked then r.teardown
    else if r.state = .loopback then { r with burst := none, qTiming := [], looped := [] }
    else r
  { r1 with
    rootConflict := false, selfCabled := false, retrainPending := false, loopPending := false, silenceEnd := none
    loopForm := .none }

/-- A port leaves its state for another, with the link-down event when the state left is UP (R3). -/
def leaveFor (p : PortId) (enter : Port → Port) (s : State) : State :=
  let r := s.port p
  let s1 := s.setPort p (enter (Port.leave r))
  if r.state = .up then linkDown p (raise .linkDown s1) else s1

/-- R4: entry to TRAINING, which fixes the training rate. -/
def enterTraining (p : PortId) (s : State) : State :=
  leaveFor p (fun r => { r with
    state := .training
    trainRate := if r.rateRequest = .fast ∧ r.peerFast then .fast else .base }) s

/-- R2: entry to ABSENT on loss of cable sense. -/
def enterAbsent (p : PortId) (s : State) : State :=
  leaveFor p (fun r => { r with state := .absent, cableSense := false, peerFast := false, retrainHistory := [] }) s

/-- R22, R23: entry to LOOPBACK in a form. -/
def enterLoopback (p : PortId) (form : LoopForm) (s : State) : State :=
  leaveFor p (fun r => { r with state := .loopback, loopForm := form }) s

/-- R22, R23: from LOOPBACK to TRAINING if a cable is present, or ABSENT if none is. Whether this entry to
ABSENT clears what R2's entry clears, the specification does not say; here Peer FAST Capability and
Retrain History stay (DESIGN CHOICE, log entry 36). -/
def leaveLoopback (p : PortId) (s : State) : State :=
  if (s.port p).cableSense then enterTraining p s
  else leaveFor p (fun r => { r with state := .absent }) s

/-! ## Retrains (R19 to R21) -/

/-- R21: a counted retrain, with the fallback in the same act. -/
def countRetrain (p : PortId) (s : State) : State :=
  let r := s.port p
  if r.rate = .fast then
    let h := r.retrainHistory ++ [0]
    if 3 ≤ h.length then raise .rateFallback (s.setPort p { r with rateRequest := .base, retrainHistory := [] })
    else s.setPort p { r with retrainHistory := h }
  else s

/-- R19: one more in the Retrains counter. -/
def bumpRetrains (p : PortId) (s : State) : State := s.countPort p (fun c => { c with retrains := bump c.retrains })

/-- R19: the retrain that the ninth bad parcel of an epoch causes. -/
def retrainBad (p : PortId) (s : State) : State :=
  enterTraining p (countRetrain p (bumpRetrains p (raise .linkRetrain s)))

/-- R19, R23: loss of symbol lock. -/
def symbolLockLoss (p : PortId) (s : State) : State :=
  let r := s.port p
  if r.state.linked then enterTraining p (countRetrain p (bumpRetrains p s))
  else if r.state = .loopback ∧ r.loopForm = .farServed then enterTraining p s
  else s

/-! ## Bursts (R8, R10, R11) -/

/-- R10: the next echo of the running burst is offered to the timing queue; one dropped there stays
unanswered. -/
def offerEcho (p : PortId) (s : State) : State :=
  s.updPort p (fun r =>
    match r.burst with
    | none => r
    | some b =>
      let r1 := { r with
        burst := some { echoes := b.echoes ++ [(⟨r.echoNumber, none, none, false⟩ : Echo)], nextAt := s.localTime + Config.echoSpacing }
        echoNumber := (r.echoNumber + 1) % 65536 }
      r1.offerTiming (.echo r.echoNumber))

/-- R10: a burst starts, its first echo offered at once. -/
def beginBurst (p : PortId) (s : State) : State :=
  offerEcho p (s.updPort p (fun r => { r with burst := some ⟨[], s.localTime⟩ }))

/-- R11: the burst count brings a burst. -/
def Port.burstDue (r : Port) (repeating : Bool) : Bool :=
  r.state == .up && r.burst.isNone
    && (if r.delayValid then repeating && decide (1024 ≤ r.burstCount) else r.burstCount == 64)

/-- R11: the scheduled burst of a port, where it is due. -/
def scheduleBurst (p : PortId) (s : State) : State :=
  if (s.port p).burstDue s.rtu.delayRepeat then beginBurst p s else s

/-- R8: the port enters UP at the end of its first burst. -/
def enterUp (p : PortId) (s : State) : State :=
  let s1 := s.updPort p (fun r => { r with state := .up, burstCount := 0 })
  recommit (treeChange s (raise .linkUp s1))

/-- R49: the result of an ordinary burst. -/
def settleDelay (p : PortId) (result : Option Nat) (s : State) : State :=
  match result with
  | some d =>
    { s.updPort p (fun r => { r with delay := d, delayValid := true }) with
      rtu := { s.rtu with burstsValid := bump s.rtu.burstsValid } }
  | none => raise .delayFail { s with rtu := { s.rtu with burstsInvalid := bump s.rtu.burstsInvalid } }

/-- R10, R49: the burst's eight echoes have had their time. -/
def endBurst (p : PortId) (s : State) : State :=
  let r := s.port p
  match r.burst with
  | none => s
  | some b =>
    if b.echoes.length < 8 then s
    else
      let result := burstResult b.echoes
      let s1 := s.setPort p { r with burst := none, burstCount := 0 }
      match r.state with
      | .measure => enterUp p (settleDelay p result s1)
      | .up => settleDelay p result s1
      | .loopback => s1.updPort p (fun r => { r with loopDelay := result })
      | _ => s1

/-- R10: an echo, by its number, is answered while it is unanswered, departed or not. -/
def answerEcho (n : Nat) (reply : Nat × Nat × Nat) : List Echo → Option (List Echo)
  | [] => none
  | e :: es =>
    if e.number = n ∧ e.reply.isNone then some ({ e with reply := some reply } :: es)
    else (answerEcho n reply es).map (e :: ·)

/-- R10: an ECHO_REPLY meets the running burst, or is stale. -/
def acceptEchoReply (p : PortId) (n t2 t3 : Nat) (s : State) : State :=
  let r := s.port p
  let stale := s.countPort p (fun c => { c with stale := bump c.stale })
  match r.burst with
  | none => stale
  | some b => match answerEcho n (t2, t3, s.rtu.stamp) b.echoes with
    | some es => s.setPort p { r with burst := some { b with echoes := es } }
    | none => stale

/-! ## Receiving (R5 to R9, R12 to R15) -/

/-- A parcel that a port in this state discards and counts in Early Parcels; in MEASURE a credited
class's buffer is credited back (R5, R8). -/
def discardEarly (p : PortId) (c : ParcelClass) (s : State) : State :=
  s.updPort p (fun r =>
    let r1 := { r with counters := { r.counters with early := bump r.counters.early } }
    if r.state = .measure then r1.freeBuffer c else r1)

/-- R22: a parcel that passes its checks in LOOPBACK NEAR or FAR is counted and handed to no unit; a
returning ECHO answers its own echo, with T2 and T3 equal to T4. -/
def loopbackGood (p : PortId) (echo : Option Nat) (s : State) : State :=
  let stamp := s.rtu.stamp
  s.updPort p (fun r =>
    let r1 := { r with counters := { r.counters with loopGood := bump r.counters.loopGood } }
    match echo, r1.burst with
    | some n, some b => match answerEcho n (stamp, stamp, stamp) b.echoes with
      | some es => { r1 with burst := some { b with echoes := es } }
      | none => r1
    | _, _ => r1)

/-- The port is in LOOPBACK with Loopback Form NEAR or FAR. -/
def Port.inLoop (r : Port) : Bool := r.state == .loopback && (r.loopForm == .near || r.loopForm == .far)

/-- The port is in LOOPBACK with Loopback Form FAR-served. -/
def Port.served (r : Port) : Bool := r.state == .loopback && r.loopForm == .farServed

/-- R23: a FAR-served port sends what it receives straight back out of its transmitter. -/
def sendBack (p : PortId) (bytes : List Byte) (s : State) : State :=
  s.updPort p (fun r => if r.served then { r with sentBack := bytes } else r)

/-- R22, R23: a parcel that arrives in LOOPBACK: counted in NEAR and FAR, sent back in FAR-served. -/
def inLoopback (p : PortId) (echo : Option Nat) (x : Parcel) (s : State) : State :=
  if (s.port p).inLoop then loopbackGood p echo s else sendBack p x.encode s

/-- What becomes of a parcel of a class that passes its checks, by the port's state (1.2): taken in UP
by the unit that owns it, and discarded, counted or sent back elsewhere. -/
def byState (p : PortId) (c : ParcelClass) (x : Parcel) (take : State → State) (s : State) : State :=
  match (s.port p).state with
  | .up => take s
  | .pairing => discardEarly p c s
  | .measure => discardEarly p c s
  | .loopback => inLoopback p none x s
  | _ => s

/-- R5: the peer record a HELLO gives. -/
def Peer.ofHello (h : Hello) : Peer :=
  ⟨h.uid, h.frame, h.root, h.hops, h.rootward, h.fast, h.limStream, h.limRequest, h.limCompletion⟩

/-- R5, R8: a HELLO completes the pairing; the port enters MEASURE and starts its first burst. The 1 ms
of R7 is counted anew from here (DESIGN CHOICE, log entry 37), and a FAR command that waits for its
HELLO goes on waiting, as it does on the entry to UP (DESIGN CHOICE, log entry 38). -/
def completePairing (p : PortId) (h : Hello) (s : State) : State :=
  beginBurst p (s.updPort p (fun r => { r with
    state := .measure
    peer := some (Peer.ofHello h)
    peerFast := h.fast
    txCredits := ⟨h.limStream, h.limRequest, h.limCompletion⟩
    rootConflict := false, selfCabled := false
    helloAt := s.localTime + Config.cyclesPerMs }))

/-- R5, R6, R23: a HELLO in PAIRING. Of these the one that completes the pairing alone sets Peer FAST Capability: one
that raises Self-Cabled or Root Conflict leaves it as it is (DESIGN CHOICE, log entry 75). -/
def helloPairing (p : PortId) (h : Hello) (s : State) : State :=
  let self := h.uid == s.unitId
  let conflict := h.root && s.topo.root
  if self || conflict then
    let was := (s.port p).rootConflict
    let s1 := s.updPort p (fun r => { r with
      selfCabled := r.selfCabled || self
      rootConflict := r.rootConflict || conflict
      pairingEnd := s.localTime + 10 * Config.cyclesPerMs })
    raiseIf (conflict && !was) .rootConflict s1
  else if h.loopRequest then enterLoopback p .farServed s
  else completePairing p h s

/-- R7, R20, R30: a HELLO of the present peer in MEASURE or UP. Where it shows the peer newly capable of
FAST, the port retrains once its own HELLO, which shows the same of this port, has departed. -/
def helloUpdate (p : PortId) (h : Hello) (s : State) : State :=
  let r := s.port p
  let s1 := s.setPort p { r with
    peer := r.peer.map (fun q => { q with frame := h.frame, hops := h.hops, rootward := h.rootward, fast := h.fast })
    peerFast := h.fast }
  let s2 := treeChange s s1
  if r.state = .up ∧ r.rate = .base ∧ r.rateRequest = .fast ∧ h.fast ∧ !r.peerFast then
    if (s2.port p).helloWaits then s2.updPort p (fun r => { r with retrainPending := true }) else enterTraining p s2
  else s2

/-- R5 to R7, R23: an accepted HELLO. A Loop Request of the peer updates Peer FAST Capability, which outlives the
teardown (R3), as R7 has any HELLO of the peer do; that it is taken before the check for a new peer, whose HELLO
updates nothing, is the model's choice (DEDUCED, log entry 23); so is that one which shows the peer newly capable of
FAST is served and brings no retrain of R20 (DESIGN CHOICE, log entry 74). -/
def acceptHello (p : PortId) (h : Hello) (s : State) : State :=
  let r := s.port p
  match r.state with
  | .pairing => helloPairing p h s
  | .measure | .up =>
    if h.loopRequest then
      enterLoopback p .farServed (s.setPort p { r with peerFast := if r.peer.map (·.uid) = some h.uid then h.fast else r.peerFast })
    else if r.peer.map (·.uid) ≠ some h.uid then enterTraining p s
    else helloUpdate p h s
  | .loopback => inLoopback p none (.hello h) s
  | _ => s

/-- R9: an accepted ECHO is stamped and answered. -/
def acceptEcho (p : PortId) (n : Nat) (s : State) : State :=
  let r := s.port p
  match r.state with
  | .pairing =>
    if r.rootConflict || r.selfCabled then s else s.setPort p (r.offerTiming (.echoReply n s.rtu.stamp))
  | .measure | .up => s.setPort p (r.offerTiming (.echoReply n s.rtu.stamp))
  | .loopback => inLoopback p (some n) (.echo n) s
  | _ => s

/-- R15: one class's Transmit Credits after a return, and the excess over the peer's limit. -/
def creditSum (have_ add limit : Nat) : Nat × Nat := (min (have_ + add) limit, have_ + add - limit)

/-- R15: an accepted CREDIT. -/
def acceptCredit (p : PortId) (a b c : Nat) (s : State) : State :=
  s.updPort p (fun r =>
    let x := creditSum r.txCredits.stream a (r.limit .stream)
    let y := creditSum r.txCredits.request b (r.limit .request)
    let z := creditSum r.txCredits.completion c (r.limit .completion)
    { r with
      txCredits := ⟨x.1, y.1, z.1⟩
      counters := { r.counters with creditExcess := bumpBy (x.2 + y.2 + z.2) r.counters.creditExcess } })

/-- R12: a bad parcel is counted by the check it fails. -/
def PortCounters.bad (f : ParcelFault) (c : PortCounters) : PortCounters :=
  match f with
  | .crc => { c with badCrc := bump c.badCrc }
  | .length => { c with badLength := bump c.badLength }
  | .kind => { c with badKind := bump c.badKind }

/-- R13: a parcel whose class has no free buffer is dropped. -/
def overflow (p : PortId) (s : State) : State := s.countPort p (fun c => { c with rxOverflow := bump c.rxOverflow })

/-- R13: every buffer of a class is held. Parcels of the other classes are taken as they arrive. -/
def Port.buffersFull (r : Port) : ParcelClass → Bool
  | .request => decide (8 ≤ r.heldRequests.length)
  | .completion => decide (8 ≤ r.heldCompletions.length)
  | _ => false

/-- R12 to R14: the buffer of a bad parcel's class frees at once; one that found no free buffer is an
overflow, and frees nothing. -/
def dropBuffer (p : PortId) (k : ParcelClass) (s : State) : State :=
  if (s.port p).buffersFull k then overflow p s else s.updPort p (fun r => r.freeBuffer k)

/-- R12, R19: a bad parcel of a class. Outside LOOPBACK it counts toward the epoch's nine; its buffer
frees at once, and where it is the ninth, ahead of the retrain, whose teardown then flushes the CREDIT that the freed buffer
queued (DESIGN CHOICE, log entry 68). After the ninth Bad This Epoch stays at 9, and no later bad parcel of the epoch
retrains the port again (DESIGN CHOICE, log entry 76). -/
def badParcel (p : PortId) (f : ParcelFault) (c : Option ParcelClass) (s : State) : State :=
  let r := s.port p
  let s1 := s.countPort p (PortCounters.bad f)
  if r.state.linked then
    let s2 := match c with | some k => dropBuffer p k s1 | none => s1
    let n := r.badThisEpoch + 1
    let s3 := s2.updPort p (fun r => { r with badThisEpoch := min n 9 })
    if n = 9 then retrainBad p s3 else s3
  else s1.countPort p (fun k => { k with loopBad := bump k.loopBad })

/-! ## Rate (R20) -/

/-- R20: Rate Request takes a value that differs from the present one. A second change, back to the
present Rate before the first one's HELLO has departed, takes the waiting retrain back (DESIGN CHOICE,
log entry 38). -/
def changeRate (p : PortId) (x : Rate) (s : State) : State :=
  let r := s.port p
  let retrains := r.state == .up && r.rate != x && (x == .base || r.peerFast)
  sendHello (s.setPort p { r with rateRequest := x, retrainPending := retrains }) p

/-- R20: Held at BASE. -/
def Port.heldAtBase (r : Port) : Bool := r.state == .up && r.rate == .base && r.rateRequest == .fast

/-! ## Transmitting (R14, R15, R17, R18, R45, R46) -/

/-- What the transmit arbiter chooses. -/
inductive TxChoice where
  | timing | link | stream | completion | request
  deriving DecidableEq, Repr

/-- A completion at the head of its queue may depart (R15, R17). -/
def Port.compReady (r : Port) : Bool := !r.qCompletion.isEmpty && decide (0 < r.txCredits.completion)

/-- A request at the head of its queue may depart. -/
def Port.reqReady (r : Port) : Bool := !r.qRequest.isEmpty && decide (0 < r.txCredits.request)

/-- A stream parcel at the head of its queue may depart. -/
def Port.streamReady (r : Port) : Bool := !r.qStream.isEmpty && decide (0 < r.txCredits.stream)

/-- R17: the arbiter's choice. -/
def Port.choose (r : Port) : Option TxChoice :=
  if !r.qTiming.isEmpty then some .timing
  else if !r.qLink.isEmpty then some .link
  else if r.streamReady && !(decide (16 ≤ r.streamRun) && (r.compReady || r.reqReady)) then some .stream
  else if r.compReady then some .completion
  else if r.reqReady then some .request
  else none

/-- The states in which a port transmits parcels (1.2). -/
def Port.transmits (r : Port) : Bool := r.state.linked || r.inLoop

/-- R10, R18: T1 of the echo with a number, taken as it departs. -/
def departEcho (n t1 : Nat) (es : List Echo) : List Echo :=
  es.map (fun e => if e.number = n ∧ e.t1.isNone then { e with t1 := some t1 } else e)

/-- R46: the correction of a forwarded mark as it departs, and whether it was written saturated. Its Delay is that of
its arrival, as a later one is used from the next mark on (R49); Delay Valid saturates it where false at the arrival or
`valid` says so at the departure (DESIGN CHOICE, log entry 65). -/
def forwardCorrection (delay : Option Nat) (valid : Bool) (stamp now : Nat) (m : Mark) (spanned : Bool) : Nat × Bool :=
  match delay with
  | none => (saturated, true)
  | some d =>
    let sum := m.correction + (now + 2 ^ 60 - stamp) % 2 ^ 60 + d
    if m.correction = saturated ∨ !valid ∨ spanned ∨ saturated ≤ sum then (saturated, true) else (sum, false)

/-- The port is in LOOPBACK with Loopback Form NEAR: what it sends goes round to its own receiver and not
out on the cable (R22). -/
def Port.inNear (r : Port) : Bool := r.state == .loopback && r.loopForm == .near

/-- R18, R22, R45, R46: the head of the timing queue departs. -/
def sendTiming (p : PortId) (i : TimingItem) (rest : List TimingItem) (s : State) : State :=
  let now := s.rtu.stamp
  let r := { s.port p with qTiming := rest }
  match i with
  | .rootMark =>
    s.setPort p { r with wire := some (.mark ⟨now, 0, now / 2 ^ 21, 0⟩) }
  | .fwdMark a stamp m delay spanned =>
    let c := forwardCorrection delay (s.port a).delayValid stamp now m spanned
    let s1 := s.setPort p { r with wire := some (.mark { m with correction := c.1 }) }
    if c.2 then { s1 with rtu := { s1.rtu with forwardSaturations := bump s1.rtu.forwardSaturations } } else s1
  | .echo n =>
    let r1 : Port := { r with burst := r.burst.map (fun b => { b with echoes := departEcho n now b.echoes }) }
    s.setPort p (if r.inNear then { r1 with looped := r.looped ++ [.echo n] } else { r1 with wire := some (.echo n) })
  | .echoReply n t2 => s.setPort p { r with wire := some (.echoReply n t2 now) }
  | .trigger t => s.setPort p { r with wire := some (.trigger t) }

/-- R14, R20, R23: the head of the link control queue departs. Where both a FAR command and a retrain
wait for this HELLO, the port enters LOOPBACK FAR and the retrain goes with the state left (DESIGN
CHOICE, log entry 38). -/
def sendLink (p : PortId) (i : LinkItem) (rest : List LinkItem) (s : State) : State :=
  let r := { s.port p with qLink := rest }
  match i with
  | .hello h =>
    let s1 := s.setPort p { r with wire := some (.hello h) }
    if h.loopRequest ∧ r.loopPending then enterLoopback p .far s1
    else if r.retrainPending then enterTraining p s1
    else s1
  | .announce a => s.setPort p { r with wire := some (.announce a) }
  | .credit => s.setPort p { r with wire := some (.credit r.freed.stream r.freed.request r.freed.completion), freed := {} }

/-- R17: the transmitter is free, and the arbiter's choice departs. -/
def transmit (p : PortId) (s : State) : State :=
  let r := s.port p
  if !r.transmits then s
  else match r.choose with
    | none => s
    | some .timing => match r.qTiming with
      | i :: rest => sendTiming p i rest s
      | [] => s
    | some .link => match r.qLink with
      | i :: rest => sendLink p i rest s
      | [] => s
    | some .stream => match r.qStream with
      | x :: rest => s.setPort p { r with
          qStream := rest
          wire := some (.stream x)
          txCredits := { r.txCredits with stream := r.txCredits.stream - 1 }
          streamRun := if r.compReady || r.reqReady then min (r.streamRun + 1) 16 else 0 }
      | [] => s
    | some .completion => match r.qCompletion with
      | x :: rest => s.setPort p { r with
          qCompletion := rest
          wire := some (.completion x)
          txCredits := { r.txCredits with completion := r.txCredits.completion - 1 }
          streamRun := 0 }
      | [] => s
    | some .request => match r.qRequest with
      | x :: rest => s.setPort p { r with
          qRequest := rest
          wire := some (.request x)
          txCredits := { r.txCredits with request := r.txCredits.request - 1 }
          streamRun := 0 }
      | [] => s

/-! ## Port commands (R11, R19, R22, R23) -/

/-- R11, R22: the Start Burst command. -/
def startBurstCommand (p : PortId) (s : State) : State :=
  let r := s.port p
  if (r.state = .up ∨ r.inLoop) ∧ r.burst.isNone then beginBurst p s else s

/-- R19: the Retrain command. -/
def retrainCommand (p : PortId) (s : State) : State :=
  if (s.port p).state.linked then enterTraining p (bumpRetrains p s) else s

/-- R22: the Loopback NEAR command. -/
def nearCommand (p : PortId) (s : State) : State :=
  if (s.port p).state = .loopback then s else enterLoopback p .near s

/-- R23: the Loopback FAR command. -/
def farCommand (p : PortId) (s : State) : State :=
  if (s.port p).state.linked then sendHello (s.updPort p (fun r => { r with loopPending := true })) p else s

/-- R22, R23: the Loopback OFF command. An OFF in FAR drops a loopback burst and the timing queue at once, a millisecond
before the port leaves LOOPBACK, and a second OFF during that silence has no effect: R23 names neither (DESIGN CHOICE,
log entry 55). -/
def offCommand (p : PortId) (s : State) : State :=
  let r := s.port p
  if r.state = .loopback then
    match r.loopForm with
    | .near => leaveLoopback p s
    | .far => s.setPort p { r with
        loopForm := .none, burst := none, qTiming := [], silenceEnd := some (s.localTime + Config.cyclesPerMs) }
    | .farServed => enterTraining p s
    | .none => s
  else s

end Sys2Proof.Machine
end

