-- ==== Sys2Proof/Machine/Trigger.lean ====
section
/-! DEFINITION. Machine/Trigger.lean: the Trigger Unit (chapter 4): firing a line, the Seen Lists, the
Pending Trigger Queue, edges from slots, TRIGGERs from the cables, and the Trigger Map write. -/

namespace Sys2Proof.Machine

/-! ## Firing (R73) -/

/-- R73: the slots that a firing of a line drives: those of its Output Set that are ADMITTED. -/
def State.firedSlots (s : State) (line : Nat) : List Nat :=
  (slotsOf (s.trigEntry line).outputs).filter (fun i => (s.slot i).state == .admitted)

/-- R73: a line fires: an edge on each driven slot's sideband, and one more in Fired. -/
def fireLine (line : Nat) (s : State) : State :=
  { s with
    sideband := s.sideband ++ (s.firedSlots line).map (fun i => (i, line))
    trig := { s.trig with fired := bump s.trig.fired } }

/-- R68, R71: a line fires at once in an untimed frame or for an untimed trigger. -/
def fireUntimed (line : Nat) (s : State) : State :=
  (fireLine line s).updTrig (fun t => { t with untimedFires := bump t.untimedFires })

/-- R71, R74: a line fires late, which raises TRIGGER_LATE. -/
def fireLate (line : Nat) (s : State) : State :=
  raise .triggerLate ((fireLine line s).updTrig (fun t => { t with lateFires := bump t.lateFires }))

/-- R73: the entries at the front of the queue whose fire time Rack Time has reached or passed. -/
def State.dueTriggers (s : State) : List PendingTrigger := s.trig.queue.takeWhile (fun e => !inFuture e.fire s.rtu.ticks)

/-- R73: the head of the queue fires, with the entries that fire in the same cycle; while its fire time
lies in the future, nothing does. -/
def fireHead (s : State) : State :=
  let due := s.dueTriggers
  due.foldl (fun s e => fireLine e.line s) (s.updTrig (fun t => { t with queue := t.queue.drop due.length }))

/-- R74: at a stepped or loaded boundary the entries now in the past or the present fire late, in order. -/
def fireSteppedOver (s : State) : State :=
  let now := s.rtu.ticks
  let past := s.trig.queue.filter (fun e => !inFuture e.fire now)
  past.foldl (fun s e => fireLate e.line s)
    (s.updTrig (fun t => { t with queue := t.queue.filter (fun e => inFuture e.fire now) }))

/-! ## The Seen Lists (R67, R69) -/

/-- R67, R69: an entry at the newest end of a line's Seen List, the oldest leaving a full list. -/
def addSeen (line origin seq : Nat) (s : State) : State :=
  s.updTrig (fun t => { t with seen := tset [] t.seen line (⟨origin, seq, 0⟩ :: (s.seen line).take 3) })

/-- R69: one line's Seen List a boundary event older. -/
def agedSeen (l : List Seen) : List Seen := (l.filter (fun e => e.age != 1)).map (fun e => { e with age := 1 })

/-- R69: every Seen List a boundary event older. -/
def ageSeen (s : State) : State :=
  s.updTrig (fun t => { t with
    seen := (t.seen.map (fun e => (e.1, agedSeen e.2))).filter (fun e => decide (e.2 ≠ [])) })

/-! ## The Pending Trigger Queue (R72) -/

/-- R63: one fire time comes before another. -/
def fireBefore (a b : Nat) : Bool := inFuture b a

/-- R72: an entry placed after every entry of the same or an earlier fire time. -/
def insertTrigger (x : PendingTrigger) (q : List PendingTrigger) : List PendingTrigger :=
  q.takeWhile (fun e => !fireBefore x.fire e.fire) ++ x :: q.dropWhile (fun e => !fireBefore x.fire e.fire)

/-- R72: the queued entry that an offer merges with: the earliest of its line within 16 ticks. -/
def mergeMatch (x : PendingTrigger) (q : List PendingTrigger) : Option PendingTrigger :=
  q.find? (fun e => e.line == x.line && withinMerge x.fire e.fire)

/-- R72: an entry offered to the Pending Trigger Queue. A merged entry that takes an earlier fire time stands
after the queued entries of that same fire time, as an inserted one would (DESIGN CHOICE, log entry 48). -/
def offerTrigger (x : PendingTrigger) (s : State) : State :=
  match mergeMatch x s.trig.queue with
  | some e =>
    s.updTrig (fun t => { t with
      merged := bump t.merged
      queue := if fireBefore x.fire e.fire then insertTrigger x (t.queue.erase e) else t.queue })
  | none =>
    if 16 ≤ s.trig.queue.length then
      raise .triggerOverflow (s.updTrig (fun t => { t with overflows := bump t.overflows }))
    else s.updTrig (fun t => { t with queue := insertTrigger x t.queue, queued := bump t.queued })

/-! ## Sending (R67, R70) -/

/-- R67, R70: a TRIGGER offered to the timing queue of each UP tree port but one. -/
def sendTrigger (except : Option PortId) (t : Trigger) (s : State) : State :=
  PortId.all.foldl
    (fun s p => if s.isTree p && s.isUp p && except != some p then s.updPort p (fun r => r.offerTiming (.trigger t)) else s) s

/-! ## Edges (R66 to R68) -/

/-- R67, steps 2 and 3: the origin sequence is taken and the trigger entered in the Seen List. -/
def originate (line : Nat) (s : State) : State :=
  addSeen line s.frameCode (s.originSeq line)
    (s.updTrig (fun t => { t with originSeq := tset 0 t.originSeq line ((s.originSeq line + 1) % 256) }))

/-- R67: an accepted edge in a timed timebase. -/
def originateTimed (line : Nat) (s : State) : State :=
  let e := s.trigEntry line
  let tf := (s.rtu.ticks + e.budget) % 2 ^ 56
  let s1 := originate line s
  let s2 := if e.outputs = 0 then s1 else offerTrigger ⟨line, tf, s.frameCode⟩ s1
  (sendTrigger none ⟨s.frameCode, line, s.originSeq line, false, tf⟩ s2).updTrig
    (fun t => { t with originated := bump t.originated })

/-- R68: an accepted edge in an untimed timebase. -/
def originateUntimed (line : Nat) (s : State) : State :=
  let s1 := originate line s
  let s2 := if (s.trigEntry line).outputs = 0 then s1 else fireUntimed line s1
  (sendTrigger none ⟨s.frameCode, line, s.originSeq line, true, s.rtu.ticks⟩ s2).updTrig
    (fun t => { t with originated := bump t.originated })

/-- R66: the Trigger Unit accepts an edge of a slot on a line. -/
def State.acceptsEdge (s : State) (slot line : Nat) : Bool :=
  let e := s.trigEntry line
  e.enabled && e.sources.getLsbD slot && (s.slot slot).state == .admitted

/-- R66, R126: an edge on a slot's sideband. -/
def edgeFromSlot (slot line : Nat) (s : State) : State :=
  if (s.slot slot).lane = .dormant then s.countSlot slot (fun c => { c with dormantIgnored := bump c.dormantIgnored })
  else if s.acceptsEdge slot line then
    let s1 := s.updTrig (fun t => { t with edgesStamped := bump t.edgesStamped })
    if s.rtu.state.timed then originateTimed line s1 else originateUntimed line s1
  else s.updTrig (fun t => { t with edgesIgnored := bump t.edgesIgnored })

/-! ## TRIGGERs from the cables (R69 to R71) -/

/-- R71: the local action on an accepted TRIGGER. -/
def localTrigger (t : Trigger) (s : State) : State :=
  let e := s.trigEntry t.line
  if !e.enabled || e.outputs == 0 then s.updTrig (fun u => { u with passedThrough := bump u.passedThrough })
  else if t.untimed || !s.rtu.state.timed then fireUntimed t.line s
  else if inFuture t.fire s.rtu.ticks then offerTrigger ⟨t.line, t.fire, t.origin⟩ s
  else fireLate t.line s

/-- R69: a TRIGGER that the Trigger Unit takes from a port in UP. -/
def acceptTrigger (p : PortId) (t : Trigger) (s : State) : State :=
  let s1 := s.updTrig (fun u => { u with received := bump u.received })
  if 7 < t.line then s1.updTrig (fun u => { u with bad := bump u.bad })
  else if s.topo.frameNumber = some t.origin then s1.updTrig (fun u => { u with looped := bump u.looped })
  else if !s.isTree p then s1.updTrig (fun u => { u with nonTree := bump u.nonTree })
  else if (s.seen t.line).any (fun e => e.origin == t.origin && e.seq == t.seq) then
    s1.updTrig (fun u => { u with duplicate := bump u.duplicate })
  else localTrigger t (sendTrigger (some p) t (addSeen t.line t.origin t.seq s1))

/-! ## The Trigger Map write (R64) -/

/-- R64: a write of one Trigger Map entry. A line left not Enabled loses its queued entries. -/
def writeTriggerEntry (line : Nat) (e : TriggerEntry) (s : State) : Status × State :=
  if 7 < line ∨ e.budget < 256 ∨ 65535 < e.budget then (.badRequest, s)
  else
    let gone := if e.enabled then [] else s.trig.queue.filter (fun x => x.line == line)
    (.ok, s.updTrig (fun t => { t with
      map := tset {} t.map line e
      queue := if e.enabled then t.queue else t.queue.filter (fun x => x.line != line)
      discarded := bumpBy gone.length t.discarded }))

end Sys2Proof.Machine
end

