-- ==== Sys2Proof/Machine/Delivery.lean ====
section
/-! DEFINITION. Machine/Delivery.lean: the Delivery Unit (chapter 6): placement, rotation, release,
the Delivery Lists, SECTION and PARCEL messages, lane credits (R124), and the binding write. -/

namespace Sys2Proof.Machine

/-! ## Lane credits (R124) -/

/-- R124: a message that takes `cost` credits may be committed to the lane. -/
def Slot.canCommit (r : Slot) (cost : Nat) : Bool :=
  r.lane == .up && (decide (cost ≤ r.available) || (decide (r.advertised < cost) && r.available == r.advertised))

/-- R124: a message is committed to the lane and takes its credits. -/
def Slot.commit (r : Slot) (m : LaneMsg) (cost : Nat) : Slot :=
  { r with committed := r.committed ++ [m], available := r.available - cost }

/-- R124: the credits for which a committed message asked. -/
def messageCost : LaneMsg → Nat
  | .sectionMsg m => laneCost m.data.length
  | .parcel p => laneCost p.payload.length
  | .inbound _ _ _ _ _ _ d => laneCost d.length
  | .completion _ _ d => laneCost d.length

/-- A message of the Delivery Unit: SECTION or PARCEL. -/
def isDelivery : LaneMsg → Bool
  | .sectionMsg _ => true
  | .parcel _ => true
  | _ => false

/-- A SECTION message. -/
def isSection : LaneMsg → Bool
  | .sectionMsg _ => true
  | _ => false

/-- A SECTION message of a binding, of one epoch or (none) of any. -/
def isSectionOf (b : Nat) (epoch : Option Nat) : LaneMsg → Bool
  | .sectionMsg m => m.binding == b && (epoch.isNone || epoch == some m.epoch)
  | _ => false

/-- R99, R102, R107, R112: committed messages of a kind are not sent, but for one already begun, which is
the first of those committed. The credits they took stand available again (DESIGN CHOICE, log entry 41);
Segments Sent and Parcels Sent, which counted them as they were committed, stay (DESIGN CHOICE, log entry 49). -/
def Slot.unsend (r : Slot) (p : LaneMsg → Bool) : Slot :=
  match r.committed with
  | [] => r
  | m :: rest =>
    if rest.any p then
      { r with
        committed := m :: rest.filter (fun x => !p x)
        available := min (r.available + ((rest.filter p).map (fun x => min (messageCost x) r.advertised)).sum) r.advertised }
    else r

/-! ## Sections -/

/-- A binding's section by its index. -/
def Binding.sec (b : Binding) (i : Nat) : Section :=
  match i with
  | 0 => b.sec0
  | 1 => b.sec1
  | _ => b.sec2

/-- The binding with a section replaced. -/
def Binding.setSec (b : Binding) (i : Nat) (x : Section) : Binding :=
  match i with
  | 0 => { b with sec0 := x }
  | 1 => { b with sec1 := x }
  | _ => { b with sec2 := x }

/-- The section size S in bytes (6.1). -/
def Binding.size (b : Binding) : Nat := b.blocks * 512

/-- The address in the Section Pool of a section's first byte (R98). -/
def Binding.secBase (b : Binding) (i : Nat) : Nat := (b.base + i * b.blocks) * 512

/-- R101: the binding's Tag, the ACTIVE route entry that names it. -/
def State.bindingTag (s : State) (b : Nat) : Option Nat :=
  (s.router.table.find? (fun e => e.2.active && e.2.binding == some b)).map (·.1)

/-- The index of the section of an epoch `back` epochs before `n`, counted through the wrap as R102 and
R107 count it (log entry 10). -/
def sectionIndex (n back : Nat) : Nat := (n + 3 - back) % 3

/-- The number of the epoch `back` epochs before `n`, modulo 2^39. -/
def epochBack (n back : Nat) : Nat := (n + 2 ^ 39 - back) % 2 ^ 39

/-! ## Placement (R103, R104) -/

/-- R104: the number of a payload's bytes that fall within a section of `size` bytes. -/
def placedBytes (size seq len : Nat) : Nat := min len (size - seq * 256)

/-- R104: a section after a parcel is placed in it. -/
def Section.place (x : Section) (size : Nat) (p : StreamParcel) : Section :=
  let len := p.payload.length
  { x with
    received := tput x.received p.seq (placedBytes size p.seq len)
    last := if p.last && x.last.isNone then some (p.seq, len) else x.last
    truncatedSeen := x.truncatedSeen || p.truncated
    absentSeen := x.absentSeen || p.absent
    cut := x.cut || decide (size ≤ p.seq * 256) || decide (size < p.seq * 256 + len)
    highWater := max x.highWater (min (p.seq * 256 + len) size) }

/-- R104: a parcel accepted into the section with an index. -/
def placeIn (b i : Nat) (p : StreamParcel) (s : State) : State :=
  let r := s.binding b
  let x := r.sec i
  if x.state ≠ .opened then s.setBinding b { r with unopened := bump r.unopened }
  else if (tfind x.received p.seq).isSome then s.setBinding b { r with duplicate := bump r.duplicate }
  else
    let s1 := s.setBinding b (r.setSec i (x.place r.size p))
    let bytes := p.payload.take (placedBytes r.size p.seq p.payload.length)
    { s1 with pool := poolWriteAll s1.pool (r.secBase i + p.seq * 256) bytes }

/-- R99, R103: a parcel handed to a binding. -/
def placeParcel (b : Nat) (p : StreamParcel) (s : State) : State :=
  let r := s.binding b
  let d := (s.rtu.epoch % 65536 + 65536 - p.epoch % 65536) % 65536
  if !r.enabled then s.setBinding b { r with disabledDiscards := bump r.disabledDiscards }
  else if d ≤ 1 then placeIn b (sectionIndex s.rtu.epoch d) p s
  else if d ≤ 32767 then s.setBinding b { r with late := bump r.late }
  else s.setBinding b { r with early := bump r.early }

/-! ## Immediate sinks (R113) -/

/-- R113: a parcel handed to one immediate sink. -/
def sendParcelTo (p : StreamParcel) (s : State) (i : Nat) : State :=
  let r := s.slot i
  let cost := laneCost p.payload.length
  if r.state ≠ .admitted then s
  else if r.canCommit cost then
    s.setSlot i ({ r with parcelsSent := bump r.parcelsSent }.commit (.parcel p) cost)
  else s.setSlot i { r with immediateDrops := bump r.immediateDrops }

/-- R113: a parcel handed to the slots of an Immediate Sink Set. -/
def sendParcel (sinks : SlotSet) (p : StreamParcel) (s : State) : State := (slotsOf sinks).foldl (sendParcelTo p) s

/-! ## Release (R105 to R108) -/

/-- R105: some sequence before the LAST, whose offset lies below the section size, is missing. -/
def Section.gapBefore (x : Section) (size n : Nat) : Bool :=
  (List.range n).any (fun q => decide (q * 256 < size) && (tfind x.received q).isNone)

/-- R105: the status of a released section. -/
def Section.releaseStatus (x : Section) (size : Nat) : SectionStatus :=
  if x.absentSeen then .sourceAbsent
  else if x.received = [] then .lost
  else match x.last with
    | none => .incomplete
    | some (q, _) =>
      if x.gapBefore size q then .incomplete
      else if x.truncatedSeen || x.cut then .truncated
      else .complete

/-- R106: the Delivered Length of a released section. -/
def Section.releaseLength (x : Section) (size : Nat) : Nat :=
  match x.last with
  | some (q, l) => min (q * 256 + l) size
  | none => x.highWater

/-- R105, R106: the released section. -/
def Section.release (x : Section) (size : Nat) (untimed : Bool) : Section :=
  { x with
    state := .released, status := x.releaseStatus size, length := x.releaseLength size
    untimed := untimed, discontinuous := false }

/-- R107: the section released at a stepped, loaded or wrapping boundary. -/
def Section.lostAt (epoch : Nat) (untimed : Bool) : Section :=
  { state := .released, epoch := some epoch, status := .lost, untimed := untimed, discontinuous := true }

/-- R102: a section opened, empty, for an epoch. -/
def Section.openFor (epoch : Nat) : Section := { state := .opened, epoch := some epoch }

/-- R108: an entry among a Delivery List's, in ascending binding order. -/
def insertDelivery (x : DeliveryItem) (l : List DeliveryItem) : List DeliveryItem :=
  l.takeWhile (fun e => decide (e.binding ≤ x.binding)) ++ x :: l.dropWhile (fun e => decide (e.binding ≤ x.binding))

/-- R108: a released section offered to one slot of the Sink Set. -/
def beginDelivery (b i : Nat) (s : State) (slot : Nat) : State :=
  match (s.slot slot).state with
  | .admitted => s.updSlot slot (fun r => { r with delivery := insertDelivery ⟨b, i, 0⟩ r.delivery })
  | .parked => s.setBinding b { s.binding b with skipped := bump (s.binding b).skipped }
  | _ => s

/-- R108: a released section offered to every slot of the binding's Sink Set. -/
def beginDeliveries (b i : Nat) (s : State) : State := (slotsOf (s.binding b).sinks).foldl (beginDelivery b i) s

/-- A slot's Delivery List without a binding's entries (R99, R102, R107). -/
def Slot.dropDelivery (r : Slot) (p : DeliveryItem → Bool) : Slot :=
  { r with delivery := r.delivery.filter (fun e => !p e) }

/-- Every Delivery List without a binding's entries, and nothing of its sections sent further (R99, R107). -/
def dropDeliveries (b : Nat) (s : State) : State :=
  (List.range 16).foldl
    (fun s i => s.updSlot i (fun r => (r.dropDelivery (fun e => e.binding == b)).unsend (isSectionOf b none))) s

/-- R102, R114: one slot's end of delivery of the section about to be reused. A section whose Final message
is committed has left the list: it counts no Overrun, and its messages still go (DESIGN CHOICE, log entry 49). -/
def endDelivery (b i : Nat) (s : State) (slot : Nat) : State :=
  let p := fun (e : DeliveryItem) => e.binding == b && e.sec == i
  if (s.slot slot).delivery.any p then
    let s1 := s.updSlot slot (fun r => (r.dropDelivery p).unsend (isSectionOf b ((s.binding b).sec i).epoch))
    raise .sectionFault (s1.setBinding b { s1.binding b with overrun := bump (s1.binding b).overrun })
  else s

/-- R102, R114: an ENABLED binding at an ordinary boundary into epoch `n`. -/
def rotateBinding (n : Nat) (untimed : Bool) (b : Nat) (s : State) : State :=
  let reused := sectionIndex n 0
  let rel := sectionIndex n 2
  let s1 := (List.range 16).foldl (endDelivery b reused) s
  let r1 := (s1.binding b).setSec reused (Section.openFor n)
  let x := r1.sec rel
  if x.state = .opened then
    let y := x.release r1.size untimed
    let r2 := { r1.setSec rel y with
      released := bump r1.released, lost := if y.status = .lost then bump r1.lost else r1.lost }
    raiseIf (y.status == .incomplete || y.status == .truncated || y.status == .lost) .sectionFault
      (beginDeliveries b rel (s1.setBinding b r2))
  else s1.setBinding b r1

/-- R107: an ENABLED binding at a stepped, loaded or wrapping boundary into epoch `n`. -/
def restartBinding (n : Nat) (untimed : Bool) (b : Nat) (s : State) : State :=
  let s1 := dropDeliveries b s
  let r := s1.binding b
  let r1 := ((r.setSec (sectionIndex n 0) (Section.openFor n)).setSec (sectionIndex n 1)
    (Section.openFor (epochBack n 1))).setSec (sectionIndex n 2) (Section.lostAt (epochBack n 2) untimed)
  beginDeliveries b (sectionIndex n 2)
    (s1.setBinding b { r1 with released := bump r1.released, lost := bump r1.lost })

/-- R102, R107: the Delivery Unit at a boundary event. -/
def deliveryBoundary (restart : Bool) (s : State) : State :=
  let n := s.rtu.epoch
  let untimed := !s.rtu.state.timed
  (List.range 64).foldl
    (fun s b => if (s.binding b).enabled then (if restart then restartBinding n untimed b s else rotateBinding n untimed b s) else s)
    s

/-! ## SECTION messages (R109 to R111) -/

/-- R106: a byte of a released section as delivered: zero where no placed parcel wrote. -/
def State.sectionByte (s : State) (b i o : Nat) : Byte :=
  let r := s.binding b
  match tfind (r.sec i).received (o / 256) with
  | some n => if o % 256 < n then poolRead s.pool (r.secBase i + o) else 0
  | none => 0

/-- R109: the data bytes of the segment at an offset. -/
def State.segment (s : State) (b i o : Nat) : List Byte :=
  let r := s.binding b
  r.swap.apply ((List.range (min 256 ((r.sec i).length - o))).map (fun k => s.sectionByte b i (o + k)))

/-- The code of a section status (11.3). -/
def SectionStatus.code : SectionStatus → Nat
  | .complete => 0
  | .incomplete => 1
  | .truncated => 2
  | .lost => 3
  | .sourceAbsent => 4

/-- R109: the SECTION message for an entry of a Delivery List. -/
def State.sectionMessage (s : State) (d : DeliveryItem) : SectionMsg :=
  let r := s.binding d.binding
  let x := r.sec d.sec
  { binding := d.binding
    tag := s.bindingTag d.binding
    epoch := x.epoch.getD 0
    status := x.status.code
    untimed := x.untimed
    discontinuous := x.discontinuous
    length := x.length
    offset := d.offset
    final := decide (x.length ≤ d.offset + 256)
    data := s.segment d.binding d.sec d.offset }

/-- R109, R111: the next segment of a slot's Delivery List with its cost, if the slot takes deliveries. -/
def State.nextSegment (s : State) (slot : Nat) : Option (SectionMsg × Nat) :=
  let r := s.slot slot
  match r.delivery with
  | d :: _ =>
    if r.state = .admitted then
      let m := s.sectionMessage d
      some (m, laneCost m.data.length)
    else none
  | [] => none

/-- R109, R111: the next segment may be committed. -/
def State.segmentReady (s : State) (slot : Nat) : Bool :=
  match s.nextSegment slot with
  | some (_, c) => (s.slot slot).canCommit c
  | none => false

/-- R109: the Delivery List once the first entry's next segment is sent. -/
def advanceDelivery (final : Bool) : List DeliveryItem → List DeliveryItem
  | d :: rest => if final then rest else { d with offset := d.offset + 256 } :: rest
  | [] => []

/-- R109, R111: the next segment is committed to the slot's lane when its credits allow. A message counts as
sent when it is committed (DESIGN CHOICE, log entry 49). -/
def sendSegment (slot : Nat) (s : State) : State :=
  match s.nextSegment slot with
  | some (m, c) =>
    let r := s.slot slot
    if r.canCommit c then
      s.setSlot slot ({ r with
        delivery := advanceDelivery m.final r.delivery
        segmentsSent := bump r.segmentsSent }.commit (.sectionMsg m) c)
    else s
  | none => s

/-! ## The binding write (R97 to R99) -/

/-- R97: the blocks of two bindings of bases and sizes meet. -/
def blocksMeet (base blocks base' blocks' : Nat) : Bool :=
  decide (base < base' + 3 * blocks') && decide (base' < base + 3 * blocks)

/-- R97, check 3: the blocks run past the pool or meet another ENABLED binding's. -/
def State.blocksOverlap (s : State) (b base blocks : Nat) : Bool :=
  decide (1024 < base + 3 * blocks)
    || (List.range 64).any (fun i =>
        i != b && (s.binding i).enabled && blocksMeet base blocks (s.binding i).base (s.binding i).blocks)

/-- R98, R99: the binding's fields as written, its three section records cleared. -/
def Binding.written (r : Binding) (w : BindingWrite) (sw : Swap) : Binding :=
  { r with
    enabled := w.state == 1, base := w.base, blocks := w.blocks, sinks := w.sinks, swap := sw
    sec0 := {}, sec1 := {}, sec2 := {} }

/-- R97 to R99: a write of one binding. -/
def writeBinding (b : Nat) (w : BindingWrite) (s : State) : Status × State :=
  let r := s.binding b
  match Swap.ofCode w.swap with
  | none => (.badRequest, s)
  | some sw =>
    if 1023 < w.base ∨ w.blocks < 1 ∨ 128 < w.blocks ∨ 1 < w.state then (.badRequest, s)
    else if r.enabled ∧ w.state = 1 then (.inUse, s)
    else if w.state = 1 ∧ s.blocksOverlap b w.base w.blocks then (.overlap, s)
    else
      let s1 := if r.enabled then dropDeliveries b s else s
      (.ok, s1.setBinding b (r.written w sw))

/-- A write of consecutive records, checked and performed in index order and stopped at the first
refusal (R77, R97, R144). -/
def writeEach {α : Type} (f : Nat → α → State → Status × State) (i : Nat) : List α → State → Status × State
  | [], s => (.ok, s)
  | w :: ws, s =>
    match f i w s with
    | (.ok, s1) => writeEach f (i + 1) ws s1
    | r => r

end Sys2Proof.Machine
end

