-- ==== Sys2Proof/Machine/Stream.lean ====
section
/-! DEFINITION. Machine/Stream.lean: the Stream Router (chapter 5): parcels, the Sequence Tracker,
forwarding, the source packers, bandwidth commitment at a write, and the Route Table and guard writes. -/

namespace Sys2Proof.Machine

/-! ## Handling a parcel (R84 to R88) -/

/-- R85: what the Sequence Tracker makes of an accepted parcel. -/
inductive Arrival where
  | inOrder | gap | duplicate
  deriving DecidableEq, Repr

/-- R85: a parcel compared with what the tracker expects. -/
def judgeSequence (tracker : Option (Nat × Nat)) (p : StreamParcel) : Arrival :=
  match tracker with
  | none => .inOrder
  | some (ee, es) =>
    let d := (p.epoch % 65536 + 65536 - ee % 65536) % 65536
    if d = 0 ∧ p.seq = es then .inOrder
    else if (d = 0 ∧ es < p.seq) ∨ (1 ≤ d ∧ d ≤ 32767) then .gap
    else .duplicate

/-- R85: what is expected after a parcel; the sequence counts modulo 256 (log entry 11). -/
def expectedAfter (p : StreamParcel) : Nat × Nat :=
  if p.last then ((p.epoch + 1) % 65536, 0) else (p.epoch, (p.seq + 1) % 256)

/-- R85: the entry after an accepted parcel. -/
def RouteEntry.track (e : RouteEntry) (p : StreamParcel) : RouteEntry :=
  match judgeSequence e.tracker p with
  | .inOrder => { e with tracker := some (expectedAfter p) }
  | .gap => { e with tracker := some (expectedAfter p), gaps := bump e.gaps }
  | .duplicate => { e with duplicates := bump e.duplicates }

/-- R86: the ports that the table of R86 names for a parcel, by where it came from (none for the local
packer); only an UP port takes offers (R16). -/
def State.outPorts (s : State) (src : Option PortId) (e : RouteEntry) : List PortId :=
  let toward := fun p => e.fwdRoot && s.topo.rootward == some p
  let away := fun p => e.fwdAway && s.isChild p
  PortId.all.filter (fun p => s.isUp p &&
    (match src with
     | none => toward p || away p
     | some q =>
       q != p && (if s.topo.rootward = some q then away p else if s.topo.root then away p else toward p)))

/-- R87: a copy of a parcel offered to a port's stream queue. -/
def offerCopy (tag : Nat) (x : StreamParcel) (s : State) (p : PortId) : State :=
  let e := s.route tag
  (s.setRoute tag { e with forwarded := bump e.forwarded }).updPort p (fun r => r.offerStream x)

/-- R86, R87: an accepted parcel forwarded. -/
def forwardStream (src : Option PortId) (x : StreamParcel) (s : State) : State :=
  (s.outPorts src (s.route x.tag)).foldl (offerCopy x.tag x) s

/-- R88: an accepted parcel handed to the Delivery Unit. -/
def handOver (e : RouteEntry) (x : StreamParcel) (s : State) : State :=
  let s1 := sendParcel e.sinks x s
  match e.binding with
  | some b => placeParcel b x s1
  | none => s1

/-- R84: a parcel from a port came from this frame. -/
def State.isLooped (s : State) (src : Option PortId) (x : StreamParcel) : Bool :=
  src.isSome && s.topo.frameNumber == some x.source

/-- R84: a parcel came from a port that is not a tree port. -/
def State.offTree (s : State) (src : Option PortId) : Bool := match src with | some p => !s.isTree p | none => false

/-- R84: the router counts a parcel for an INVALID entry at its arrival port. -/
def countUnrouted (src : Option PortId) (s : State) : State :=
  match src with
  | some p => { s with router := s.router.setPort p { s.router.port p with unrouted := bump (s.router.port p).unrouted } }
  | none => s

/-- R84 to R88, R96: the router takes a parcel from a port, or from the local packer. -/
def takeStream (src : Option PortId) (x : StreamParcel) (s : State) : State :=
  let e0 := s.route x.tag
  let e := { e0 with inCount := bump e0.inCount }
  if !e.active then countUnrouted src (s.setRoute x.tag { e with unrouted := bump e.unrouted })
  else if s.isLooped src x then s.setRoute x.tag { e with looped := bump e.looped }
  else if s.offTree src then s.setRoute x.tag { e with nonTree := bump e.nonTree }
  else if e.q / 256 < x.seq then s.setRoute x.tag { e with quotaDrops := bump e.quotaDrops }
  else handOver e x (forwardStream src x (s.setRoute x.tag (e.track x)))

/-! ## The source packers (R79 to R83) -/

/-- R81, R82: a parcel of the local packer of a tag. -/
def State.packedParcel (s : State) (tag : Nat) (k : Packer) (last absent truncated : Bool) (data : List Byte) :
    StreamParcel where
  tag := tag
  source := s.frameCode
  epoch := k.openEpoch.getD 0 % 65536
  seq := if absent then 0 else k.nextSeq
  last := last
  absent := absent
  truncated := truncated
  payload := data

/-- The state with a tag's packer replaced. -/
def State.setPacker (s : State) (tag : Nat) (k : Packer) : State := s.setRoute tag { s.route tag with packer := some k }

/-- R81: a full parcel cut from the Held bytes. -/
def cutFull (tag : Nat) (k : Packer) (s : State) : State :=
  takeStream none (s.packedParcel tag k false false false (k.held.take 256))
    (s.setPacker tag { k with held := k.held.drop 256, nextSeq := k.nextSeq + 1 })

/-- R80: a packer after the bytes of a burst. -/
def Packer.gather (k : Packer) (q : Nat) (data : List Byte) : Packer :=
  let kept := data.take (q - k.gathered)
  { k with
    gathered := k.gathered + kept.length
    held := k.held ++ kept
    truncated := k.truncated || decide (kept.length < data.length) }

/-- R80: the packer of a tag takes a burst of the slot. -/
def State.takesBurst (s : State) (slot tag : Nat) : Option Packer :=
  let e := s.route tag
  if tag ≤ 1023 ∧ e.active ∧ e.source = some slot ∧ (s.slot slot).state = .admitted then
    match e.packer with
    | some k => if k.openEpoch.isSome then some k else none
    | none => none
  else none

/-- R80, R81: a sample burst that reaches the router. -/
def takeBurst (slot tag : Nat) (data : List Byte) (s : State) : State :=
  match s.takesBurst slot tag with
  | none => s.updSlot slot (fun r => { r with strayBursts := bump r.strayBursts })
  | some k =>
    let k1 := k.gather (s.route tag).q data
    if 256 ≤ k1.held.length then cutFull tag k1 s else s.setPacker tag k1

/-- R82, R83: a packer opens an epoch. -/
def Packer.reopen (n : Nat) (seen : Bool) : Packer :=
  { openEpoch := some n, gathered := 0, held := [], nextSeq := 0, truncated := false, sourceSeen := seen }

/-- The Source Slot of an entry is ADMITTED (R79, R82). -/
def State.sourceAdmitted (s : State) (e : RouteEntry) : Bool :=
  match e.source with
  | some i => (s.slot i).state == .admitted
  | none => false

/-- R82, R83: one tag's packer closes its Open Epoch at a boundary, and hands its LAST to the router. -/
def closePacker (s : State) (tag : Nat) : State :=
  match (s.route tag).packer with
  | none => s
  | some k =>
    if k.openEpoch.isNone then s
    else if k.sourceSeen then takeStream none (s.packedParcel tag k true false k.truncated k.held) s
    else takeStream none (s.packedParcel tag k true true false []) s

/-- R82: every packer closes its Open Epoch. R82 gives the packers no order among themselves; here they go in
tag order (DESIGN CHOICE, log entry 40). -/
def closePackers (s : State) : State := (s.router.table.map (·.1)).foldl closePacker s

/-- R79, R82, R83: one tag's packer opens the epoch that the boundary event carries. -/
def reopenPacker (s : State) (tag : Nat) : State :=
  match (s.route tag).packer with
  | none => s
  | some _ => s.setPacker tag (Packer.reopen s.rtu.epoch (s.sourceAdmitted (s.route tag)))

/-- R82: every packer opens the event's epoch. -/
def reopenPackers (s : State) : State := (s.router.table.map (·.1)).foldl reopenPacker s

/-- R82: an entry whose Source Slot enters ADMITTED during its packer's Open Epoch. -/
def RouteEntry.seeSource (slot : Nat) (e : RouteEntry) : RouteEntry :=
  if e.source = some slot then
    { e with packer := e.packer.map (fun k => if k.openEpoch.isSome then { k with sourceSeen := true } else k) }
  else e

/-- R82, R122: a slot enters ADMITTED, and the packers it feeds set Source Seen. -/
def noteAdmitted (slot : Nat) (s : State) : State :=
  { s with router := { s.router with table := s.router.table.map (fun e => (e.1, e.2.seeSource slot)) } }

/-! ## The Route Table write (R77, R78, R90) and the guards (R92, R93) -/

/-- R89: what an entry contributes to a port's Committed Bytes. -/
def State.contribution (s : State) (p : PortId) (e : RouteEntry) : Nat := if s.entryUses p e then wireBytes e.q else 0

/-- R90: a port's Committed Bytes as it would stand after an entry's replacement. -/
def State.committedAfter (s : State) (p : PortId) (old new : RouteEntry) : Nat :=
  (s.router.port p).committed - s.contribution p old + s.contribution p new

/-- R90: a port's new sum both exceeds its Limit and exceeds its present sum. -/
def State.overLimit (s : State) (old new : RouteEntry) (p : PortId) : Bool :=
  let sum := s.committedAfter p old new
  decide (rateLimit (s.port p).rate < sum) && decide ((s.router.port p).committed < sum)

/-- R90: an accepted write's new sums. -/
def settleCommitted (old new : RouteEntry) (s : State) (p : PortId) : State :=
  let sum := s.committedAfter p old new
  { s with router := s.router.setPort p { s.router.port p with
      committed := sum, overcommitted := decide (rateLimit (s.port p).rate < sum) } }

/-- R78, R79: the entry after an accepted write: writable fields replaced, tracker absent, counters
kept, and a packer that runs on, ends or begins. -/
def RouteEntry.written (e : RouteEntry) (w : RouteWrite) : RouteEntry :=
  { e with
    active := w.mode == 1, source := w.source, fwdRoot := w.fwdRoot, fwdAway := w.fwdAway, sinks := w.sinks
    binding := w.binding, q := w.q, tracker := none
    packer :=
      if w.mode = 1 ∧ w.source.isSome then
        (if e.packer.isSome ∧ e.source = w.source then e.packer else some {})
      else none }

/-- R77, check 3: another ACTIVE entry names the binding. -/
def State.bindingNamed (s : State) (tag : Nat) (b : Option Nat) : Bool :=
  b.isSome && s.router.table.any (fun e => e.1 != tag && e.2.active && e.2.binding == b)

/-- R77, check 2: a written entry's fields lie in their ranges. -/
def routeInRange (w : RouteWrite) : Bool :=
  decide (w.mode ≤ 1) && decide (w.source.getD 0 ≤ 15) && decide (w.binding.getD 0 ≤ 63) && decide (w.q ≤ 65535)
    && !(w.source.isSome && w.q == 0)

/-- R77, R78, R90: a write of one Route Table entry. -/
def writeRoute (tag : Nat) (w : RouteWrite) (s : State) : Status × State :=
  let e := s.route tag
  let e1 := e.written w
  if s.router.guard.covers tag then (.writeProtected, s)
  else if !routeInRange w then (.badRequest, s)
  else if w.mode = 1 ∧ s.bindingNamed tag w.binding then (.inUse, s)
  else if w.mode = 1 ∧ (s.overLimit e e1 .p0 ∨ s.overLimit e e1 .p1) then (.noBandwidth, s)
  else (.ok, (PortId.all.foldl (settleCommitted e e1) s).setRoute tag e1)

/-- R92, R93: a guard after a write whose limits may reach `top`. -/
def Guard.write (g : Guard) (top : Nat) (w : GuardWrite) : Status × Guard :=
  if g.locked then (.writeProtected, g)
  else if top < w.low ∨ top < w.high then (.badRequest, g)
  else (.ok, ⟨w.low, w.high, w.complement, w.locked⟩)

/-- R92, R93: a write of the Route Table's guard. -/
def writeRouteGuard (w : GuardWrite) (s : State) : Status × State :=
  let x := s.router.guard.write 1023 w
  (x.1, { s with router := { s.router with guard := x.2 } })

end Sys2Proof.Machine
end

