-- ==== Sys2Proof/Machine/Slots.lean ====
section
/-! DEFINITION. Machine/Slots.lean: the Slot Unit (chapter 7): the slot state machine, its lane and
lane arbiter, the drain, the commands, the settings and attention. -/

namespace Sys2Proof.Machine

/-! ## Entries to states (R119 to R123) -/

/-- R123: the lane enters OFF, TRAINING or DORMANT: both credit counts become zero, and messages
committed and not yet sent are discarded. -/
def Slot.setLane (r : Slot) (l : LaneState) : Slot := { r with lane := l, advertised := 0, available := 0, committed := [] }

/-- R121: a slot enters POWERING. The lane trains at once where Power Enable was already on, and where
Power Good already shows good. -/
def enterPowering (i : Nat) (c : Cause) (s : State) : State :=
  s.updSlot i (fun r => ({ r with
    state := .powering, powerEnable := true, removal := false, timer := some ⟨.power, s.localTime⟩, lastCause := c } : Slot).setLane
      (if r.powerEnable || r.powerGood then .training else .off))

/-- R119, R120, R139: a slot enters INSERTED and, under AUTO, POWERING at once. -/
def enterInserted (i : Nat) (c : Cause) (s : State) : State :=
  let s1 := s.updSlot i (fun r => { r with state := .inserted, timer := none, removal := false, lastCause := c })
  if (s.slot i).auto then enterPowering i .autoOrAdmit s1 else s1

/-- A slot enters EMPTY: unpowered, its lane OFF, its timer and Drain record gone (R133, R137, R139). -/
def enterEmpty (i : Nat) (c : Cause) (s : State) : State :=
  s.updSlot i (fun r => ({ r with
    state := .empty, presence := false, powerEnable := false, removal := false, timer := none, drain := none
    lastCause := c } : Slot).setLane .off)

/-- A slot enters FAULTED (R121, R138). -/
def enterFaulted (i : Nat) (c : Cause) (s : State) : State :=
  raise .powerFault (s.updSlot i (fun r => ({ r with
    state := .faulted, powerEnable := false, removal := true, timer := none, drain := none, lastCause := c } : Slot).setLane .off))

/-- R131, R132: a slot enters QUIESCED. -/
def enterQuiesced (i : Nat) (c : Cause) (s : State) : State :=
  raise .slotQuiesced (s.updSlot i (fun r => ({ r with
    state := .quiesced, powerEnable := false, removal := true, timer := none, drain := none, lastCause := c } : Slot).setLane .off))

/-- R132: the entry to QUIESCED before the drain is complete, with its cleanup. -/
def quiesceEarly (i : Nat) (c : Cause) (s : State) : State := departureCleanup i .noTarget (enterQuiesced i c s)

/-! ## The drain (R130, R131) -/

/-- R131: the Drain flags as their conditions stand. -/
def State.drainFlags (s : State) (i : Nat) (d : Drain) : Drain where
  boundaryPassed := d.boundaryPassed
  inboundClear := s.trans.inbound.all (fun e => e.2.slot != i)
  lockClear := (s.lock i).holder.isNone
  ownClear := s.trans.ott.all (fun e => e.2.id != i) && (s.slot i).waiting.isEmpty

/-- R131: all four conditions hold. -/
def Drain.complete (d : Drain) : Bool := d.boundaryPassed && d.inboundClear && d.lockClear && d.ownClear

/-- R131: a slot's Drain record set from its conditions; a complete drain enters QUIESCED. -/
def settleDrain (s : State) (i : Nat) : State :=
  let r := s.slot i
  match r.drain with
  | none => s
  | some d =>
    if r.state = .extracting then
      let d1 := s.drainFlags i d
      if d1.complete then enterQuiesced i .drainComplete s else s.setSlot i { r with drain := some d1 }
    else s

/-- R131: every slot's drain. -/
def settleDrains (s : State) : State := (List.range 16).foldl settleDrain s

/-- R131: a boundary event passes in EXTRACTING. -/
def passBoundary (s : State) (i : Nat) : State :=
  s.updSlot i (fun r => { r with drain := r.drain.map (fun d => { d with boundaryPassed := true }) })

/-- R112, R130: a slot in ADMITTED or PARKED enters EXTRACTING. A delivery message already begun on the
lane is completed, and those committed behind it are not sent. -/
def enterExtracting (i : Nat) (c : Cause) (s : State) : State :=
  let s1 := s.updSlot i (fun r => { r with
    state := .extracting, timer := some ⟨.drain, s.localTime⟩, drain := some {}, delivery := [], lastCause := c
    counters := { r.counters with extractions := bump r.counters.extractions } }.unsend isDelivery)
  settleDrain (answerSlotInbound i (fun x => x == .waiting) .noTarget (raise .extractRequest s1)) i

/-! ## Inputs (R119, R121, R122, R127, R133, R137 to R139) -/

/-- R119: the presence input shows a module. -/
def presenceShown (i : Nat) (s : State) : State :=
  s.updSlot i (fun r =>
    if r.state = .empty ∧ !r.presence then { r with presence := true, timer := some ⟨.debounce, s.localTime⟩ }
    else { r with presence := true })

/-- R119, R120: the Debounce timer has run 16 ms. -/
def debounceDone (i : Nat) (s : State) : State :=
  let r := s.slot i
  if r.state = .empty ∧ r.timer.map (·.kind) = some .debounce then
    enterInserted i .presenceStable
      (raise .slotInserted (s.countSlot i (fun c => { c with insertions := bump c.insertions })))
  else s

/-- R137: a surprise removal. -/
def surpriseRemoval (i : Nat) (s : State) : State :=
  departureCleanup i .noTarget (raise .surpriseRemoval
    (enterEmpty i .surpriseRemoval (s.countSlot i (fun c => { c with surpriseRemovals := bump c.surpriseRemovals }))))

/-- R119, R121, R133, R137, R139: the presence input shows no module. -/
def presenceGone (i : Nat) (s : State) : State :=
  match (s.slot i).state with
  | .empty => s.updSlot i (fun r => { r with presence := false, timer := none })
  | .inserted => enterEmpty i .presenceLost (s.countSlot i (fun c => { c with withdrawn := bump c.withdrawn }))
  | .powering =>
    raise .surpriseRemoval
      (enterEmpty i .presenceLost (s.countSlot i (fun c => { c with surpriseRemovals := bump c.surpriseRemovals })))
  | .quiesced => enterEmpty i .removed s
  | .faulted => enterEmpty i .presenceLost s
  | .admitted => surpriseRemoval i s
  | .parked => surpriseRemoval i s
  | .extracting => surpriseRemoval i s

/-- R121, R138: Power Good shows good. -/
def powerShown (i : Nat) (s : State) : State :=
  s.updSlot i (fun r =>
    let r1 := { r with powerGood := true }
    if r.state = .powering ∧ r.lane = .off then r1.setLane .training else r1)

/-- R138: a power fault. -/
def powerFault (i : Nat) (s : State) : State :=
  enterFaulted i .powerGoodLost (s.countSlot i (fun c => { c with powerFaults := bump c.powerFaults }))

/-- R138: Power Good is lost. -/
def powerGone (i : Nat) (s : State) : State :=
  let r := s.slot i
  let s1 := s.setSlot i { r with powerGood := false }
  match r.state with
  | .powering => if r.powerGood then powerFault i s1 else s1
  | .admitted => departureCleanup i .noTarget (powerFault i s1)
  | .parked => departureCleanup i .noTarget (powerFault i s1)
  | .extracting => departureCleanup i .noTarget (powerFault i s1)
  | _ => s1

/-- R121: the Power timer has reached the Power Timeout. -/
def powerExpired (i : Nat) (s : State) : State :=
  let r := s.slot i
  if r.state = .powering ∧ r.timer.map (·.kind) = some .power then
    enterFaulted i .powerTimeout (s.countSlot i (fun c => { c with powerTimeouts := bump c.powerTimeouts }))
  else s

/-- R132: the Drain timer has reached the Drain Limit. -/
def drainExpired (i : Nat) (s : State) : State :=
  let r := s.slot i
  if r.state = .extracting ∧ r.timer.map (·.kind) = some .drain then
    quiesceEarly i .drainLimit (s.countSlot i (fun c => { c with drainTimeouts := bump c.drainTimeouts }))
  else s

/-- R121 to R123: the module advertises its lane credits; 0 is not taken. A module that returns after the
loss of its lane leaves Last Cause lane lost (R127), and one that advertises on a DORMANT lane is ignored
and counted (R126). -/
def laneAdvertised (i credits : Nat) (s : State) : State :=
  let r := s.slot i
  if r.state = .powering ∧ r.lane = .training ∧ 1 ≤ credits ∧ credits ≤ 255 then
    let s1 := s.setSlot i { r with
      state := .admitted, lane := .up, advertised := credits, available := credits, timer := none
      lastCause := if r.lastCause = .laneLost then .laneLost else .laneUp
      counters := { r.counters with admissions := bump r.counters.admissions } }
    let s2 := raise .slotAdmitted (noteAdmitted i s1)
    if r.handleOpen then enterExtracting i .handleOpened s2 else s2
  else if r.lane = .dormant then s.countSlot i (fun c => { c with dormantIgnored := bump c.dormantIgnored })
  else s

/-- R127: a lane in UP is lost. -/
def laneGone (i : Nat) (s : State) : State :=
  let r := s.slot i
  if r.lane = .up then
    let s1 := s.countSlot i (fun c => { c with laneLosses := bump c.laneLosses })
    match r.state with
    | .admitted => departureCleanup i .targetReset (enterPowering i .laneLost s1)
    | .extracting => quiesceEarly i .laneLost s1
    | _ => s1
  else s

/-- R130, R133, R139: the handle opens. -/
def handleOpens (i : Nat) (s : State) : State :=
  let s1 := s.updSlot i (fun r => { r with handleOpen := true })
  match (s.slot i).state with
  | .admitted => enterExtracting i .handleOpened s1
  | .parked => enterExtracting i .handleOpened s1
  | _ => s1

/-- R133, R139: the handle closes. -/
def handleCloses (i : Nat) (s : State) : State :=
  let s1 := s.updSlot i (fun r => { r with handleOpen := false })
  if (s.slot i).state = .quiesced then enterPowering i .handleClosed s1 else s1

/-! ## Arrivals from the module (R126, R184) -/

/-- R126: what arrives on a slot's lane: taken in UP, ignored and counted in DORMANT, and nothing else. -/
def fromModule (i : Nat) (take : State → State) (s : State) : State :=
  match (s.slot i).lane with
  | .up => take s
  | .dormant => s.countSlot i (fun c => { c with dormantIgnored := bump c.dormantIgnored })
  | _ => s

/-- R184: a lane message that is discarded and counted in Lane Errors. -/
def laneError (i : Nat) (s : State) : State := s.countSlot i (fun c => { c with laneErrors := bump c.laneErrors })

/-- R80, R184: a BURST message from a module: one of bad length is a lane error. -/
def burstArrives (i tag : Nat) (data : List Byte) (s : State) : State :=
  if data.length = 0 ∨ 256 < data.length ∨ data.length % 4 ≠ 0 then laneError i s else takeBurst i tag data s

/-! ## The lane arbiter (R125) -/

/-- R156: a slot's oldest answered OTT entry. -/
def State.oldestAnswer (s : State) (i : Nat) : Option (Nat × OttEntry) :=
  oldest (·.order) (s.trans.ott.filter (fun e => e.2.id == i && e.2.state == .answered))

/-- R158: a slot's first WAITING inbound entry. -/
def State.firstWaiting (s : State) (i : Nat) : Option (Nat × InEntry) :=
  oldest (·.order) (s.trans.inbound.filter (fun e => e.2.slot == i && e.2.state == .waiting))

/-- R141, R156: the completion that waits for a slot's lane is committed: the oldest answered entry's,
or else the BAD_REQUEST of a duplicate tag at the head of the lane. That the refusal goes after every ANSWERED entry,
whichever came first, and waits with one that lacks credits, is the model's (DESIGN CHOICE, log entry 62). None where
none can be. -/
def commitCompletion (i : Nat) (s : State) : Option State :=
  let r := s.slot i
  match s.oldestAnswer i with
  | some (k, e) =>
    let a := e.answer.getD ⟨.badRequest, []⟩
    if r.canCommit (laneCost a.data.length) then
      some ((s.freeOtt k).setSlot i (r.commit (.completion e.tag a.status.code a.data) (laneCost a.data.length)))
    else none
  | none =>
    match r.waiting with
    | w :: rest =>
      if w.refused && r.canCommit (laneCost 0) then
        some ((s.updTrans (fun t => { t with refusedAtIssue := bump t.refusedAtIssue })).setSlot i
          ({ r with waiting := rest }.commit (.completion w.req.tag Status.badRequest.code []) (laneCost 0)))
      else none
    | [] => none

/-- R158: the operation is presented to the module as a WRITE. -/
def Op.writes : Op → Bool
  | .write => true
  | .writeUnlock => true
  | _ => false

/-- R158: the inbound request message of an entry. That of a READ or READ_LOCK carries no data, also where its request
came with some (DESIGN CHOICE, log entry 51). -/
def InEntry.message (h : Nat) (e : InEntry) : LaneMsg :=
  .inbound h e.who.frame e.who.id (Op.writes e.op) e.length e.address (if Op.writes e.op then e.data else [])

/-- R158: the lane credits of an entry's message. -/
def InEntry.cost (e : InEntry) : Nat := laneCost (if Op.writes e.op then e.data.length else 0)

/-- R158: a slot's first WAITING inbound entry is committed to the lane and becomes AT_MODULE. -/
def commitInbound (i : Nat) (s : State) : Option State :=
  let r := s.slot i
  match s.firstWaiting i with
  | some (h, e) =>
    if r.canCommit e.cost then
      some ((s.setIn h { e with state := .atModule }).setSlot i (r.commit (e.message h) e.cost))
    else none
  | none => none

/-- R111: the next segment is committed. None where it cannot be. -/
def commitSegment (i : Nat) (s : State) : Option State := if s.segmentReady i then some (sendSegment i s) else none

/-- R125: the lane's arbiter: the first waiting message that the credits allow. -/
def arbitrateLane (i : Nat) (s : State) : Option State :=
  match commitCompletion i s with
  | some t => some t
  | none =>
    match commitInbound i s with
    | some t => some t
    | none => commitSegment i s

/-- R125: the arbiter offers what remains in the same order; each message takes at least one credit. -/
def serveLane (i : Nat) : Nat → State → State
  | 0, s => s
  | n + 1, s =>
    match arbitrateLane i s with
    | some t => serveLane i n t
    | none => s

/-- R124, R125: a CREDIT lane message returns credits to a lane in UP. -/
def creditsReturned (i count : Nat) (s : State) : State :=
  let s1 := s.updSlot i (fun r => { r with
    available := min (r.available + count) r.advertised
    counters := { r.counters with creditExcess := bumpBy (r.available + count - r.advertised) r.counters.creditExcess } })
  settleDrain (serveLane i (s1.slot i).available s1) i

/-! ## Commands (R128, R134 to R136) -/

/-- R128: ADMIT. -/
def admitCommand (i : Nat) (s : State) : Status × State :=
  match (s.slot i).state with
  | .inserted => (.ok, enterPowering i .autoOrAdmit s)
  | .quiesced => (.ok, enterPowering i .readmitted s)
  | .powering => (.ok, s)
  | .admitted => (.ok, s)
  | _ => (.badRequest, s)

/-- R128: EJECT. -/
def ejectCommand (i : Nat) (s : State) : Status × State :=
  match (s.slot i).state with
  | .admitted => (.ok, enterExtracting i .eject s)
  | .parked => (.ok, enterExtracting i .eject s)
  | .extracting => (.ok, s)
  | .quiesced => (.ok, s)
  | _ => (.badRequest, s)

/-- R134: a slot enters PARKED. -/
def parkSlot (i : Nat) (s : State) : State :=
  departureCleanup i .noTarget (s.updSlot i (fun r => ({ r with
    state := .parked, lastCause := .park, counters := { r.counters with parks := bump r.counters.parks } } : Slot).setLane .dormant))

/-- R128: PARK. -/
def parkCommand (i : Nat) (s : State) : Status × State :=
  match (s.slot i).state with
  | .admitted => if (s.lock i).holder.isSome then (.inUse, s) else (.ok, parkSlot i s)
  | .parked => (.ok, s)
  | _ => (.badRequest, s)

/-- R128, R135: UNPARK. -/
def unparkCommand (i : Nat) (s : State) : Status × State :=
  match (s.slot i).state with
  | .parked => (.ok, enterPowering i .unpark s)
  | .admitted => (.ok, s)
  | _ => (.badRequest, s)

/-- R128, R139: CLEAR. -/
def clearCommand (i : Nat) (s : State) : Status × State :=
  match (s.slot i).state with
  | .faulted => (.ok, enterInserted i .clear s)
  | _ => (.badRequest, s)

/-- R136: a slot reset. -/
def resetSlot (i : Nat) (s : State) : State :=
  departureCleanup i .targetReset
    (enterPowering i .slotReset (s.countSlot i (fun c => { c with slotResets := bump c.slotResets })))

/-- R128, R136: SLOT_RESET. -/
def slotResetCommand (i : Nat) (s : State) : Status × State :=
  match (s.slot i).state with
  | .admitted => (.ok, resetSlot i s)
  | _ => (.badRequest, s)

/-- R128, 11.5: the command a code names, on one slot. -/
def slotCommand (i code : Nat) (s : State) : Status × State :=
  match code with
  | 1 => admitCommand i s
  | 2 => ejectCommand i s
  | 3 => parkCommand i s
  | 4 => unparkCommand i s
  | 5 => clearCommand i s
  | 6 => slotResetCommand i s
  | _ => (.badRequest, s)

/-! ## Settings and timers (R118) -/

/-- A slot's running timer has reached its limit. -/
def State.timerReached (s : State) (r : Slot) (k : TimerKind) : Bool :=
  match r.timer with
  | some t =>
    t.kind == k && decide (t.start + (match k with
      | .debounce => Config.debounceCycles
      | .power => r.powerTimeout * Config.cyclesPerMs
      | .drain => r.drainLimit * Config.cyclesPerMs) ≤ s.localTime)
  | none => false

/-- R118: a limit already exceeded expires the running timer at once. -/
def expireSlotTimers (i : Nat) (s : State) : State :=
  let r := s.slot i
  if s.timerReached r .power then powerExpired i s
  else if s.timerReached r .drain then drainExpired i s
  else s

/-- R117, R120: a slot in INSERTED becomes subject to AUTO. -/
def powerInserted (s : State) (i : Nat) : State :=
  let r := s.slot i
  if r.state = .inserted ∧ r.auto then enterPowering i .autoOrAdmit s else s

/-- R118: a write of a slot's settings record; the policy's codes are AUTO 0 and MANAGED 1. -/
def writeSlotSettings (i : Nat) (w : SlotSettings) (s : State) : Status × State :=
  if 1 < w.policy ∨ w.powerTimeout % 10 ≠ 0 ∨ w.powerTimeout < 10 ∨ 2550 < w.powerTimeout
      ∨ w.drainLimit < 1 ∨ 1000 < w.drainLimit then (.badRequest, s)
  else
    let s1 := s.updSlot i (fun r => { r with
      auto := w.policy == 0, powerTimeout := w.powerTimeout, drainLimit := w.drainLimit, attention := w.attention })
    (.ok, powerInserted (expireSlotTimers i s1) i)

/-! ## Attention (R178) -/

/-- R178: an attention edge of a slot. -/
def attentionRaised (i : Nat) (s : State) : State :=
  let r := s.slot i
  if r.state = .admitted ∧ r.attention then
    raise .attention (s.updMgmt (fun m => { m with attentionSet := addSlot m.attentionSet i }))
  else s

/-- R178: a write of the Attention removal set; a set that becomes empty clears ATTENTION. -/
def removeAttention (set : SlotSet) (s : State) : State :=
  let s1 := s.updMgmt (fun m => { m with attentionSet := m.attentionSet &&& ~~~set })
  if s1.mgmt.attentionSet = 0 then clearKind s1 EventKind.attention.code else s1

end Sys2Proof.Machine
end

