-- ==== Sys2Proof/Machine/Writes.lean ====
section
/-! DEFINITION. Machine/Writes.lean: the writes of the records that have no chapter file of their own
here (timebase, transactions, windows, channels, management, ports), each answering its status. -/

namespace Sys2Proof.Machine

/-! ## Timebase (R58, R59, R61) -/

/-- R58: a write of Root Trim. -/
def writeRootTrim (v : Int) (s : State) : Status × State :=
  if s.topo.root ∧ -trimMax ≤ v ∧ v ≤ trimMax then (.ok, { s with rtu := { s.rtu with rootTrim := v } })
  else (.badRequest, s)

/-- R59: a Rack Time Load; the value is 56 bits wide. -/
def writeLoad (v : Nat) (s : State) : Status × State :=
  if s.topo.root then (.ok, { s with rtu := { s.rtu with pendingLoad := some (v % 2 ^ 56) } }) else (.badRequest, s)

/-- R61, 3.8: the settings lie in their ranges. -/
def settingsInRange (w : TimebaseSettings) : Bool :=
  decide (w.gi ≤ 15) && decide (w.gp ≤ 7) && decide (1 ≤ w.st ∧ w.st ≤ 65535) && decide (1 ≤ w.lw ∧ w.lw ≤ 4095)
    && decide (w.stepPolicy ≤ 1) && decide (1 ≤ w.holdoverLimit ∧ w.holdoverLimit ≤ 65535) && decide (w.delayMode ≤ 1)

/-- R61: a write of the timebase settings; the codes are ALLOW 0 and NEVER 1, SINGLE 0 and REPEAT 1. -/
def writeTimebase (w : TimebaseSettings) (s : State) : Status × State :=
  if settingsInRange w then
    (.ok, { s with rtu := { s.rtu with
      gi := w.gi, gp := w.gp, st := w.st, lw := w.lw, stepAllowed := w.stepPolicy == 0
      holdoverLimit := w.holdoverLimit, delayRepeat := w.delayMode == 1 } })
  else (.badRequest, s)

/-! ## Transactions and windows (R144, R147) -/

/-- R147: a time limit lies in its range. -/
def limitInRange (v : Nat) : Bool := decide (1 ≤ v ∧ v ≤ 4095)

/-- R147: a write of the three transaction settings. -/
def writeTransSettings (w : TransSettings) (s : State) : Status × State :=
  if limitInRange w.timeout && limitInRange w.responseLimit && limitInRange w.lockHold then
    (.ok, s.updTrans (fun t => { t with settings := w }))
  else (.badRequest, s)

/-- R144: a size is a power of two from 4,096 to 2^30. -/
def sizeInRange (n : Nat) : Bool := (List.range 31).any (fun k => decide (12 ≤ k) && n == 2 ^ k)

/-- R144, check 2: a written window's fields lie in their ranges. -/
def windowInRange (w : WindowWrite) : Bool :=
  decide (w.frame ≤ 31) && validTarget w.target && sizeInRange w.size && decide (w.base % w.size = 0)
    && decide (w.base < 2 ^ 32) && decide (w.policy ≤ 1) && decide (w.retryLimit ≤ 7)

/-- R144: a write of one window; the policies' codes are FAIL 0 and RETRY 1. -/
def writeWindow (i : Nat) (w : WindowWrite) (s : State) : Status × State :=
  if s.trans.guard.covers i then (.writeProtected, s)
  else match Swap.ofCode w.swap with
    | none => (.badRequest, s)
    | some sw =>
      if windowInRange w then
        (.ok, s.setWindow i
          { enabled := w.enabled, frame := w.frame, target := w.target, base := w.base, size := w.size, swap := sw
            readOnly := w.readOnly, retry := w.policy == 1, retryLimit := w.retryLimit })
      else (.badRequest, s)

/-- R92, R93, R144: a write of the Window Map's guard. -/
def writeWindowGuard (w : GuardWrite) (s : State) : Status × State :=
  let x := s.trans.guard.write 63 w
  (x.1, s.updTrans (fun t => { t with guard := x.2 }))

/-! ## Channels (R165, R167) -/

/-- R165: a written setup's fields lie in their ranges. -/
def setupInRange (w : ChannelSetup) : Bool :=
  decide (w.srcFrame ≤ 31) && decide (w.dstFrame ≤ 31) && validTarget w.srcTarget && validTarget w.dstTarget
    && decide (1 ≤ w.length ∧ w.length ≤ 2 ^ 24) && (w.chunk == 64 || w.chunk == 128 || w.chunk == 256)
    && decide (w.pacing ≤ 255) && decide (w.policy ≤ 1)

/-- R165: a write of a channel's setup; the policies' codes are FAIL 0 and RETRY 1, and pacing 0 is FREE. -/
def writeChannel (c : Nat) (w : ChannelSetup) (s : State) : Status × State :=
  let r := s.channel c
  if r.state = .running ∨ r.state = .paused then (.inUse, s)
  else if setupInRange w then
    (.ok, s.setChannel c { r with
      srcFrame := w.srcFrame, srcTarget := w.srcTarget, srcAddr := w.srcAddr, dstFrame := w.dstFrame
      dstTarget := w.dstTarget, dstAddr := w.dstAddr, length := w.length, chunk := w.chunk, pacing := w.pacing
      retry := w.policy == 1 })
  else (.badRequest, s)

/-- R167: START. -/
def startCommand (c : Nat) (s : State) : Status × State :=
  let r := s.channel c
  if r.state = .running ∨ r.state = .paused then (.inUse, s)
  else (.ok, s.setChannel c { r with
    state := .running, remaining := r.length, readOffset := 0, fault := none, starts := bump r.starts })

/-- R167: PAUSE. -/
def pauseCommand (c : Nat) (s : State) : Status × State :=
  let r := s.channel c
  match r.state with
  | .running => (.ok, s.setChannel c { r with state := .paused })
  | .paused => (.ok, s)
  | _ => (.badRequest, s)

/-- R167: RESUME. -/
def resumeCommand (c : Nat) (s : State) : Status × State :=
  let r := s.channel c
  match r.state with
  | .paused => (.ok, s.setChannel c { r with state := .running })
  | .running => (.ok, s)
  | _ => (.badRequest, s)

/-- R167: ABORT. -/
def abortCommand (c : Nat) (s : State) : Status × State :=
  (.ok, s.setChannel c { s.channel c with state := .idle, inFlight := [] })

/-- R167, 11.4: the command a code names, on one channel. -/
def channelCommand (c code : Nat) (s : State) : Status × State :=
  match code with
  | 1 => startCommand c s
  | 2 => pauseCommand c s
  | 3 => resumeCommand c s
  | 4 => abortCommand c s
  | _ => (.badRequest, s)

/-! ## Management (R174, R177, R178) -/

/-- R174: a write of the Manager field. -/
def writeManager (frame slot : Nat) (s : State) : Status × State :=
  if frame ≤ 31 ∧ slot ≤ 15 then (.ok, s.updMgmt (fun m => { m with manager := some (frame, slot) }))
  else (.badRequest, s)

/-- R177: a write of the clear set. -/
def writeClear (set : BitVec 32) (s : State) : Status × State := (.ok, clearKinds set s)

/-- R177: one kind's Notice State follows its enable. -/
def enableKind (enable : BitVec 32) (s : State) (k : Nat) : State :=
  s.setEvent k ((s.event k).enableNotice (enable.getLsbD k))

/-- R177, R183: a set of kinds without its reserved bits. -/
def kindBits (set : BitVec 32) : BitVec 32 := set &&& 0x0FFFFFFF

/-- R177: a write of Notice Enable and Notice Address. -/
def writeNotice (enable : BitVec 32) (address : Nat) (s : State) : Status × State :=
  if address % 16 ≠ 0 then (.badRequest, s)
  else (.ok, (List.range kindCount).foldl (enableKind enable)
    (s.updMgmt (fun m => { m with noticeEnable := kindBits enable, noticeAddress := address })))

/-- R178: a write of the Attention removal set. -/
def writeRemoval (set : SlotSet) (s : State) : Status × State := (.ok, removeAttention set s)

/-! ## Ports (R19, R20, R22, R23) -/

/-- R20: a write of Rate Request; the codes are BASE 0 and FAST 1. -/
def writeRate (p : PortId) (v : Nat) (s : State) : Status × State :=
  match v with
  | 0 => (.ok, if (s.port p).rateRequest = .base then s else changeRate p .base s)
  | 1 => (.ok, if (s.port p).rateRequest = .fast then s else changeRate p .fast s)
  | _ => (.badRequest, s)

/-- R176, 11.5: the command a code names, on one port. Every port command's completion is OK. -/
def portCommand (p : PortId) (code : Nat) (s : State) : Status × State :=
  match code with
  | 1 => (.ok, retrainCommand p s)
  | 2 => (.ok, startBurstCommand p s)
  | 3 => (.ok, nearCommand p s)
  | 4 => (.ok, farCommand p s)
  | 5 => (.ok, offCommand p s)
  | _ => (.badRequest, s)

end Sys2Proof.Machine
end

