-- ==== Sys2Proof/Machine/Reset.lean ====
section
/-! DEFINITION. Machine/Reset.lean: the power-on reset (R182) and the controller reset (R181) of every
unit. -/

namespace Sys2Proof.Machine

/-! ## Power-on reset (R182) -/

/-- R1: a port after power-on reset; its cable sense input stands as it is. -/
def powerOnPort (r : Port) : Port := { cableSense := r.cableSense }

/-- R116: a slot after power-on reset; its three inputs stand as they are, and a module present starts
the Debounce timer. -/
def powerOnSlot (r : Slot) : Slot :=
  { presence := r.presence, handleOpen := r.handleOpen, powerGood := r.powerGood
    timer := if r.presence then some ⟨.debounce, 0⟩ else none }

/-- R24: the Topology Unit after power-on reset. -/
def powerOnTopology (root : Bool) (uid : Nat) : Topology :=
  if root then { frameNumber := some 0, root := true, hops := some 0, directory := [(0, ⟨.here, 0, uid⟩)] } else {}

/-- R182: power-on reset with the sampled straps. The queue of commands stands as it is. -/
def powerOn (root : Bool) (mgr : Nat) (s : State) : State :=
  raise .wasReset
    { unitId := s.unitId
      mgrSlot := mgr
      port0 := powerOnPort s.port0
      port1 := powerOnPort s.port1
      topo := powerOnTopology root s.unitId
      rtu := { state := if root then .reference else .free }
      slots := (List.range 16).foldl (fun t i => tset {} t i (powerOnSlot (s.slot i))) []
      mgmt := { manager := if root then some (0, mgr) else none }
      pending := s.pending }

/-! ## Controller reset (R181) -/

/-- R1: a port after a controller reset. -/
def resetPort (r : Port) : Port := { r with counters := {}, badThisEpoch := 0, rateRequest := .base }

/-- R24: the Topology Unit after a controller reset: the counters alone change. -/
def resetTopology (t : Topology) : Topology :=
  { frameNumber := t.frameNumber, root := t.root, rootward := t.rootward, hops := t.hops, mark0 := t.mark0
    mark1 := t.mark1, directory := t.directory }

/-- R44, R61: the Rack Time Unit after a controller reset. -/
def resetRtu (root : Bool) (r : Rtu) : Rtu :=
  { rackTime := r.rackTime, epoch := r.epoch, trim := r.trim, rootTrim := r.rootTrim, trimHistory := r.trimHistory
    lastOffset := r.lastOffset, lastMarkEpoch := r.lastMarkEpoch, state := if root then .reference else .acquire }

/-- R65: the Trigger Unit after a controller reset keeps its Origin Sequences. -/
def resetTrigger (t : TriggerUnit) : TriggerUnit := { originSeq := t.originSeq }

/-- R100: a binding after a controller reset keeps Base Block, B, Sink Set and Swap. -/
def resetBinding (b : Binding) : Binding := { base := b.base, blocks := b.blocks, sinks := b.sinks, swap := b.swap }

/-- R76, R100, R117: a slot's record after a controller reset, with its delivery record and Stray Bursts. The
sections are abandoned as R99 has it: nothing of them follows a SECTION message already begun. Both credit counts
stand as they were. -/
def resetSlotRecord (r : Slot) : Slot :=
  { { r with
      auto := true, powerTimeout := 200, drainLimit := 50, attention := false, counters := {}
      delivery := [], segmentsSent := 0, parcelsSent := 0, immediateDrops := 0, strayBursts := 0 }.unsend isSection with
    available := r.available }

/-- R166: a channel after a controller reset. -/
def resetChannel (r : Channel) : Channel :=
  { r with
    state := .idle, inFlight := [], starts := 0, chunksRead := 0, chunksWritten := 0, faults := 0, discardedAnswers := 0 }

/-- A table with every value changed, in canonical form. -/
def tmap {α : Type} [DecidableEq α] (d : α) (f : α → α) (t : List (Nat × α)) : List (Nat × α) :=
  (t.map (fun e => (e.1, f e.2))).filter (fun e => decide (e.2 ≠ d))

/-- R147: an entry that is not yet ANSWERED is answered ABORTED. -/
def abortEntry (s : State) (i : Nat) : State :=
  match s.ottEntry i with
  | some e => if e.state = .answered then s else answerEntry i .aborted [] s
  | none => s

/-- R160, R181: the Handles of the WAITING and AT_MODULE entries, in the order in which they were taken, in which a
controller reset answers them (DESIGN CHOICE, log entry 56). -/
def State.openHandles (s : State) : List Nat :=
  ((s.trans.inbound.filter (fun e => e.2.state != .answering)).insertionSort (fun a b => a.2.order ≤ b.2.order)).map (·.1)

/-- R145, R147, R160, R163: the Transaction Unit at a controller reset. The arbiter's count starts again at 0
before the ABORTED answers free any entry, so that entries freed in the same act may move it on (DESIGN CHOICE, log entry
72), and what the arbiter has given stands (R141). Where one slot has several
entries, they are answered, and so aged, in table index order (DESIGN CHOICE, log entry 57). -/
def resetTrans (s : State) : State :=
  let s1 := (List.range 32).foldl abortEntry (s.updTrans (fun t => { t with lastTaken := none }))
  let s2 := s1.openHandles.foldl (fun s h => answerInbound h .aborted [] s) s1
  s2.updTrans (fun t =>
    { ott := t.ott, inbound := t.inbound, windows := tmap {} (fun w => { w with enabled := false }) t.windows
      granted := t.granted, lastTaken := t.lastTaken })

/-- R181: the Management Unit at a controller reset, before WAS_RESET. -/
def resetMgmt (m : Mgmt) : Mgmt :=
  { manager := m.manager, noticeAddress := m.noticeAddress, noticeEnable := m.noticeEnable, nextTag := m.nextTag
    lastKind := m.lastKind }

/-- The units whose controller reset touches no other unit. The Notice In Flight and the channels' In
Flight lists go before the ABORTED answers come (R166, R181). -/
def resetUnits (s : State) : State :=
  { s with
    port0 := resetPort s.port0
    port1 := resetPort s.port1
    topo := resetTopology s.topo
    rtu := resetRtu s.topo.root s.rtu
    trig := resetTrigger s.trig
    router := {}
    bindings := tmap {} resetBinding s.bindings
    channels := tmap {} resetChannel s.channels
    mgmt := resetMgmt s.mgmt }

/-- R181: the controller reset, performed once its completion has been accepted. The counters that the
ABORTED answers move end at zero (log entry 12). -/
def controllerResetAct (s : State) : State :=
  let s1 := resetTrans (resetUnits s)
  let s2 := { s1 with channels := tmap {} resetChannel s1.channels }
  let s3 := (List.range 16).foldl (fun s i => powerInserted (s.updSlot i resetSlotRecord) i) s2
  raise .wasReset s3

/-- R40: the release of the number, once its completion has been offered. -/
def releaseAct (s : State) : State :=
  let s1 := s.updTopo (fun t => { t with frameNumber := none, directory := t.directory.filter (fun e => e.2.via != .here) })
  announceExcept none ⟨unnumberedCode, 1, s.unitId⟩ (helloUpPorts s1)

end Sys2Proof.Machine
end

