-- ==== Sys2Proof/Machine/Space.lean ====
section
/-! DEFINITION. Machine/Space.lean: controller space (10.2, 11.4): the map of regions, the words of
each region as a READ returns them, and the fields that a WRITE reaches. Choices of layout that 11.4
leaves open are log entry 13. -/

namespace Sys2Proof.Machine

/-! ## The map (R185) -/

/-- The regions of controller space. -/
inductive Region where
  | identity | ports | timebase | directory | slots | triggers | events | routes | bindings | windows | ott
  | inbound | locks | channels | counters
  deriving DecidableEq, Repr

/-- Every region. -/
def Region.all : List Region :=
  [.identity, .ports, .timebase, .directory, .slots, .triggers, .events, .routes, .bindings, .windows, .ott,
   .inbound, .locks, .channels, .counters]

/-- Base address, record size and extent of a region (R185). -/
def Region.map : Region → Nat × Nat × Nat
  | .identity => (0x000000, 4, 32)
  | .ports => (0x020000, 4, 2048)
  | .timebase => (0x040000, 4, 256)
  | .directory => (0x060000, 16, 512)
  | .slots => (0x080000, 4, 4096)
  | .triggers => (0x0A0000, 4, 1024)
  | .events => (0x0C0000, 4, 256)
  | .routes => (0x100000, 64, 65792)
  | .bindings => (0x120000, 256, 24576)
  | .windows => (0x140000, 16, 1040)
  | .ott => (0x160000, 4, 16640)
  | .inbound => (0x180000, 4, 8208)
  | .locks => (0x1A0000, 4, 512)
  | .channels => (0x1C0000, 4, 512)
  | .counters => (0x1E0000, 4, 256)

/-- R175: the bytes addressed lie wholly within the region, on its record boundaries. -/
def Region.covers (r : Region) (address length : Nat) : Bool :=
  let (base, record, extent) := r.map
  decide (base ≤ address) && decide (address + length ≤ base + extent) && decide ((address - base) % record = 0)
    && decide (length % record = 0)

/-- R175: the region that an access addresses, with the index of its first word. -/
def regionAt (address length : Nat) : Option (Region × Nat) :=
  (Region.all.find? (fun r => r.covers address length)).map (fun r => (r, (address - r.map.1) / 4))

/-! ## Words -/

/-- A word of four bytes, the first the most significant (11.1). -/
def bytes4 (a b c d : Nat) : Nat := a * 16777216 + b * 65536 + c * 256 + d

/-- A field of 33 to 64 bits: two words, most significant first. -/
def twoWords (v : Nat) : List Nat := [v / 2 ^ 32 % 2 ^ 32, v % 2 ^ 32]

/-- A signed field of one word, in two's complement: 11.1 gives no coding of a negative value (DESIGN CHOICE, log
entry 13). -/
def signedWord (x : Int) : Nat := (BitVec.ofInt 32 x).toNat

/-- A signed field of two words, in two's complement of 64 bits (DESIGN CHOICE, log entry 13). -/
def signedTwo (x : Int) : List Nat := twoWords (BitVec.ofInt 64 x).toNat

/-- A true or false field, or one of two sides that no table codes: true, present, open, good, on and lit read 1
(DESIGN CHOICE, log entry 13). -/
def flagWord (b : Bool) : Nat := if b then 1 else 0

/-- Words with zeros after them up to `n`. -/
def padTo (n : Nat) (l : List Nat) : List Nat := l ++ List.replicate (n - l.length) 0

/-- An optional field: its present word, and then its parts in `n` words. -/
def optWords (n : Nat) (o : Option (List Nat)) : List Nat :=
  match o with
  | some ws => 1 :: padTo n ws
  | none => padTo (n + 1) []

/-- A list: its number of entries, and then room for `n` words of entries. -/
def listWords (n count : Nat) (ws : List Nat) : List Nat := count :: padTo n ws

/-- Local time reads as the low 32 bits of the local cycle count (11.1). -/
def timeWord (t : Nat) : Nat := t % 2 ^ 32

/-- The code of a port state (11.1, 1.1). -/
def PortState.code : PortState → Nat
  | .absent => 0
  | .training => 1
  | .pairing => 2
  | .measure => 3
  | .up => 4
  | .loopback => 5

/-- The code of a Loopback Form. -/
def LoopForm.code : LoopForm → Nat
  | .none => 0
  | .near => 1
  | .far => 2
  | .farServed => 3

/-- The code of a rate. -/
def Rate.code : Rate → Nat
  | .base => 0
  | .fast => 1

/-- The code of a route's end: 0, 1, or LOCAL 2; none is FFh (11.1). -/
def viaCode (v : Option Via) : Nat :=
  match v with
  | some (.port p) => p.code
  | some .here => 2
  | none => 255

/-- The code of a timebase state. -/
def Timebase.code : Timebase → Nat
  | .reference => 0
  | .free => 1
  | .acquire => 2
  | .track => 3
  | .holdover => 4

/-- The code of a slot state. -/
def SlotState.code : SlotState → Nat
  | .empty => 0
  | .inserted => 1
  | .powering => 2
  | .admitted => 3
  | .parked => 4
  | .extracting => 5
  | .quiesced => 6
  | .faulted => 7

/-- The code of a lane state. -/
def LaneState.code : LaneState → Nat
  | .off => 0
  | .training => 1
  | .up => 2
  | .dormant => 3

/-- The code of a slot timer. -/
def TimerKind.code : TimerKind → Nat
  | .debounce => 0
  | .power => 1
  | .drain => 2

/-- The code of a Last Cause: the named values in their order, then the table of 7.2 in its order. -/
def Cause.code : Cause → Nat
  | .powerOn => 0
  | .presenceLost => 1
  | .drainComplete => 2
  | .drainLimit => 3
  | .laneLost => 4
  | .removed => 5
  | .surpriseRemoval => 6
  | .presenceStable => 7
  | .autoOrAdmit => 8
  | .laneUp => 9
  | .powerTimeout => 10
  | .powerGoodLost => 11
  | .handleOpened => 12
  | .eject => 13
  | .park => 14
  | .slotReset => 15
  | .unpark => 16
  | .handleClosed => 17
  | .readmitted => 18
  | .clear => 19

/-- The code of a section state. -/
def SectionState.code : SectionState → Nat
  | .idle => 0
  | .opened => 1
  | .released => 2

/-- The code of an OTT entry's state; 0 is a free entry (11.4). -/
def OttState.code : OttState → Nat
  | .queued => 1
  | .sent => 2
  | .backoff => 3
  | .answered => 4

/-- The code of an inbound entry's state. -/
def InState.code : InState → Nat
  | .waiting => 0
  | .atModule => 1
  | .answering => 2

/-- The code of a channel state. -/
def ChannelState.code : ChannelState → Nat
  | .idle => 0
  | .running => 1
  | .paused => 2
  | .done => 3
  | .faulted => 4

/-- The code of a chunk's stage. -/
def Stage.code : Stage → Nat
  | .reading => 0
  | .held => 1
  | .writing => 2

/-- The code of a Notice State. -/
def NoticeState.code : NoticeState → Nat
  | .none => 0
  | .awaiting => 1
  | .sent => 2
  | .failed => 3

/-- The words of data bytes. -/
def dataWords (n : Nat) (d : List Byte) : List Nat :=
  (List.range n).map (fun k => beNat (((d.drop (4 * k)).take 4) ++ List.replicate (4 - ((d.drop (4 * k)).take 4).length) 0))

/-! ## The regions as read -/

/-- Identity and status (11.4). The bytes of Manager in word 3 are log entry 13. -/
def State.identityWords (s : State) : List Nat :=
  twoWords s.unitId ++
  [bytes4 s.frameCode (flagWord s.topo.root) (s.topo.hops.getD 255) (viaCode (s.topo.rootward.map .port)),
   match s.mgmt.manager with
   | some (f, i) => bytes4 1 f i 0
   | none => 0]

/-- One echo of a burst: number, T1, T2, T3 and T4. -/
def Echo.words (e : Echo) : List Nat :=
  let r := e.reply.getD (0, 0, 0)
  e.number :: twoWords (e.t1.getD 0) ++ twoWords r.1 ++ twoWords r.2.1 ++ twoWords r.2.2

/-- The peer record's parts (1.1). -/
def Peer.words (q : Peer) : List Nat :=
  twoWords q.uid ++ [q.frame, flagWord q.root, q.hops, flagWord q.rootward, flagWord q.fast, q.limStream, q.limRequest,
    q.limCompletion]

/-- The counters of a port record, in their order (1.1). -/
def PortCounters.words (c : PortCounters) : List Nat :=
  [c.badCrc, c.badLength, c.badKind, c.rxOverflow, c.early, c.stale, c.creditExcess, c.txDrops, c.tailDrops,
   c.flushed, c.retrains, c.loopGood, c.loopBad]

/-- A port's block (1.1); word 6 is the command field. Cable Sense reads 1 for present (log entry 13). -/
def Port.words (r : Port) : List Nat :=
  [r.state.code, r.loopForm.code, flagWord r.cableSense, flagWord (r.state == .up), r.rate.code, r.rateRequest.code, 0,
   flagWord r.heldAtBase]
  ++ optWords 10 (r.peer.map Peer.words)
  ++ [flagWord r.peerFast, flagWord r.rootConflict, flagWord r.selfCabled, r.delay, flagWord r.delayValid]
  ++ optWords 1 (r.loopDelay.map (fun d => [d]))
  ++ optWords 72 (r.burst.map (fun b => b.echoes.flatMap Echo.words))
  ++ [r.echoNumber, r.burstCount, r.txCredits.stream, r.txCredits.request, r.txCredits.completion, r.freed.stream,
      r.freed.request, r.freed.completion, r.badThisEpoch]
  ++ listWords 3 r.retrainHistory.length r.retrainHistory
  ++ [r.streamRun] ++ r.counters.words

/-- The timebase region (3.1). -/
def Rtu.words (r : Rtu) : List Nat :=
  twoWords r.ticks ++ [r.rackTime.toNat % 2 ^ 32] ++ twoWords r.epoch
  ++ [r.state.code, signedWord r.trim, signedWord r.rootTrim]
  ++ optWords 2 (r.slew.map (fun w => [signedWord w.s, w.cycles]))
  ++ [signedWord r.correction]
  ++ optWords 2 (r.pendingStep.map signedTwo) ++ optWords 2 (r.pendingLoad.map twoWords)
  ++ [r.lockCount, r.wideCount, r.outlierCount, r.markGap, r.holdoverEpochs]
  ++ optWords 2 (r.lastOffset.map signedTwo) ++ twoWords r.lastMarkEpoch
  ++ listWords 16 r.trimHistory.length (r.trimHistory.map signedWord)
  ++ [r.gi, r.gp, r.st, r.lw, flagWord (!r.stepAllowed), r.holdoverLimit, flagWord r.delayRepeat]
  ++ [r.marksUsed, r.marksUnusable, r.outliers, r.steps, r.loads, r.trimClamps, r.correctionClamps, r.burstsValid,
      r.burstsInvalid, r.forwardSaturations]

/-- A directory record (11.4). -/
def DirEntry.words (e : DirEntry) : List Nat := [bytes4 1 (viaCode (some e.via)) e.hops 0, 0] ++ twoWords e.uid

/-- The directory's record of a frame; an entry that is not Reachable reads zero. -/
def State.directoryWords (s : State) (f : Nat) : List Nat :=
  match tfind s.topo.directory f with
  | some e => e.words
  | none => []

/-- The counters of a slot record in their order, with Lane Errors after them (7.1, R184). -/
def SlotCounters.words (c : SlotCounters) : List Nat :=
  [c.insertions, c.withdrawn, c.admissions, c.extractions, c.drainTimeouts, c.parks, c.slotResets, c.laneLosses,
   c.surpriseRemovals, c.powerFaults, c.powerTimeouts, c.creditExcess, c.dormantIgnored, c.requestsDiscarded, c.laneErrors]

/-- A slot's block (7.1); word 10 is the command field. Presence reads 1 for present, Handle for open, Power Good for
good, and the two outputs for on (log entry 13); the Expiry of a lock that has none reads 0 (log entry 44). -/
def State.slotWords (s : State) (i : Nat) : List Nat :=
  let r := s.slot i
  let l := s.lock i
  [r.state.code, flagWord r.presence, flagWord r.handleOpen, flagWord r.powerGood, flagWord r.powerEnable,
   flagWord r.removal, flagWord (!r.auto), r.powerTimeout, r.drainLimit, flagWord r.attention, 0, r.lane.code,
   r.advertised, r.available]
  ++ optWords 2 (r.timer.map (fun t => [t.kind.code, timeWord t.start]))
  ++ optWords 4 (r.drain.map (fun d =>
      [flagWord d.boundaryPassed, flagWord d.inboundClear, flagWord d.lockClear, flagWord d.ownClear]))
  ++ [r.lastCause.code]
  ++ optWords 3 (l.holder.map (fun h => [h.1, h.2, timeWord l.expiry]))
  ++ r.counters.words

/-- The triggers region (4.1). -/
def State.triggerWords (s : State) : List Nat :=
  ((List.range 8).flatMap (fun l =>
    let e := s.trigEntry l
    [flagWord e.enabled, e.sources.toNat, e.outputs.toNat, e.budget]))
  ++ (List.range 8).map s.originSeq
  ++ ((List.range 8).flatMap (fun l =>
    let x := s.seen l
    listWords 12 x.length (x.flatMap (fun e => [e.origin, e.seq, e.age]))))
  ++ listWords 64 s.trig.queue.length (s.trig.queue.flatMap (fun e => e.line :: twoWords e.fire ++ [e.origin]))
  ++ (let t := s.trig
      [t.edgesStamped, t.edgesIgnored, t.originated, t.received, t.bad, t.looped, t.nonTree, t.duplicate,
       t.passedThrough, t.queued, t.merged, t.fired, t.untimedFires, t.lateFires, t.overflows, t.discarded])

/-- The event summary and notice region (11.4). For Notice In Flight, whose parts 11.4 gives no places, word 33 holds its
present bit (bit 0) and Stale (bit 1), and word 34 its kind in byte 2 and its tag in byte 3 (DESIGN CHOICE, log entry
13). -/
def State.eventWords (s : State) : List Nat :=
  let m := s.mgmt
  ((List.range kindCount).map (fun k =>
    let r := s.event k
    flagWord r.pending + r.notice.code * 16 + r.count * 256))
  ++ [m.attentionSet.toNat, 0, 0, m.noticeEnable.toNat, m.noticeAddress]
  ++ (match m.inFlight with
      | some n => [1 + flagWord n.stale * 2, n.kind * 256 + n.tag]
      | none => [0, 0])
  ++ [m.nextTag, m.lastKind]

/-- The Packer View of a route entry (11.4). -/
def Packer.words (k : Packer) : List Nat :=
  let e := k.openEpoch.getD 0
  [bytes4 (1 + flagWord k.openEpoch.isSome * 2 + flagWord k.truncated * 4 + flagWord k.sourceSeen * 8) k.nextSeq
     k.held.length 0,
   e % 2 ^ 32, bytes4 (e / 2 ^ 32) 0 0 0 + k.gathered]

/-- A Route Table record (11.4). -/
def RouteEntry.words (e : RouteEntry) : List Nat :=
  [bytes4 (flagWord e.active)
     (flagWord e.fwdRoot + flagWord e.fwdAway * 2 + flagWord e.source.isSome * 4 + flagWord e.binding.isSome * 8)
     (e.source.getD 0) (e.binding.getD 0),
   e.sinks.toNat * 65536 + e.q,
   match e.tracker with
   | some (ee, es) => bytes4 1 es 0 0 + ee
   | none => 0]
  ++ padTo 3 (match e.packer with | some k => k.words | none => [])
  ++ [0, 0, e.inCount, e.forwarded, e.quotaDrops, e.gaps, e.duplicates, e.unrouted, e.looped, e.nonTree]

/-- The guard record (11.4). -/
def Guard.words (g : Guard) : List Nat := [g.low, g.high, flagWord g.complement + flagWord g.locked * 2]

/-- A record of the Route Table region. -/
def State.routeWords (s : State) (i : Nat) : List Nat :=
  if i < 1024 then (s.route i).words
  else if i < 1026 then
    let p := if i = 1024 then PortId.p0 else PortId.p1
    let x := s.router.port p
    [x.committed, rateLimit (s.port p).rate, flagWord x.overcommitted, x.unrouted]
  else if i = 1026 then (List.range 16).map (fun k => (s.slot k).strayBursts)
  else s.router.guard.words

/-- A section record (11.4); sequence n of the Received set is bit n mod 32 of its word n / 32. Of word +2, whose bytes
11.4 does not name, the Epoch's upper 7 bits take byte 0 and the LAST's length the low bytes (DESIGN CHOICE, log entry
13). The Status, the Qualifiers and the Delivered Length of a section that is not RELEASED read 0 (DESIGN CHOICE, log
entry 77). -/
def Section.words (x : Section) : List Nat :=
  let e := x.epoch.getD 0
  [bytes4 x.state.code
     (flagWord x.epoch.isSome + flagWord x.last.isSome * 2 + flagWord x.truncatedSeen * 4 + flagWord x.absentSeen * 8
       + flagWord x.cut * 16 + flagWord x.untimed * 32 + flagWord x.discontinuous * 64)
     x.status.code (x.last.getD (0, 0)).1,
   e % 2 ^ 32, bytes4 (e / 2 ^ 32) 0 0 0 + (x.last.getD (0, 0)).2, x.highWater, x.length]
  ++ (List.range 8).map (fun k => x.received.foldl (fun a q => if q.1 / 32 = k then a + 2 ^ (q.1 % 32) else a) 0)

/-- A record of the Bindings region (11.4). The places within a Delivery List entry's word are log entry 13. -/
def State.bindingWords (s : State) (i : Nat) : List Nat :=
  if i < 64 then
    let b := s.binding i
    [bytes4 (flagWord b.enabled) b.swap.code 0 0 + b.base, bytes4 b.blocks 0 0 0 + b.sinks.toNat,
     (match s.bindingTag i with | some t => 32768 + t | none => 0), 0]
    ++ b.sec0.words ++ b.sec1.words ++ b.sec2.words
    ++ [b.released, b.lost, b.late, b.early, b.duplicate, b.overrun, b.skipped, b.unopened, b.disabledDiscards]
  else if i < 80 then (s.slot (i - 64)).delivery.map (fun d => bytes4 d.binding d.sec 0 0 + d.offset)
  else
    let r := s.slot (i - 80)
    [r.segmentsSent, r.parcelsSent, r.immediateDrops]

/-- A window record (11.4). -/
def Window.words (w : Window) : List Nat :=
  [bytes4 (flagWord w.enabled + flagWord w.readOnly * 2 + flagWord w.retry * 4) w.frame w.target
     (w.swap.code + w.retryLimit * 16),
   w.base, Nat.log2 w.size]

/-- A record of the Windows region. -/
def State.windowWords (s : State) (i : Nat) : List Nat :=
  if i < 64 then (s.window i).words else s.trans.guard.words

/-- The fields of an OTT entry (11.4). The word of Deadline, a field that 8.3 gives only while the entry is
QUEUED or SENT, shows the end of the backoff in BACKOFF and the last deadline in ANSWERED (DESIGN CHOICE,
log entry 44). The 7 bits of the window show a refused request's window number above 127 modulo 128 (DESIGN
CHOICE, log entry 51). Of word 6, whose bytes 11.4 does not name, byte 0 says in bit 0 that the ASSIGN fields are
present and in bit 1 that the expected identifier is, and byte 1 is the branch (DESIGN CHOICE, log entry 13). -/
def OttEntry.words (e : OttEntry) : List Nat :=
  [bytes4 e.state.code e.id e.tag e.op.code,
   bytes4 e.dest e.target (flagWord e.retry + e.retries * 16) (viaCode e.via),
   e.address,
   e.length * 65536 + (match e.window with | some w => 128 + w % 128 | none => 0) * 256 + e.swap.code,
   timeWord e.deadline,
   match e.answer with
   | some a => 256 + a.status.code
   | none => 0]
  ++ (match e.ext with
      | some x => bytes4 (1 + flagWord x.expected.isSome * 2) x.branch 0 0 :: twoWords (x.expected.getD 0)
      | none => [0, 0, 0])

/-- 8.3: the Data of an OTT entry: the write data as it will be sent, or an answered read's data. -/
def OttEntry.shownData (e : OttEntry) : List Byte :=
  match e.answer with
  | some a => if e.op = .read ∨ e.op = .readLock then a.data else e.data
  | none => e.data

/-- The two 256-byte halves of an OTT entry (11.4). Every word of a free entry reads 0: its State as 11.4 codes it,
and the others, Port Used among them, by the model's choice (DESIGN CHOICE, log entry 50). -/
def State.ottWords (s : State) (i : Nat) : List Nat :=
  match s.ottEntry i with
  | some e => padTo 64 e.words ++ dataWords 64 e.shownData
  | none => []

/-- What follows the entries in the OTT view (11.4): counts, settings and counters. -/
def State.ottTail (s : State) : List Nat :=
  let t := s.trans
  dataWords 6 ((List.range 21).map (fun id => BitVec.ofNat 8 (s.heldBy id)))
  ++ [t.settings.timeout, t.settings.responseLimit, t.settings.lockHold]
  ++ [t.issued, t.refusedAtIssue, t.timeouts, t.retries, t.linkLost, t.lateCompletions, t.completionsDropped, t.unreachable]

/-- The two 256-byte halves of an inbound entry (8.6, 11.4). The second holds its Data, as in the request; the
data of its Answer has no place in 11.4 and is not shown, and a free entry reads as zeros, its Handle too (DESIGN CHOICE,
log entry 50). -/
def State.inboundWords (s : State) (h : Nat) : List Nat :=
  match s.inEntry h with
  | some e =>
    padTo 64 ([h, e.who.frame, e.who.id, e.who.tag, e.slot, e.op.code, e.address, e.length, viaCode (some e.source),
      timeWord e.deadline, e.state.code] ++ optWords 1 (e.answer.map (fun a => [a.status.code])))
    ++ dataWords 64 e.data
  | none => []

/-- A slot's lock record (8.7). The Expiry of a slot that is unlocked, or whose lock is Releasing, reads 0 (DESIGN
CHOICE, log entry 44). -/
def Lock.words (l : Lock) : List Nat :=
  optWords 2 (l.holder.map (fun h => [h.1, h.2])) ++ [timeWord l.expiry, flagWord l.releasing]
  ++ optWords 1 (l.unlockHandle.map (fun h => [h]))

/-- The locks view (R164). -/
def State.lockWords (s : State) : List Nat :=
  (List.range 16).flatMap (fun i => (s.lock i).words)
  ++ [s.trans.lockConflicts, s.trans.lockLost, s.trans.lockExpiries]

/-- One In Flight item (11.4). An item HELD shows the tag of the read that brought it (DESIGN CHOICE, log
entry 53). Of the second word, whose bytes 11.4 does not name, bytes 0 and 1 are the length, byte 2 the stage and byte 3
the tag (DESIGN CHOICE, log entry 13). -/
def Chunk.words (c : Chunk) : List Nat := [c.offset, c.length * 65536 + c.stage.code * 256 + c.tag]

/-- A channel's block (11.4); word 6 is the command field. The fields that share word 0, 2, 5, 7 or 10, whose bytes 11.4
does not name, take a byte each in their order from byte 0 (DESIGN CHOICE, log entry 13). -/
def Channel.words (r : Channel) : List Nat :=
  [bytes4 r.srcFrame r.srcTarget 0 0, r.srcAddr, bytes4 r.dstFrame r.dstTarget 0 0, r.dstAddr, r.length,
   bytes4 (if r.chunk = 64 then 0 else if r.chunk = 128 then 1 else 2) r.pacing (flagWord r.retry) 0, 0,
   (match r.fault with
    | some f => bytes4 r.state.code 1 (flagWord f.destination) f.status.code
    | none => bytes4 r.state.code 0 0 0),
   r.remaining, r.readOffset, bytes4 r.chunksThisEpoch r.nextTag r.inFlight.length 0]
  ++ padTo 4 (r.inFlight.flatMap Chunk.words)
  ++ [r.starts, r.chunksRead, r.chunksWritten, r.faults, r.discardedAnswers]

/-- The counters region: the Topology Unit's, then the Management Unit's (11.4). -/
def State.counterWords (s : State) : List Nat :=
  let t := s.topo
  let m := s.mgmt
  [t.alternateMarks, t.childMarks, t.overrangeMarks, t.rootwardChanges, t.announcesReceived, t.announcesRefused,
   t.numberClashes, t.assignsTaken, m.reads, m.writes, m.deniedWrites, m.badRequests, m.noticesSent, m.noticesFailed]

/-- The word of a region at an index. Words beyond the last field of a block read zero. The Mark Records, which
2.1 has software read, have no place in the regions of 11.4, and so none here (DESIGN CHOICE, log entry 46). -/
def State.word (s : State) (r : Region) (k : Nat) : Nat :=
  match r with
  | .identity => s.identityWords.getD k 0
  | .ports => (s.port (if k < 256 then .p0 else .p1)).words.getD (k % 256) 0
  | .timebase => s.rtu.words.getD k 0
  | .directory => (s.directoryWords (k / 4)).getD (k % 4) 0
  | .slots => (s.slotWords (k / 64)).getD (k % 64) 0
  | .triggers => s.triggerWords.getD k 0
  | .events => s.eventWords.getD k 0
  | .routes => (s.routeWords (k / 16)).getD (k % 16) 0
  | .bindings => (s.bindingWords (k / 64)).getD (k % 64) 0
  | .windows => (s.windowWords (k / 4)).getD (k % 4) 0
  | .ott => if k < 4096 then (s.ottWords (k / 128)).getD (k % 128) 0 else s.ottTail.getD (k - 4096) 0
  | .inbound =>
    if k < 2048 then (s.inboundWords (k / 128)).getD (k % 128) 0
    else [s.trans.busyAnswers, s.trans.noTargetAnswers, s.trans.targetTimeouts, s.trans.repliesDiscarded].getD (k - 2048) 0
  | .locks => s.lockWords.getD k 0
  | .channels => (s.channel (k / 32)).words.getD (k % 32) 0
  | .counters => s.counterWords.getD k 0

/-- R175: the bytes a READ of `n` words returns. -/
def State.readWords (s : State) (r : Region) (lo n : Nat) : List Byte :=
  (List.range n).flatMap (fun k => beBytes 4 (s.word r (lo + k)))

/-! ## What a WRITE reaches (R175, R176, R183) -/

/-- A writable field or group of controller space. -/
inductive Field where
  | manager
  | controllerCommand
  | rate (p : PortId)
  | portCommand (p : PortId)
  | rootTrim
  | load
  | timebase
  | slotSettings (i : Nat)
  | slotCommand (i : Nat)
  | trigger (line : Nat)
  | clearSet
  | removal
  | notice
  | route (tag : Nat)
  | routeGuard
  | binding (i : Nat)
  | window (i : Nat)
  | windowGuard
  | transSettings
  | channelSetup (c : Nat)
  | channelCommand (c : Nat)
  deriving DecidableEq, Repr

/-- The number of words of a field or group. -/
def Field.size : Field → Nat
  | .load => 2
  | .timebase => 7
  | .slotSettings _ => 4
  | .trigger _ => 4
  | .notice => 2
  | .route _ => 16
  | .routeGuard => 16
  | .binding _ => 64
  | .window _ => 4
  | .windowGuard => 4
  | .transSettings => 3
  | .channelSetup _ => 6
  | _ => 1

/-- R176: the field is a command field. -/
def Field.isCommand : Field → Bool
  | .controllerCommand => true
  | .portCommand _ => true
  | .slotCommand _ => true
  | .channelCommand _ => true
  | _ => false

/-- The writable fields of a region that words `lo` to `lo + n - 1` may reach, with their first words. -/
def fieldsIn (r : Region) (lo n : Nat) : List (Nat × Field) :=
  match r with
  | .identity => [(3, .manager), (4, .controllerCommand)]
  | .ports => [(5, .rate .p0), (6, .portCommand .p0), (261, .rate .p1), (262, .portCommand .p1)]
  | .timebase => [(7, .rootTrim), (16, .load), (45, .timebase)]
  | .slots => (List.range 16).flatMap (fun i => [(64 * i + 6, .slotSettings i), (64 * i + 10, .slotCommand i)])
  | .triggers => (List.range 8).map (fun l => (4 * l, .trigger l))
  | .events => [(29, .clearSet), (30, .removal), (31, .notice)]
  | .routes =>
    (List.range (n / 16)).filterMap (fun k =>
      let i := lo / 16 + k
      if i < 1024 then some (16 * i, .route i) else if i = 1027 then some (16 * i, .routeGuard) else none)
  | .bindings =>
    (List.range (n / 64)).filterMap (fun k =>
      let i := lo / 64 + k
      if i < 64 then some (64 * i, .binding i) else none)
  | .windows =>
    (List.range (n / 4)).filterMap (fun k =>
      let i := lo / 4 + k
      if i < 64 then some (4 * i, .window i) else if i = 64 then some (4 * i, .windowGuard) else none)
  | .ott => [(4102, .transSettings)]
  | .channels => (List.range 4).flatMap (fun c => [(32 * c, .channelSetup c), (32 * c + 6, .channelCommand c)])
  | _ => []

/-- Byte `k` of a word, the most significant first. -/
def byteOf (w k : Nat) : Nat := w / 256 ^ (3 - k) % 256

/-- Bit `k` of a number. -/
def bitOf (w k : Nat) : Bool := w / 2 ^ k % 2 == 1

/-- The route entry that words 0 and 1 of a written record name (11.4). -/
def routeOfWords (ws : List Nat) : RouteWrite :=
  let a := ws.getD 0 0
  let b := ws.getD 1 0
  { mode := byteOf a 0
    source := if bitOf (byteOf a 1) 2 then some (byteOf a 2) else none
    fwdRoot := bitOf (byteOf a 1) 0
    fwdAway := bitOf (byteOf a 1) 1
    sinks := BitVec.ofNat 16 (b / 65536)
    binding := if bitOf (byteOf a 1) 3 then some (byteOf a 3) else none
    q := b % 65536 }

/-- The binding that words 0 and 1 of a written record name (11.4). -/
def bindingOfWords (ws : List Nat) : BindingWrite :=
  let a := ws.getD 0 0
  let b := ws.getD 1 0
  { state := byteOf a 0, base := a % 65536, blocks := byteOf b 0, sinks := BitVec.ofNat 16 b, swap := byteOf a 1 }

/-- The window that a written record names (11.4); a size word outside 12 to 30 names no size. -/
def windowOfWords (ws : List Nat) : WindowWrite :=
  let a := ws.getD 0 0
  let n := ws.getD 2 0
  { enabled := bitOf (byteOf a 0) 0
    frame := byteOf a 1
    target := byteOf a 2
    base := ws.getD 1 0
    size := if n ≤ 30 then 2 ^ n else 0
    swap := byteOf a 3 % 4
    readOnly := bitOf (byteOf a 0) 1
    policy := if bitOf (byteOf a 0) 2 then 1 else 0
    retryLimit := byteOf a 3 / 16 % 8 }

/-- The guard that a written record names (11.4). -/
def guardOfWords (ws : List Nat) : GuardWrite :=
  { low := ws.getD 0 0, high := ws.getD 1 0, complement := bitOf (ws.getD 2 0) 0, locked := bitOf (ws.getD 2 0) 1 }

/-- The channel setup that a written group names (11.4), its bytes where `Channel.words` has them (DESIGN CHOICE, log entry
13). -/
def setupOfWords (ws : List Nat) : ChannelSetup :=
  let c := ws.getD 5 0
  { srcFrame := byteOf (ws.getD 0 0) 0, srcTarget := byteOf (ws.getD 0 0) 1, srcAddr := ws.getD 1 0
    dstFrame := byteOf (ws.getD 2 0) 0, dstTarget := byteOf (ws.getD 2 0) 1, dstAddr := ws.getD 3 0
    length := ws.getD 4 0
    chunk := if byteOf c 0 = 0 then 64 else if byteOf c 0 = 1 then 128 else if byteOf c 0 = 2 then 256 else 0
    pacing := byteOf c 1
    policy := byteOf c 2 }

/-- R176: the status of a controller command; its effect follows its completion (R40, R181). -/
def controllerCommand (code : Nat) (s : State) : Status × State :=
  match code with
  | 1 => if s.topo.root then (.badRequest, s) else (.ok, s)
  | 2 => (.ok, s)
  | _ => (.badRequest, s)

/-- R175: a field written with its words. The bytes of a written Manager are log entry 13. A true or
false setting that takes a whole word is its bit 0, the other bits being ignored (DESIGN CHOICE, log entry 71). -/
def writeField (f : Field) (ws : List Nat) (s : State) : Status × State :=
  let w := fun k => ws.getD k 0
  match f with
  | .manager => if byteOf (w 0) 0 % 2 = 1 then writeManager (byteOf (w 0) 1) (byteOf (w 0) 2) s else (.badRequest, s)
  | .controllerCommand => controllerCommand (w 0) s
  | .rate p => writeRate p (w 0) s
  | .portCommand p => portCommand p (w 0) s
  | .rootTrim => writeRootTrim (BitVec.ofNat 32 (w 0)).toInt s
  | .load => writeLoad (w 0 * 2 ^ 32 + w 1) s
  | .timebase => writeTimebase ⟨w 0, w 1, w 2, w 3, w 4, w 5, w 6⟩ s
  | .slotSettings i => writeSlotSettings i ⟨w 0, w 1, w 2, bitOf (w 3) 0⟩ s
  | .slotCommand i => slotCommand i (w 0) s
  | .trigger l => writeTriggerEntry l ⟨bitOf (w 0) 0, BitVec.ofNat 16 (w 1), BitVec.ofNat 16 (w 2), w 3⟩ s
  | .clearSet => writeClear (BitVec.ofNat 32 (w 0)) s
  | .removal => writeRemoval (BitVec.ofNat 16 (w 0)) s
  | .notice => writeNotice (BitVec.ofNat 32 (w 0)) (w 1) s
  | .route t => writeRoute t (routeOfWords ws) s
  | .routeGuard => writeRouteGuard (guardOfWords ws) s
  | .binding i => writeBinding i (bindingOfWords ws) s
  | .window i => writeWindow i (windowOfWords ws) s
  | .windowGuard => writeWindowGuard (guardOfWords ws) s
  | .transSettings => writeTransSettings ⟨w 0, w 1, w 2⟩ s
  | .channelSetup c => writeChannel c (setupOfWords ws) s
  | .channelCommand c => channelCommand c (w 0) s

/-- R175: fields written in order and stopped at the first refusal; `ws` are the written words, the
first of them word `lo`. The groups before the refused one keep what was written (DESIGN CHOICE, log
entry 54). -/
def writeFields (lo : Nat) (ws : List Nat) : List (Nat × Field) → State → Status × State
  | [], s => (.ok, s)
  | (k, f) :: rest, s =>
    match writeField f ((ws.drop (k - lo)).take f.size) s with
    | (.ok, s1) => writeFields lo ws rest s1
    | x => x

/-- R175, R183: a WRITE of words of a region. One that covers part of a group, or a command field
together with any other word, is refused and writes nothing. -/
def writeRegion (r : Region) (lo : Nat) (ws : List Nat) (s : State) : Status × State :=
  let n := ws.length
  let touched := (fieldsIn r lo n).filter (fun x => decide (lo < x.1 + x.2.size) && decide (x.1 < lo + n))
  if touched.any (fun x => decide (x.1 < lo) || decide (lo + n < x.1 + x.2.size)) then (.badRequest, s)
  else if touched.any (fun x => x.2.isCommand) && decide (1 < n) then (.badRequest, s)
  else writeFields lo ws touched s

/-- The words of written bytes. -/
def wordsOf (d : List Byte) : List Nat := dataWords (d.length / 4) d

/-! ## The access check (R175) -/

/-- What follows a command's completion (R40, R181). -/
inductive Post where
  | none | release | reset
  deriving DecidableEq, Repr

/-- An access served: status, read data, the state, and what follows the completion. -/
structure Served where
  status : Status
  data : List Byte
  state : State
  post : Post

/-- R40, R181: what follows the completion of a controller command. -/
def applyPost (p : Post) (s : State) : State :=
  match p with
  | .none => s
  | .release => releaseAct s
  | .reset => controllerResetAct s

/-- R40, R181: which effect a WRITE of words has after its completion. -/
def postOf (r : Region) (lo : Nat) (ws : List Nat) (st : Status) : Post :=
  if r = .identity ∧ lo = 4 ∧ st = .ok then
    match ws with
    | [1] => .release
    | [2] => .reset
    | _ => .none
  else .none

/-- R175: a requester is the Manager. -/
def State.isManager (s : State) (who : Requester) : Bool := s.mgmt.manager == some (who.frame, who.id)

/-- R175: an answer of the access check that Bad Requests counts. -/
def serveBad (s : State) : Served :=
  ⟨.badRequest, [], s.updMgmt (fun m => { m with badRequests := bump m.badRequests }), .none⟩

/-- R175: a WRITE denied. -/
def serveDenied (s : State) : Served :=
  ⟨.denied, [], s.updMgmt (fun m => { m with deniedWrites := bump m.deniedWrites }), .none⟩

/-- R175: a WRITE that reaches the Manager check, as its rule performs it; Writes rises by one. -/
def serveWrite (who : Requester) (op : State → Status × State) (post : Status → Post) (s : State) : Served :=
  if s.isManager who then
    let x := op (s.updMgmt (fun m => { m with writes := bump m.writes }))
    ⟨x.1, [], x.2, post x.1⟩
  else serveDenied s

/-- R175: a request to CONTROLLER other than an ASSIGN to NEXT. A WRITE whose data is not as long as its length is
answered BAD_REQUEST ahead of the Manager check, and counts in Bad Requests and not in Writes (DEDUCED, log entry
22). -/
def serveController (who : Requester) (op : Op) (address length : Nat) (data : List Byte) (s : State) : Served :=
  match regionAt address length with
  | none => serveBad s
  | some (r, lo) =>
    if address % 4 ≠ 0 ∨ length % 4 ≠ 0 then serveBad s
    else match op with
      | .read =>
        ⟨.ok, s.readWords r lo (length / 4), s.updMgmt (fun m => { m with reads := bump m.reads }), .none⟩
      | .write =>
        if data.length ≠ length then serveBad s
        else serveWrite who (writeRegion r lo (wordsOf data)) (postOf r lo (wordsOf data)) s
      | _ => serveBad s

/-- R150, R161: an access takes effect when its completion is accepted. None where it is not. A completion that R151
drops for want of a route counts as accepted, so a reset that it was to answer is performed at the drop (DESIGN CHOICE,
log entry 61). -/
def completeServed (direct : Bool) (who : Requester) (x : Served) : Option State :=
  (sendCompletion direct who x.status x.data x.state).map (applyPost x.post)

/-- R36, R175: a WRITE that reaches an UNNUMBERED controller has destination NEXT, and is DENIED. -/
def serveNumbered (x : Served) (s : State) : Served :=
  if s.topo.frameNumber.isSome then x else ⟨.denied, [], s, .none⟩

/-- A write of controller space that is a command of its own: the access check, the write and its
completion. Where the completion cannot be accepted yet, nothing is performed (R161). -/
def managerCommand (who : Requester) (op : State → Status × State) (post : Status → Post) (s : State) : State :=
  (completeServed false who (serveNumbered (serveWrite who op post s) s)).getD s

end Sys2Proof.Machine
end

