-- ==== Sys2Proof/Machine/Requests.lean ====
section
/-! DEFINITION. Machine/Requests.lean: the Transaction Unit (chapter 8): issue and its checks, the number
taken from an ASSIGN (R39), the target side and the locks, held parcels, answers and deadlines; and the
requests of channels (R168, R169) and of the notice engine (R179). -/

namespace Sys2Proof.Machine

/-- R148: an UNREACHABLE answered here adds one to Unreachable. -/
def countAnswer (st : Status) (s : State) : State :=
  if st = .unreachable then s.updTrans (fun t => { t with unreachable := bump t.unreachable }) else s

/-- R16: a request put in a port's request queue. -/
def pushRequest (p : PortId) (r : Request) (s : State) : State :=
  s.updPort p (fun x => { x with qRequest := x.qRequest ++ [r] })

/-! ## The target side (R157 to R162) -/

/-- What the lock rules of R162 make of a request. -/
inductive LockFate where
  | joins | busy | lost
  deriving DecidableEq, Repr

/-- R162: the table of the lock rules. -/
def Lock.judge (l : Lock) (who : Requester) (op : Op) : LockFate :=
  match l.holder with
  | none => if op = .writeUnlock then .lost else .joins
  | some h =>
    if h = (who.frame, who.id) then
      if l.releasing then
        if op = .writeUnlock then .lost else if op = .readLock then .busy else .joins
      else .joins
    else if op = .writeUnlock then .lost else .busy

/-- R162: the lock after a request joins the list. -/
def Lock.join (l : Lock) (who : Requester) (op : Op) (h expiry : Nat) : Lock :=
  if op = .readLock then { l with holder := some (who.frame, who.id), expiry := expiry }
  else if op = .writeUnlock then { l with releasing := true, expiry := 0, unlockHandle := some h }
  else l

/-- R157: a request joins the Inbound Request List under a free Handle. -/
def joinInbound (src : Via) (r : Request) (h : Nat) (s : State) : State :=
  let e : InEntry :=
    { who := r.who, slot := r.target, op := r.op, address := r.address, length := r.length, data := r.data
      source := src, deadline := s.localTime + s.trans.settings.responseLimit * Config.cyclesPerUs
      state := .waiting, answer := none, order := s.serial }
  let l := (s.lock r.target).join r.who r.op h (s.localTime + s.trans.settings.lockHold * Config.cyclesPerUs)
  ((s.setIn h e).setLock r.target l).nextSerial

/-- The number of a slot's entries in the Inbound Request List. -/
def State.inboundCount (s : State) (i : Nat) : Nat := (s.trans.inbound.filter (fun e => e.2.slot == i)).length

/-- R157: a request for a slot. None where its answer cannot be accepted yet. -/
def serveSlot (src : Via) (r : Request) (s : State) : Option State :=
  let refuse := fun (st : Status) (f : Trans → Trans) => sendCompletion (src == .here) r.who st [] (s.updTrans f)
  if r.op = .assign then refuse .badRequest id
  else if (s.slot r.target).state ≠ .admitted then refuse .noTarget (fun t => { t with noTargetAnswers := bump t.noTargetAnswers })
  else match tfree s.trans.inbound 16 with
    | none => refuse .busy (fun t => { t with busyAnswers := bump t.busyAnswers })
    | some h =>
      if 4 ≤ s.inboundCount r.target then refuse .busy (fun t => { t with busyAnswers := bump t.busyAnswers })
      else match (s.lock r.target).judge r.who r.op with
        | .busy => refuse .busy (fun t => { t with busyAnswers := bump t.busyAnswers, lockConflicts := bump t.lockConflicts })
        | .lost => refuse .lockLost (fun t => { t with lockLost := bump t.lockLost })
        | .joins => some (joinInbound src r h s)

/-- An operation that is one of the five (R142, R184). -/
def Op.defined : Op → Bool
  | .undefined _ => false
  | _ => true

/-- R157, R161, R175: a request served in this frame. One to CONTROLLER passes the access check, an undefined
operation there as one that the check refuses; another with an operation or target that the codings do
not name is answered BAD_REQUEST (log entry 14). -/
def targetSide (src : Via) (r : Request) (s : State) : Option State :=
  if r.target = controllerTarget then
    completeServed (src == .here) r.who (serveController r.who r.op r.address r.length r.data s)
  else if !Op.defined r.op || !validTarget r.target then sendCompletion (src == .here) r.who .badRequest [] s
  else serveSlot src r s

/-- R39: the controller takes an ASSIGN. None where its completion cannot be accepted yet. -/
def takeNumber (r : Request) (s : State) : Option State :=
  let f := beNat r.data
  let s1 := s.updTopo (fun t => { t with
    frameNumber := some f
    directory := tput t.directory f ⟨.here, 0, s.unitId⟩
    assignsTaken := bump t.assignsTaken })
  let s2 := s1.updMgmt (fun m => { m with manager := some (r.who.frame, r.who.id) })
  (sendCompletion false r.who .ok [] s2).map (fun s3 => sendAnnounce (helloUpPorts s3))

/-! ## Parcels from the cables (R149 to R151) -/

/-- R150: a REQUEST from a cable examined: the state once it is taken, or none while it cannot be. -/
def examineRequest (src : PortId) (r : Request) (s : State) : Option State :=
  match s.requestFate (some src) r with
  | .forward p x => if s.requestRoom p then some (pushRequest p x s) else none
  | .serve => targetSide (.port src) r s
  | .takeNumber => takeNumber r s
  | .answer st => sendCompletion false r.who st [] (countAnswer st s)

/-- R149, R151, R152: a COMPLETION from a cable examined. One forwarded has its budget lowered by one, also from a
budget above 31 (DESIGN CHOICE, log entry 60). -/
def examineCompletion (src : PortId) (c : Completion) (s : State) : Option State :=
  let dropped := some (s.updTrans (fun t => { t with completionsDropped := bump t.completionsDropped }))
  if s.topo.frameNumber = some c.who.frame then
    some (completionHere c.who.id c.who.tag (Status.received c.status) c.data s)
  else if c.hop = 0 then dropped
  else match s.routeTo c.who.frame with
    | some (.port p) =>
      if p = src then dropped
      else if s.isUp p ∧ (s.port p).qCompletion.length < 16 then
        some (s.updPort p (fun x => { x with qCompletion := x.qCompletion ++ [{ c with hop := c.hop - 1 }] }))
      else none
    | _ => dropped

/-- R13, R150: a REQUEST keeps its receive buffer until it is taken. -/
def holdRequest (p : PortId) (r : Request) (s : State) : State :=
  (s.updPort p (fun x => { x with heldRequests := x.heldRequests ++ [⟨s.serial, r⟩] })).nextSerial

/-- R13, R150: a COMPLETION keeps its receive buffer until it is taken. -/
def holdCompletion (p : PortId) (c : Completion) (s : State) : State :=
  (s.updPort p (fun x => { x with heldCompletions := x.heldCompletions ++ [⟨s.serial, c⟩] })).nextSerial

/-- R13, R14, R150: a REQUEST that passes its checks in UP. -/
def arriveRequest (p : PortId) (r : Request) (s : State) : State :=
  if 8 ≤ (s.port p).heldRequests.length then overflow p s
  else match examineRequest p r s with
    | some t => if s.overtakes t then holdRequest p r s else t.updPort p (fun x => x.freeBuffer .request)
    | none => holdRequest p r s

/-- R13, R14, R150, R152: a COMPLETION that passes its checks in UP. -/
def arriveCompletion (p : PortId) (c : Completion) (s : State) : State :=
  if 8 ≤ (s.port p).heldCompletions.length then overflow p s
  else match examineCompletion p c s with
    | some t => if s.overtakes t then holdCompletion p c s else t.updPort p (fun x => x.freeBuffer .completion)
    | none => holdCompletion p c s

/-! ## The OTT: routing (R148, R155) -/

/-- An OTT entry as its request is sent. -/
def OttEntry.request (e : OttEntry) (frame : Nat) : Request :=
  { who := ⟨frame, e.id, e.tag⟩, dest := e.dest, target := e.target, op := e.op, hop := 31, address := e.address
    length := e.length, ext := if e.dest = nextCode then some (e.ext.getD ⟨none, 0⟩) else none, data := e.data }

/-- R148, R150: an OTT entry routed from the start; behind others that wait for the port's queue, it is
QUEUED. -/
def routeEntry (i : Nat) (s : State) : State :=
  match s.ottEntry i with
  | none => s
  | some e =>
    let r := e.request s.frameCode
    match s.requestFate none r with
    | .forward p x =>
      if s.requestRoom p && !s.requestWaiting p then pushRequest p x (s.setOtt i { e with state := .sent, via := some (.port p) })
      else s.setOtt i { e with state := .queued, via := some (.port p) }
    | .serve =>
      let s1 := s.setOtt i { e with state := .sent, via := some .here }
      (targetSide .here r s1).getD s1
    | .takeNumber => answerEntry i .unreachable [] (countAnswer .unreachable s)
    | .answer st => answerEntry i st [] (countAnswer st s)

/-- R155: an entry that awaits routing is routed. -/
def rerouteEntry (s : State) (i : Nat) : State :=
  match s.ottEntry i with
  | some e => if e.state = .queued ∧ e.via = none then routeEntry i s else s
  | none => s

/-- R155: some entry awaits routing. -/
def State.anyAwaits (s : State) : Bool := s.trans.ott.any (fun e => e.2.state == .queued && e.2.via == none)

/-- R155: entries that await routing are routed, in table index order (DESIGN CHOICE, log entry 64), until none does. A pass is followed by
another only where it served a request here that took a link down again, and each such pass answers an
entry, so that 33 passes leave none. -/
def rerouteAll : Nat → State → State
  | 0, s => s
  | n + 1, s => if s.anyAwaits then rerouteAll n ((List.range 32).foldl rerouteEntry s) else s

/-- R131, R155: what every act ends with: entries that a link-down left without a route are routed, and
the Drain records follow their conditions. -/
def finish (s : State) : State := settleDrains (rerouteAll 33 s)

/-! ## Issue (R141 to R143) -/

/-- R142: the checks of form, none where they pass. -/
def formCheck (e : OttEntry) : Option Status :=
  if !(e.dest ≤ 31 || e.dest == nextCode) || !validTarget e.target then some .badRequest
  else if e.length < 1 ∨ 256 < e.length then some .badRequest
  else if !Op.defined e.op then some .badRequest
  else if (e.op = .readLock ∨ e.op = .writeUnlock)
      ∧ ((e.length ≠ 4 ∧ e.length ≠ 8) ∨ e.address % e.length ≠ 0 ∨ e.target = controllerTarget) then some .badRequest
  else none

/-- R142: an entry just taken is checked; `w` is the window check's refusal. -/
def State.issueCheck (s : State) (e : OttEntry) (w : Option Status) : Option Status :=
  if s.topo.frameNumber.isNone then some .unreachable
  else match w with
    | some st => some st
    | none => match formCheck e with
      | some st => some st
      | none => if e.dest = nextCode then nextCheck (e.request s.frameCode) s else none

/-- R141, R142: an entry is taken, checked and routed; `arb` holds what the arbiter had given, of which the
requester now has its own. -/
def takeEntry (arb : Trans) (k : Nat) (e : OttEntry) (w : Option Status) (s : State) : State :=
  let s1 := ((s.setOtt k { e with order := s.serial }).updTrans (fun t => { t with
    issued := bump t.issued
    lastTaken := arb.lastTaken
    granted := arb.granted.erase e.id })).nextSerial
  match s1.issueCheck e w with
  | some st => answerEntry k st [] (countAnswer st (s1.updTrans (fun t => { t with refusedAtIssue := bump t.refusedAtIssue })))
  | none => routeEntry k s1

/-- R141: the deadline of a request taken or issued again now. -/
def State.deadline (s : State) : Nat := s.localTime + s.trans.settings.timeout * Config.cyclesPerUs

/-- R143: the entry of a direct request. Its data is taken as received, as no check of R142 holds it against the
length or the operation (DESIGN CHOICE, log entry 51). -/
def State.directEntry (s : State) (id tag dest target : Nat) (op : Op) (address length : Nat) (data : List Byte)
    (ext : Option NextExt) (retry : Bool) : OttEntry :=
  { id := id, tag := tag, dest := dest, target := target, op := op, address := address, length := length, data := data
    ext := ext, window := none, swap := .none, retry := retry, retries := if retry then 3 else 0, deadline := s.deadline
    via := none, state := .queued, answer := none, order := 0 }

/-- R142: the window check of a windowed request. -/
def windowCheck (r : LaneRequest) (w : Window) : Option Status :=
  if 63 < r.dest ∨ !w.enabled ∨ w.size < r.address + r.length then some .badRequest
  else if w.readOnly ∧ (r.op = .write ∨ r.op = .writeUnlock ∨ r.op = .readLock) then some .writeProtected
  else none

/-- R143: the entry of a windowed request. -/
def windowedEntry (e : OttEntry) (r : LaneRequest) (w : Window) : OttEntry :=
  { e with
    dest := w.frame, target := w.target, address := w.base + r.address, window := some r.dest, swap := w.swap
    retry := w.retry, retries := w.retryLimit
    data := if Op.writes r.op then w.swap.apply r.data else r.data }

/-- R142, R143: the entry that a slot's request makes, with its window check. Where that check fails with
BAD_REQUEST the entry takes nothing from a window, and keeps the message's window number and offset as
Destination and Address (DESIGN CHOICE, log entry 51). A tag above 31 is taken as received (DESIGN CHOICE, log entry
69). -/
def State.laneEntry (s : State) (i : Nat) (r : LaneRequest) : OttEntry × Option Status :=
  let e := s.directEntry i r.tag r.dest r.target r.op r.address r.length r.data r.ext (r.retry && !r.windowed)
  if r.windowed then
    match windowCheck r (s.window r.dest) with
    | some .badRequest => ({ e with window := some r.dest }, some .badRequest)
    | st => (windowedEntry e r (s.window r.dest), st)
  else (e, none)

/-- R141: a request whose tag is in use is refused; its completion goes at once where the lane takes it. -/
def refuseHead (i : Nat) (s : State) : State :=
  let s1 := s.updSlot i (fun r => { r with
    waiting := match r.waiting with
      | w :: rest => { w with refused := true } :: rest
      | [] => [] })
  if (s1.oldestAnswer i).isNone then (commitCompletion i s1).getD s1 else s1

/-- R141: the request at the head of a slot's lane is taken or refused, or waits. Its tag is compared and kept as the whole
byte that it is (DESIGN CHOICE, log entry 69). -/
def takeHead (i : Nat) (s : State) : State :=
  let r := s.slot i
  match r.lane, r.waiting with
  | .up, w :: rest =>
    if w.refused || (s.findOtt i w.req.tag).isSome then refuseHead i s
    else match s.grant i with
      | some k =>
        let x := s.laneEntry i w.req
        takeEntry s.regrant.trans k x.1 x.2 (s.setSlot i { r with waiting := rest })
      | none => s
  | _, _ => s

/-- R126, R141: a request arrives on a slot's lane, or the one at its head is examined again. -/
def slotRequest (i : Nat) (arriving : Option LaneRequest) (s : State) : State :=
  match arriving with
  | some r => fromModule i (fun s => takeHead i (s.updSlot i (fun x => { x with waiting := x.waiting ++ [⟨r, false⟩] }))) s
  | none => takeHead i s

/-! ## Channels and notices as requesters (R168, R169, R172, R179) -/

/-- R172: the tag of a channel's next request. -/
def State.chooseTag (s : State) (c : Nat) : Nat :=
  (((List.range 32).map (fun d => ((s.channel c).nextTag + d) % 32)).find?
    (fun t => (s.findOtt (16 + c) t).isNone)).getD (s.channel c).nextTag

/-- R168: the OTT takes the read of a channel's chunk to start. Chunks This Epoch, 0 to 255, stays at 255 under
FREE pacing (DESIGN CHOICE, log entry 52). -/
def startRead (c : Nat) (s : State) : State :=
  let r := s.channel c
  if !s.chunkToStart c || (s.writeToStart c).isSome then s
  else match s.grant (16 + c) with
    | none => s
    | some k =>
      let tag := s.chooseTag c
      let len := min r.chunk (r.length - r.readOffset)
      let e := s.directEntry (16 + c) tag r.srcFrame r.srcTarget .read ((r.srcAddr + r.readOffset) % 2 ^ 32) len [] none r.retry
      takeEntry s.regrant.trans k e none (s.setChannel c { r with
        inFlight := r.inFlight ++ [⟨r.readOffset, len, .reading, tag, []⟩]
        readOffset := r.readOffset + len
        chunksThisEpoch := min (r.chunksThisEpoch + 1) 255
        nextTag := (tag + 1) % 32 })

/-- R169: the OTT takes the write of a channel's oldest HELD chunk. The item keeps its data while WRITING, as the table of
9.1 has it and R169 does not (DESIGN CHOICE, log entry 70). -/
def startWrite (c : Nat) (s : State) : State :=
  let r := s.channel c
  match s.writeToStart c, s.grant (16 + c) with
  | some x, some k =>
    let tag := s.chooseTag c
    let e := s.directEntry (16 + c) tag r.dstFrame r.dstTarget .write ((r.dstAddr + x.offset) % 2 ^ 32) x.length x.data none r.retry
    takeEntry s.regrant.trans k e none (s.setChannel c { r with
      inFlight := { x with stage := .writing, tag := tag } :: r.inFlight.drop 1
      nextTag := (tag + 1) % 32 })
  | _, _ => s

/-- R179, 11.4: the 16 data bytes of a notice. -/
def State.noticeData (s : State) (k : Nat) : List Byte :=
  beBytes 1 s.frameCode ++ beBytes 1 k ++ beBytes 1 (s.event k).count ++ beBytes 5 0 ++ beBytes 8 s.rtu.ticks

/-- R179: the OTT takes a notice. -/
def issueNotice (s : State) : State :=
  match s.noticeToSend, s.grant 20 with
  | some (kind, f, i), some k =>
    let e := s.directEntry 20 s.mgmt.nextTag f i .write s.mgmt.noticeAddress 16 (s.noticeData kind) none false
    takeEntry s.regrant.trans k e none (s.updMgmt (fun m => { m with
      inFlight := some ⟨kind, m.nextTag, false⟩, lastKind := kind, nextTag := (m.nextTag + 1) % 32 }))
  | _, _ => s

/-! ## Room in a port's transaction queues (R150) -/

/-- R14, R150: a held REQUEST leaves its buffer, which frees. -/
def releaseRequest (x : HeldReq) (s : State) : State :=
  s.updPort x.1 (fun r =>
    if r.heldRequests.contains x.2 then
      { r with heldRequests := r.heldRequests.filter (fun h => h != x.2) }.freeBuffer .request
    else r)

/-- R150: a held REQUEST examined again; none while it cannot be taken. -/
def retryRequest (x : HeldReq) (s : State) : Option State := (examineRequest x.1 x.2.req s).map (releaseRequest x)

/-- R146, R150: a port's request queue takes a QUEUED entry. The requester frame is this frame's number as
it then stands: an entry that outlives the number's release goes out with UNNUMBERED (DESIGN CHOICE, log
entry 39). -/
def sendQueued (p : PortId) (k : Nat) (e : OttEntry) (s : State) : State :=
  pushRequest p (e.request s.frameCode) (s.setOtt k { e with state := .sent })

/-- R150: a port's request queue has room, and takes from the held parcels and this frame's entries
alternately. -/
def takeRequestRoom (p : PortId) (s : State) : State :=
  let mark := fun (b : Bool) (s : State) => s.updPort p (fun r => { r with reqTookHeld := b })
  let held := fun (x : HeldReq) => ((retryRequest x s).map (mark true)).getD s
  if !s.requestRoom p then s
  else match s.oldestHeldOut p, s.oldestQueued p with
    | some x, some (k, e) => if (s.port p).reqTookHeld then mark false (sendQueued p k e s) else held x
    | some x, none => held x
    | none, some (k, e) => mark false (sendQueued p k e s)
    | none, none => s

/-- R14, R150: a held COMPLETION leaves its buffer, which frees. -/
def releaseCompletion (q : PortId) (h : HeldCompletion) (s : State) : State :=
  s.updPort q (fun r =>
    if r.heldCompletions.contains h then
      { r with heldCompletions := r.heldCompletions.filter (fun x => x != h) }.freeBuffer .completion
    else r)

/-- R150: a held parcel examined again; none while it cannot be taken. -/
def retryHeld (x : HeldAny) (s : State) : Option State :=
  match x with
  | .req r => retryRequest r s
  | .comp q h => (examineCompletion q h.comp s).map (releaseCompletion q h)

/-- R150: what a port's completion queue last took is held in `compTookHeld`; from `s` to `t` something was
taken, from a held parcel or not, and where it took no room of this queue the alternation stands. -/
def markTaken (p : PortId) (held : Bool) (s t : State) : State :=
  if (s.port p).qCompletion.length < (t.port p).qCompletion.length then t.updPort p (fun r => { r with compTookHeld := held })
  else t

/-- R150: a port's completion queue has room, and takes from the held parcels and the Inbound Request
List's answers alternately. The held parcel is the oldest that can be taken: one that cannot holds back
no other. -/
def takeCompletionRoom (p : PortId) (s : State) : State :=
  let held := (((s.heldFor p).insertionSort (fun a b => a.order ≤ b.order)).findSome? (fun x => retryHeld x s)).map (markTaken p true s)
  let own := (s.oldestInboundAnswer p).bind (fun x => (takeInbound x.1 s).map (markTaken p false s))
  ((if (s.port p).compTookHeld then own <|> held else held <|> own)).getD s

/-! ## Deadlines (R153, R159, R163) and replies (R158) -/

/-- R153: an entry's deadline expires in QUEUED or SENT. A row that an act of the same cycle has overtaken
finds an entry taken since, whose deadline is not reached, and does nothing (DESIGN CHOICE, log entry 2). -/
def entryExpires (i : Nat) (s : State) : State :=
  match s.ottEntry i with
  | none => s
  | some e =>
    if (e.state = .queued ∨ e.state = .sent) ∧ s.reached e.deadline then
      if e.retry ∧ 0 < e.retries then enterBackoff i e s
      else answerEntry i .timeout [] (s.updTrans (fun t => { t with timeouts := bump t.timeouts }))
    else s

/-- R153: an entry's backoff ends, once its end is reached (log entry 2), and it is issued again. -/
def backoffOver (i : Nat) (s : State) : State :=
  match s.ottEntry i with
  | none => s
  | some e =>
    if e.state = .backoff ∧ s.reached e.deadline then
      routeEntry i (s.setOtt i { e with state := .queued, via := none, deadline := s.deadline })
    else s

/-- R159: an inbound entry's Response Deadline is reached; before that the row does nothing (log entry 2). -/
def responseExpires (h : Nat) (s : State) : State :=
  match s.inEntry h with
  | none => s
  | some e =>
    if e.state = .answering ∨ !s.reached e.deadline then s
    else answerInbound h .targetTimeout [] (s.updTrans (fun t => { t with targetTimeouts := bump t.targetTimeouts }))

/-- R158, R184: a reply is no answer to its entry as it stands, and is taken as BAD_REQUEST with no data: one of an
undefined status, a write's with data or a status but OK and BUSY, or a read's with data of another length. -/
def replyRefused (e : InEntry) (code : Nat) (data : List Byte) : Bool :=
  match Status.ofCode code with
  | none => true
  | some st => if Op.writes e.op then data != [] || !(st == .ok || st == .busy) else data.length != e.length

/-- R158, R184: the answer that a reply gives its entry. -/
def replyAnswer (e : InEntry) (code : Nat) (data : List Byte) : Answer :=
  if replyRefused e code data then ⟨.badRequest, []⟩ else ⟨Status.received code, data⟩

/-- R158: a reply from a module. -/
def replyArrives (slot h code : Nat) (data : List Byte) (s : State) : State :=
  let discarded := s.updTrans (fun t => { t with repliesDiscarded := bump t.repliesDiscarded })
  match s.inEntry h with
  | none => discarded
  | some e =>
    if e.state = .atModule ∧ e.slot = slot then answerInbound h (replyAnswer e code data).status (replyAnswer e code data).data s
    else discarded

/-- R162, R163: a slot's lock expires where its Expiry is reached and it is not Releasing. A lock that the holder's
READ_LOCK, taken first, has renewed keeps its holder. -/
def lockExpires (i : Nat) (s : State) : State :=
  let l := s.lock i
  if l.holder.isSome ∧ !l.releasing ∧ s.reached l.expiry then
    raise .lockExpired ((releaseLock i s).updTrans (fun t => { t with lockExpiries := bump t.lockExpiries }))
  else s

end Sys2Proof.Machine
end

