-- ==== Sys2Proof/Machine/Boundary.lean ====
section
/-! DEFINITION. Machine/Boundary.lean: the boundary event (R43) and every unit's reaction to it. -/

namespace Sys2Proof.Machine

/-! ## The ports (R10, R11, R19, R21, R46) -/

/-- R10: an echo between its T1 and its T4 spans a step. -/
def Echo.span (e : Echo) : Echo := if e.t1.isSome ∧ e.reply.isNone then { e with spanned := true } else e

/-- R46: a forwarded mark that waits in a timing queue spans a step. -/
def TimingItem.span : TimingItem → TimingItem
  | .fwdMark a st m d _ => .fwdMark a st m d true
  | i => i

/-- R21: Retrain History without the ages that have reached 1,024. -/
def dropOld (h : List Nat) : List Nat := h.filter (fun a => decide (a < 1024))

/-- R11: Burst Count counts boundary events in MEASURE and UP while no burst runs. -/
def Port.countsBoundary (r : Port) : Bool := (r.state == .measure || r.state == .up) && r.burst.isNone

/-- R10, R11, R19, R21, R46: a port at a boundary event; `discontinuous` is STEPPED or LOADED. -/
def Port.boundary (discontinuous : Bool) (r : Port) : Port :=
  { r with
    badThisEpoch := 0
    burstCount := if r.countsBoundary then bump r.burstCount else r.burstCount
    retrainHistory := dropOld (r.retrainHistory.map (· + 1))
    burst := if discontinuous then r.burst.map (fun b => { b with echoes := b.echoes.map Echo.span }) else r.burst
    qTiming := if discontinuous then r.qTiming.map TimingItem.span else r.qTiming }

/-- R45: the root offers one MARK to each UP port's timing queue. -/
def rootMarks (s : State) : State :=
  if s.topo.root then
    PortId.all.foldl (fun s p => if s.isUp p then s.updPort p (fun r => r.offerTiming .rootMark) else s) s
  else s

/-! ## The trigger unit and the channels -/

/-- R69, R74: the Trigger Unit at a boundary event. -/
def triggerBoundary (discontinuous : Bool) (s : State) : State :=
  let s1 := (ageSeen s).updTrig (fun t => { t with seenAged := true })
  if discontinuous then fireSteppedOver s1 else s1

/-- R168: every channel's Chunks This Epoch at a boundary event. -/
def channelsBoundary (s : State) : State :=
  { s with channels := tmap {} (fun r => { r with chunksThisEpoch := 0 }) s.channels }

/-! ## The boundary event -/

/-- R43, R102: Epoch Number has wrapped from 2^39 - 1 to 0. -/
def epochWrapped (before after : Nat) : Bool := before == 2 ^ 39 - 1 && after == 0

/-- R43: the boundary event with its flags, as each unit reacts to it, in a fixed order (log entry 16);
`restart` also covers the wrapping boundary (R102). -/
def boundaryEvent (discontinuous restart : Bool) (s : State) : State :=
  let s1 := { s with port0 := s.port0.boundary discontinuous, port1 := s.port1.boundary discontinuous }
  let s2 := s1.applyRtu s1.rtu.boundaryCounts
  let s3 := topologyBoundary s2
  let s4 := triggerBoundary discontinuous s3
  let s5 := deliveryBoundary restart (reopenPackers s4)
  let s6 := channelsBoundary ((List.range 16).foldl passBoundary s5)
  scheduleBurst .p1 (scheduleBurst .p0 (rootMarks s6))

/-- R43: the boundary instant and the boundary event. The packers close their epochs first, while Epoch Number
is still that of the epoch that ends: R103 places their LAST parcels in either order (log entry 16). -/
def epochBoundary (s : State) : State :=
  let s0 := closePackers s
  let x := s0.rtu.boundaryInstant
  let s1 := s0.applyRtu x.1
  let discontinuous := x.2.1 || x.2.2
  boundaryEvent discontinuous (discontinuous || epochWrapped s.rtu.epoch s1.rtu.epoch) s1

end Sys2Proof.Machine
end

