-- ==== Sys2Proof/Machine/Arrivals.lean ====
section
/-! DEFINITION. Machine/Arrivals.lean: parcels and lane messages as they arrive: each kind of parcel by
the port's state (R5 to R9, R12, R13), and arrivals given as raw bytes (R12, R183, R184). -/

namespace Sys2Proof.Machine

/-- R13, R84, R96: a STREAM parcel, whose buffer frees as the router takes it. -/
def receiveStream (p : PortId) (x : StreamParcel) (s : State) : State :=
  byState p .stream (.stream x) (fun s => (takeStream (some p) x s).updPort p (fun r => r.freeBuffer .stream)) s

/-- R26: a MARK. -/
def receiveMark (p : PortId) (m : Mark) (s : State) : State := byState p .timing (.mark m) (acceptMark p m) s

/-- R10: an ECHO_REPLY, accepted in MEASURE and UP. -/
def receiveEchoReply (p : PortId) (n t2 t3 : Nat) (s : State) : State :=
  if (s.port p).state = .measure then acceptEchoReply p n t2 t3 s
  else byState p .timing (.echoReply n t2 t3) (acceptEchoReply p n t2 t3) s

/-- R69: a TRIGGER. -/
def receiveTrigger (p : PortId) (t : Trigger) (s : State) : State := byState p .timing (.trigger t) (acceptTrigger p t) s

/-- R35: an ANNOUNCE. -/
def receiveAnnounce (p : PortId) (a : Announce) (s : State) : State := byState p .link (.announce a) (acceptAnnounce p a) s

/-- R15: a CREDIT, accepted in MEASURE and UP. -/
def receiveCredit (p : PortId) (a b c : Nat) (s : State) : State :=
  if (s.port p).state = .measure then acceptCredit p a b c s
  else byState p .link (.credit a b c) (acceptCredit p a b c) s

/-- R13, R150: a REQUEST. -/
def receiveRequest (p : PortId) (r : Request) (s : State) : State := byState p .request (.request r) (arriveRequest p r) s

/-- R13, R150: a COMPLETION. -/
def receiveCompletion (p : PortId) (c : Completion) (s : State) : State :=
  byState p .completion (.completion c) (arriveCompletion p c) s

/-- A parcel that has passed its checks, by its kind. -/
def receiveParcel (p : PortId) (x : Parcel) (s : State) : State :=
  match x with
  | .stream x => receiveStream p x s
  | .mark m => receiveMark p m s
  | .echo n => acceptEcho p n s
  | .echoReply n t2 t3 => receiveEchoReply p n t2 t3 s
  | .trigger t => receiveTrigger p t s
  | .hello h => acceptHello p h s
  | .announce a => receiveAnnounce p a s
  | .credit a b c => receiveCredit p a b c s
  | .request r => receiveRequest p r s
  | .completion c => receiveCompletion p c s

/-- R12: the states in which a port checks what arrives. -/
def Port.checks (r : Port) : Bool := r.state.linked || r.inLoop

/-- R12, R23: a parcel arrives as its bytes, and is checked, or sent back unchecked by a FAR-served port. -/
def receiveBytes (p : PortId) (bytes : List Byte) (s : State) : State :=
  if (s.port p).checks then
    match parcelFault bytes with
    | some f => badParcel p f (classNamed bytes) s
    | none =>
      match Parcel.decode (bodyOf bytes) with
      | some x => receiveParcel p x s
      | none => s
  else sendBack p bytes s

/-- R22: the parcel that a port in NEAR sent first has gone round its loop. A return whose bytes are not that parcel's
leaves it on the loop, so that it comes back whole too (DESIGN CHOICE, log entry 66). -/
def leaveLoop (p : PortId) (bytes : List Byte) (s : State) : State :=
  s.updPort p (fun r =>
    match r.looped with
    | x :: rest => if x.encode = bytes then { r with looped := rest } else r
    | [] => r)

/-- R22: a parcel that returns to a port in LOOPBACK NEAR or FAR. -/
def loopbackReturn (p : PortId) (bytes : List Byte) (s : State) : State :=
  if (s.port p).inLoop then receiveBytes p bytes (leaveLoop p bytes s) else s

/-- R126, R184: a lane message arrives from a module as its bytes. -/
def receiveLaneBytes (i : Nat) (bytes : List Byte) (s : State) : State :=
  fromModule i (fun s =>
    match ModuleMsg.decode bytes with
    | none => laneError i s
    | some (.burst tag data) => burstArrives i tag data s
    | some (.request r) => slotRequest i (some r) s
    | some (.reply h st data) => replyArrives i h st data s
    | some (.credit n) => creditsReturned i n s) s

end Sys2Proof.Machine
end

