-- ==== Sys2Proof/Machine/PortCommands.lean ====
section
/-! DEFINITION. Machine/PortCommands.lean: the commands of the cable ports (chapter 1) and of the frame
numbers (chapter 2): resets, the inputs and timers of a port, arriving parcels, and port commands. -/

namespace Sys2Proof.Machine

/-- What a command answers. -/
abbrev Result := Host.Outcome State Fault Refusal

/-- R175: a write of controller space that is a command of its own, with nothing after its completion. -/
def managed (who : Requester) (op : State → Status × State) (s : State) : State :=
  managerCommand who op (fun _ => .none) s

/-! ## Resets and frame numbers -/

/-- POWER_ON_RESET (R182). -/
def execPowerOnReset (root : Bool) (mgrSlot : Fin 16) (s : State) : Result := .next (powerOn root mgrSlot.val s)

/-- CONTROLLER_RESET (R176, R181). A drain that the reset completes raises SLOT_QUIESCED after the Event Summary is cleared
and WAS_RESET raised, so that it stays pending (DESIGN CHOICE, log entry 67). -/
def execControllerReset (who : Requester) (s : State) : Result :=
  .next (finish (managerCommand who (controllerCommand 2) (fun st => if st = .ok then .reset else .none) s))

/-- RELEASE_NUMBER (R40, R176). -/
def execReleaseNumber (who : Requester) (s : State) : Result :=
  .next (finish (managerCommand who (controllerCommand 1) (fun st => if st = .ok then .release else .none) s))

/-- The ASSIGN to NEXT that arrives on a port (R36, R39, 11.2). -/
def assignRequest (who : Requester) (hop : Nat) (ext : NextExt) (data : List Byte) : Request :=
  { who := who, dest := nextCode, target := controllerTarget, op := .assign, hop := hop, address := 0
    length := data.length, ext := some ext, data := data }

/-- ASSIGN (R36 to R39). -/
def execAssign (port : PortId) (who : Requester) (hop : Nat) (ext : NextExt) (data : List Byte) (s : State) : Result :=
  .next (finish (receiveRequest port (assignRequest who hop ext data) s))

/-! ## Inputs and timers of a port -/

/-- R2, R22: the cable sense input reports a cable. -/
def senseShown (p : PortId) (s : State) : State :=
  let s1 := s.updPort p (fun r => { r with cableSense := true })
  if (s.port p).state = .absent then enterTraining p s1 else s1

/-- CABLE_SENSE_PRESENT (R2). -/
def execCableSensePresent (port : PortId) (s : State) : Result := .next (senseShown port s)

/-- R2, R23: cable sense is lost. In NEAR, and in the silence after OFF in FAR, the state stands. -/
def senseGone (p : PortId) (s : State) : State :=
  let r := s.port p
  let stays := s.updPort p (fun r => { r with cableSense := false })
  match r.state with
  | .absent => stays
  | .loopback => if r.loopForm = .far ∨ r.loopForm = .farServed then enterAbsent p s else stays
  | _ => enterAbsent p s

/-- CABLE_SENSE_LOST (R2, R3, R33). -/
def execCableSenseLost (port : PortId) (s : State) : Result := .next (finish (senseGone port s))

/-- R4, R5: the receiver gains lock at the training rate. -/
def lockGained (p : PortId) (s : State) : State :=
  let r := s.port p
  if r.state = .training then
    sendHello (s.setPort p { r with
      state := .pairing, rate := r.trainRate
      helloAt := s.localTime + Config.cyclesPerMs, pairingEnd := s.localTime + 10 * Config.cyclesPerMs }) p
  else s

/-- SYMBOL_LOCK (R4, R5). -/
def execSymbolLock (port : PortId) (s : State) : Result := .next (lockGained port s)

/-- R4: a port training at FAST finds its peer training at BASE. -/
def fallToBase (r : Port) : Port :=
  if r.state = .training ∧ r.trainRate = .fast then { r with peerFast := false, trainRate := .base } else r

/-- PEER_TRAINING_AT_BASE (R4). -/
def execPeerTrainingAtBase (port : PortId) (s : State) : Result := .next (s.updPort port fallToBase)

/-- SYMBOL_LOCK_LOST (R19, R21, R23). -/
def execSymbolLockLost (port : PortId) (s : State) : Result := .next (finish (symbolLockLoss port s))

/-- R5, R7: the 1 ms HELLO timer of PAIRING and MEASURE. -/
def helloTick (p : PortId) (s : State) : State :=
  let r := s.port p
  if r.state = .pairing ∨ r.state = .measure then
    sendHello (s.setPort p { r with helloAt := s.localTime + Config.cyclesPerMs }) p
  else s

/-- HELLO_TIMER (R5, R7). -/
def execHelloTimer (port : PortId) (s : State) : Result := .next (helloTick port s)

/-- R5: 10 ms pass in PAIRING without an accepted HELLO. -/
def pairingLapses (p : PortId) (s : State) : State := if (s.port p).state = .pairing then enterTraining p s else s

/-- PAIRING_TIMEOUT (R5, R6). -/
def execPairingTimeout (port : PortId) (s : State) : Result := .next (pairingLapses port s)

/-! ## Arriving parcels -/

/-- HELLO_RECEIVED (R5 to R7, R20, R23, R30). -/
def execHelloReceived (port : PortId) (h : Hello) (s : State) : Result := .next (finish (acceptHello port h s))

/-- ECHO_RECEIVED (R9). -/
def execEchoReceived (port : PortId) (number : Nat) (s : State) : Result := .next (acceptEcho port number s)

/-- R10: the next echo of a burst of which fewer than eight have been offered. -/
def echoTick (p : PortId) (s : State) : State :=
  match (s.port p).burst with
  | some b => if b.echoes.length < 8 then offerEcho p s else s
  | none => s

/-- ECHO_SPACING (R10). -/
def execEchoSpacing (port : PortId) (s : State) : Result := .next (echoTick port s)

/-- ECHO_REPLY_RECEIVED (R10). -/
def execEchoReplyReceived (port : PortId) (number t2 t3 : Nat) (s : State) : Result :=
  .next (receiveEchoReply port number t2 t3 s)

/-- LOOPBACK_PARCEL_RETURNED (R12, R22). -/
def execLoopbackParcelReturned (port : PortId) (bytes : List Byte) (s : State) : Result :=
  .next (loopbackReturn port bytes s)

/-- CREDIT_RECEIVED (R15). -/
def execCreditReceived (port : PortId) (stream request completion : Nat) (s : State) : Result :=
  .next (receiveCredit port stream request completion s)

/-- BAD_PARCEL_ARRIVAL (R12 to R14, R19). -/
def execBadParcelArrival (port : PortId) (bytes : List Byte) (s : State) : Result :=
  .next (finish (receiveBytes port bytes s))

/-! ## Bursts -/

/-- BURST_END (R8, R10, R49). -/
def execBurstEnd (port : PortId) (s : State) : Result := .next (endBurst port s)

/-- BURST_SCHEDULE (R11). -/
def execBurstSchedule (port : PortId) (s : State) : Result := .next (scheduleBurst port s)

/-! ## Port commands -/

/-- START_BURST (R11, R22, R176). -/
def execStartBurst (who : Requester) (port : PortId) (s : State) : Result := .next (managed who (portCommand port 2) s)

/-- RETRAIN (R19, R176). -/
def execRetrain (who : Requester) (port : PortId) (s : State) : Result :=
  .next (finish (managed who (portCommand port 1) s))

/-- LOOPBACK_NEAR (R22, R176). -/
def execLoopbackNear (who : Requester) (port : PortId) (s : State) : Result :=
  .next (finish (managed who (portCommand port 3) s))

/-- LOOPBACK_FAR (R23, R176). -/
def execLoopbackFar (who : Requester) (port : PortId) (s : State) : Result := .next (managed who (portCommand port 4) s)

/-- LOOPBACK_OFF (R22, R23, R176). -/
def execLoopbackOff (who : Requester) (port : PortId) (s : State) : Result := .next (managed who (portCommand port 5) s)

/-- R23: the 1 ms of silence after OFF in LOOPBACK FAR has passed. -/
def silenceOver (p : PortId) (s : State) : State :=
  let r := s.port p
  if r.state = .loopback ∧ r.silenceEnd.isSome then leaveLoopback p s else s

/-- LOOPBACK_SILENCE_END (R23). -/
def execLoopbackSilenceEnd (port : PortId) (s : State) : Result := .next (silenceOver port s)

/-- RATE_REQUEST_WRITE (R20). -/
def execRateRequestWrite (who : Requester) (port : PortId) (rate : Nat) (s : State) : Result :=
  .next (managed who (writeRate port rate) s)

/-- PARCEL_TRANSMIT (R14, R15, R17, R18, R20, R23, R45, R46). -/
def execParcelTransmit (port : PortId) (s : State) : Result := .next (finish (transmit port s))

/-- RETRAIN_HISTORY_AGE_OUT (R21). -/
def execRetrainHistoryAgeOut (port : PortId) (s : State) : Result :=
  .next (s.updPort port (fun r => { r with retrainHistory := dropOld r.retrainHistory }))

end Sys2Proof.Machine
end

