-- ==== Sys2Proof/Machine/TimeCommands.lean ====
section
/-! DEFINITION. Machine/TimeCommands.lean: the commands of rack time and the rack tree (chapters 2 and
3) and of the trigger lines (chapter 4). -/

namespace Sys2Proof.Machine

/-! ## The boundary and what a boundary brings -/

/-- EPOCH_BOUNDARY (R43). -/
def execEpochBoundary (s : State) : Result := .next (finish (epochBoundary s))

/-- R69: the ageing of the Seen Lists, unless the boundary event before this command has performed it. -/
def ageOutSeen (s : State) : State := if s.trig.seenAged then s.updTrig (fun t => { t with seenAged := false }) else ageSeen s

/-- SEEN_LIST_AGE_OUT (R69). -/
def execSeenListAgeOut (s : State) : Result := .next (ageOutSeen s)

/-- ROOTWARD_STALE (R29, R31). -/
def execRootwardStale (s : State) : Result := .next (dropStaleRootward s)

/-- R56: Mark Gap has reached 3. -/
def loseMarks (r : Rtu) : RtuStep :=
  if (r.state = .acquire ∨ r.state = .track) ∧ 3 ≤ r.markGap then r.referenceLost else (r, [])

/-- MARK_GAP_LOSS (R56, R57). -/
def execMarkGapLoss (s : State) : Result := .next (s.applyRtu (loseMarks s.rtu))

/-- HOLDOVER_LIMIT (R57). -/
def execHoldoverLimit (s : State) : Result := .next (s.applyRtu s.rtu.holdoverOver)

/-- SLEW_END (R42, R51): the Slew becomes absent, and the Correction is Trim again. -/
def execSlewEnd (s : State) : Result := .next { s with rtu := { s.rtu with slew := none } }

/-! ## Marks and announces -/

/-- MARK_RECEIVED (R26, R46, R47, R50 to R55). -/
def execMarkReceived (port : PortId) (m : Mark) (s : State) : Result := .next (receiveMark port m s)

/-- ANNOUNCE_RECEIVED (R35). -/
def execAnnounceReceived (port : PortId) (a : Announce) (s : State) : Result := .next (receiveAnnounce port a s)

/-! ## Writes of the timebase -/

/-- ROOT_TRIM_WRITE (R58). -/
def execRootTrimWrite (who : Requester) (value : Int) (s : State) : Result := .next (managed who (writeRootTrim value) s)

/-- RACK_TIME_LOAD (R59). -/
def execRackTimeLoad (who : Requester) (value : Nat) (s : State) : Result := .next (managed who (writeLoad value) s)

/-- TIMEBASE_SETTINGS_WRITE (R61). -/
def execTimebaseSettingsWrite (who : Requester) (w : TimebaseSettings) (s : State) : Result :=
  .next (managed who (writeTimebase w) s)

/-! ## Triggers -/

/-- TRIGGER_MAP_WRITE (R64). -/
def execTriggerMapWrite (who : Requester) (line : Nat) (entry : TriggerEntry) (s : State) : Result :=
  .next (managed who (writeTriggerEntry line entry) s)

/-- TRIGGER_EDGE (R66 to R68, R126). -/
def execTriggerEdge (slot : Fin 16) (line : Fin 8) (s : State) : Result := .next (edgeFromSlot slot.val line.val s)

/-- TRIGGER_RECEIVED (R69 to R72). -/
def execTriggerReceived (port : PortId) (t : Trigger) (s : State) : Result := .next (receiveTrigger port t s)

/-- TRIGGER_FIRE (R73). -/
def execTriggerFire (s : State) : Result := .next (fireHead s)

end Sys2Proof.Machine
end

