-- ==== Sys2Proof/Machine/StreamCommands.lean ====
section
/-! DEFINITION. Machine/StreamCommands.lean: the commands of stream routing (chapter 5) and timed
delivery (chapter 6). -/

namespace Sys2Proof.Machine

/-- ROUTE_TABLE_WRITE (R77, R78, R79, R90). -/
def execRouteTableWrite (who : Requester) (first : Nat) (entries : List RouteWrite) (s : State) : Result :=
  .next (managed who (writeEach writeRoute first entries) s)

/-- ROUTE_GUARD_WRITE (R92, R93). -/
def execRouteGuardWrite (who : Requester) (w : GuardWrite) (s : State) : Result := .next (managed who (writeRouteGuard w) s)

/-- SAMPLE_BURST (R80, R81, R126, R184). -/
def execSampleBurst (slot : Fin 16) (tag : Nat) (data : List Byte) (s : State) : Result :=
  .next (fromModule slot.val (burstArrives slot.val tag data) s)

/-- R12: a STREAM parcel arrives whose CRC and kind are good; one of more than 256 payload bytes is a bad
parcel of bad length. -/
def streamArrives (p : PortId) (x : StreamParcel) (s : State) : State :=
  if 256 < x.payload.length ∧ (s.port p).checks then finish (badParcel p .length (some .stream) s)
  else receiveStream p x s

/-- STREAM_PARCEL_RECEIVED (R12, R84 to R88, R96, R103, R104, R113). -/
def execStreamParcelReceived (port : PortId) (p : StreamParcel) (s : State) : Result := .next (streamArrives port p s)

/-- BINDING_WRITE (R97 to R99). -/
def execBindingWrite (who : Requester) (first : Nat) (bindings : List BindingWrite) (s : State) : Result :=
  .next (managed who (writeEach writeBinding first bindings) s)

/-- SECTION_SEGMENT_SEND (R109 to R111, R124). -/
def execSectionSegmentSend (slot : Fin 16) (s : State) : Result := .next (sendSegment slot.val s)

end Sys2Proof.Machine
end

