-- ==== Sys2Proof/Machine/SlotCommands.lean ====
section
/-! DEFINITION. Machine/SlotCommands.lean: the commands of the slots (chapter 7): inputs, timers, the
lane, the settings and the six slot commands. -/

namespace Sys2Proof.Machine

/-! ## Inputs and timers -/

/-- PRESENCE_ASSERT (R119). -/
def execPresenceAssert (slot : Fin 16) (s : State) : Result := .next (presenceShown slot.val s)

/-- DEBOUNCE_EXPIRY (R119, R120). -/
def execDebounceExpiry (slot : Fin 16) (s : State) : Result := .next (debounceDone slot.val s)

/-- PRESENCE_LOST (R119, R121, R133, R137, R139). -/
def execPresenceLost (slot : Fin 16) (s : State) : Result := .next (finish (presenceGone slot.val s))

/-- POWER_GOOD (R121, R138). -/
def execPowerGood (slot : Fin 16) (s : State) : Result := .next (powerShown slot.val s)

/-- POWER_GOOD_LOST (R138). -/
def execPowerGoodLost (slot : Fin 16) (s : State) : Result := .next (finish (powerGone slot.val s))

/-- POWER_TIMEOUT (R121). -/
def execPowerTimeout (slot : Fin 16) (s : State) : Result := .next (powerExpired slot.val s)

/-- DRAIN_LIMIT (R132). -/
def execDrainLimit (slot : Fin 16) (s : State) : Result := .next (finish (drainExpired slot.val s))

/-- HANDLE_OPEN (R130, R133, R139). -/
def execHandleOpen (slot : Fin 16) (s : State) : Result := .next (finish (handleOpens slot.val s))

/-- HANDLE_CLOSE (R133, R139). -/
def execHandleClose (slot : Fin 16) (s : State) : Result := .next (handleCloses slot.val s)

/-! ## The lane -/

/-- LANE_ADVERTISEMENT (R121 to R123, R130). -/
def execLaneAdvertisement (slot : Fin 16) (credits : Nat) (s : State) : Result :=
  .next (finish (laneAdvertised slot.val credits s))

/-- LANE_LOST (R127). -/
def execLaneLost (slot : Fin 16) (s : State) : Result := .next (finish (laneGone slot.val s))

/-- LANE_CREDIT_RETURN (R124, R125). -/
def execLaneCreditReturn (slot : Fin 16) (count : Nat) (s : State) : Result :=
  .next (fromModule slot.val (creditsReturned slot.val count) s)

/-- UNDEFINED_LANE_MESSAGE (R184). -/
def execUndefinedLaneMessage (slot : Fin 16) (bytes : List Byte) (s : State) : Result :=
  .next (finish (receiveLaneBytes slot.val bytes s))

/-- ATTENTION_EDGE (R178). -/
def execAttentionEdge (slot : Fin 16) (s : State) : Result := .next (attentionRaised slot.val s)

/-! ## The settings and the commands -/

/-- SLOT_SETTINGS_WRITE (R118, R120). -/
def execSlotSettingsWrite (who : Requester) (slot : Fin 16) (w : SlotSettings) (s : State) : Result :=
  .next (finish (managed who (writeSlotSettings slot.val w) s))

/-- ADMIT (R128). -/
def execAdmitSlot (who : Requester) (slot : Fin 16) (s : State) : Result := .next (managed who (slotCommand slot.val 1) s)

/-- EJECT (R128, R130). -/
def execEject (who : Requester) (slot : Fin 16) (s : State) : Result :=
  .next (finish (managed who (slotCommand slot.val 2) s))

/-- PARK (R128, R134). -/
def execPark (who : Requester) (slot : Fin 16) (s : State) : Result :=
  .next (finish (managed who (slotCommand slot.val 3) s))

/-- UNPARK (R128, R135). -/
def execUnpark (who : Requester) (slot : Fin 16) (s : State) : Result := .next (managed who (slotCommand slot.val 4) s)

/-- CLEAR (R128, R139). -/
def execClear (who : Requester) (slot : Fin 16) (s : State) : Result := .next (managed who (slotCommand slot.val 5) s)

/-- SLOT_RESET (R128, R136). -/
def execSlotReset (who : Requester) (slot : Fin 16) (s : State) : Result :=
  .next (finish (managed who (slotCommand slot.val 6) s))

end Sys2Proof.Machine
end

