-- ==== Sys2Proof/Machine/TransCommands.lean ====
section
/-! DEFINITION. Machine/TransCommands.lean: the commands of remote transactions (chapter 8) and of the
block move channels (chapter 9). -/

namespace Sys2Proof.Machine

/-! ## Requests and completions -/

/-- SLOT_REQUEST_TAKEN (R126, R141 to R143, R148). -/
def execSlotRequestTaken (slot : Fin 16) (arriving : Option LaneRequest) (s : State) : Result :=
  .next (finish (slotRequest slot.val arriving s))

/-- REQUEST_RECEIVED (R36 to R38, R149, R150, R157, R161). -/
def execRequestReceived (port : PortId) (r : Request) (s : State) : Result := .next (finish (receiveRequest port r s))

/-- R150: a transaction queue of a port gains room. -/
def queueTake (p : PortId) (q : TxClass) (s : State) : State :=
  match q with
  | .request => takeRequestRoom p s
  | .completion => takeCompletionRoom p s

/-- TRANSACTION_QUEUE_TAKE (R150, R151, R160). -/
def execTransactionQueueTake (port : PortId) (queue : TxClass) (s : State) : Result := .next (finish (queueTake port queue s))

/-- COMPLETION_RECEIVED (R149, R152, R154). -/
def execCompletionReceived (port : PortId) (c : Completion) (s : State) : Result :=
  .next (finish (receiveCompletion port c s))

/-- TRANSACTION_DEADLINE (R153). -/
def execTransactionDeadline (entry : Fin 32) (s : State) : Result := .next (finish (entryExpires entry.val s))

/-- BACKOFF_END (R153). -/
def execBackoffEnd (entry : Fin 32) (s : State) : Result := .next (finish (backoffOver entry.val s))

/-- COMPLETION_LANE_SEND (R124, R141, R156). -/
def execCompletionLaneSend (slot : Fin 16) (s : State) : Result := .next (finish ((commitCompletion slot.val s).getD s))

/-- INBOUND_SEND (R124, R158). -/
def execInboundSend (slot : Fin 16) (s : State) : Result := .next ((commitInbound slot.val s).getD s)

/-- MODULE_REPLY (R126, R158, R160, R162, R184). -/
def execModuleReply (slot : Fin 16) (handle status : Nat) (data : List Byte) (s : State) : Result :=
  .next (finish (fromModule slot.val (replyArrives slot.val handle status data) s))

/-- RESPONSE_DEADLINE (R159). -/
def execResponseDeadline (handle : Fin 16) (s : State) : Result := .next (finish (responseExpires handle.val s))

/-- LOCK_EXPIRY (R163). -/
def execLockExpiry (slot : Fin 16) (s : State) : Result := .next (finish (lockExpires slot.val s))

/-! ## Writes -/

/-- TRANSACTION_SETTINGS_WRITE (R147). -/
def execTransactionSettingsWrite (who : Requester) (w : TransSettings) (s : State) : Result :=
  .next (managed who (writeTransSettings w) s)

/-- WINDOW_WRITE (R144). -/
def execWindowWrite (who : Requester) (first : Nat) (windows : List WindowWrite) (s : State) : Result :=
  .next (managed who (writeEach writeWindow first windows) s)

/-- WINDOW_GUARD_WRITE (R93, R144). -/
def execWindowGuardWrite (who : Requester) (w : GuardWrite) (s : State) : Result := .next (managed who (writeWindowGuard w) s)

/-! ## Channels -/

/-- CHANNEL_SETUP_WRITE (R165). -/
def execChannelSetupWrite (who : Requester) (channel : Fin 4) (w : ChannelSetup) (s : State) : Result :=
  .next (managed who (writeChannel channel.val w) s)

/-- START (R167). -/
def execStart (who : Requester) (channel : Fin 4) (s : State) : Result := .next (managed who (channelCommand channel.val 1) s)

/-- PAUSE (R167). -/
def execPause (who : Requester) (channel : Fin 4) (s : State) : Result := .next (managed who (channelCommand channel.val 2) s)

/-- RESUME (R167). -/
def execResume (who : Requester) (channel : Fin 4) (s : State) : Result := .next (managed who (channelCommand channel.val 3) s)

/-- ABORT (R167). -/
def execAbort (who : Requester) (channel : Fin 4) (s : State) : Result := .next (managed who (channelCommand channel.val 4) s)

/-- CHUNK_READ_START (R141, R142, R168, R172). -/
def execChunkReadStart (channel : Fin 4) (s : State) : Result := .next (finish (startRead channel.val s))

/-- CHUNK_WRITE_START (R141, R142, R169, R172). -/
def execChunkWriteStart (channel : Fin 4) (s : State) : Result := .next (finish (startWrite channel.val s))

end Sys2Proof.Machine
end

