-- ==== Sys2Proof/Machine/MgmtCommands.lean ====
section
/-! DEFINITION. Machine/MgmtCommands.lean: the commands of management (chapter 10): notices, the writes
of the event summary and the Manager, and any WRITE of controller space. -/

namespace Sys2Proof.Machine

/-- NOTICE_ISSUE (R141, R142, R179). -/
def execNoticeIssue (s : State) : Result := .next (finish (issueNotice s))

/-- EVENT_SUMMARY_CLEAR (R177). -/
def execEventSummaryClear (who : Requester) (kinds : BitVec 32) (s : State) : Result := .next (managed who (writeClear kinds) s)

/-- NOTICE_ENABLE_WRITE (R177). -/
def execNoticeEnableWrite (who : Requester) (enable : BitVec 32) (address : Nat) (s : State) : Result :=
  .next (managed who (writeNotice enable address) s)

/-- ATTENTION_REMOVAL_WRITE (R178). -/
def execAttentionRemovalWrite (who : Requester) (slots : SlotSet) (s : State) : Result :=
  .next (managed who (writeRemoval slots) s)

/-- MANAGER_WRITE (R174). -/
def execManagerWrite (who : Requester) (frame slot : Nat) (s : State) : Result := .next (managed who (writeManager frame slot) s)

/-- R36, R161, R175: a WRITE of controller space as a requester sends it. Where its completion cannot be
accepted yet, nothing is performed. -/
def spaceWrite (who : Requester) (address : Nat) (data : List Byte) (s : State) : State :=
  (completeServed false who (serveNumbered (serveController who .write address data.length data s) s)).getD s

/-- CONTROLLER_WRITE (R175, R176, R183). -/
def execControllerWrite (who : Requester) (address : Nat) (data : List Byte) (s : State) : Result :=
  .next (finish (spaceWrite who address data s))

end Sys2Proof.Machine
end

