-- ==== Sys2Proof/Machine/Dispatch.lean ====
section
/-! DEFINITION. Machine/Dispatch.lean: the effect of each command: one arm per constructor. -/

namespace Sys2Proof.Machine

/-- The effect of a command on everything but the queue of commands. -/
def exec (i : Instr) (s : State) : Host.Outcome State Fault Refusal :=
  match i with
  | .powerOnReset root mgrSlot => Sys2Proof.Machine.execPowerOnReset root mgrSlot s
  | .controllerReset who => Sys2Proof.Machine.execControllerReset who s
  | .releaseNumber who => Sys2Proof.Machine.execReleaseNumber who s
  | .assign port who hop ext data => Sys2Proof.Machine.execAssign port who hop ext data s
  | .cableSensePresent port => Sys2Proof.Machine.execCableSensePresent port s
  | .cableSenseLost port => Sys2Proof.Machine.execCableSenseLost port s
  | .symbolLock port => Sys2Proof.Machine.execSymbolLock port s
  | .peerTrainingAtBase port => Sys2Proof.Machine.execPeerTrainingAtBase port s
  | .symbolLockLost port => Sys2Proof.Machine.execSymbolLockLost port s
  | .helloTimer port => Sys2Proof.Machine.execHelloTimer port s
  | .pairingTimeout port => Sys2Proof.Machine.execPairingTimeout port s
  | .helloReceived port h => Sys2Proof.Machine.execHelloReceived port h s
  | .echoReceived port number => Sys2Proof.Machine.execEchoReceived port number s
  | .echoSpacing port => Sys2Proof.Machine.execEchoSpacing port s
  | .echoReplyReceived port number t2 t3 => Sys2Proof.Machine.execEchoReplyReceived port number t2 t3 s
  | .loopbackParcelReturned port bytes => Sys2Proof.Machine.execLoopbackParcelReturned port bytes s
  | .burstEnd port => Sys2Proof.Machine.execBurstEnd port s
  | .burstSchedule port => Sys2Proof.Machine.execBurstSchedule port s
  | .startBurst who port => Sys2Proof.Machine.execStartBurst who port s
  | .retrain who port => Sys2Proof.Machine.execRetrain who port s
  | .loopbackNear who port => Sys2Proof.Machine.execLoopbackNear who port s
  | .loopbackFar who port => Sys2Proof.Machine.execLoopbackFar who port s
  | .loopbackOff who port => Sys2Proof.Machine.execLoopbackOff who port s
  | .loopbackSilenceEnd port => Sys2Proof.Machine.execLoopbackSilenceEnd port s
  | .rateRequestWrite who port rate => Sys2Proof.Machine.execRateRequestWrite who port rate s
  | .creditReceived port stream request completion => Sys2Proof.Machine.execCreditReceived port stream request completion s
  | .parcelTransmit port => Sys2Proof.Machine.execParcelTransmit port s
  | .epochBoundary => Sys2Proof.Machine.execEpochBoundary s
  | .seenListAgeOut => Sys2Proof.Machine.execSeenListAgeOut s
  | .rootwardStale => Sys2Proof.Machine.execRootwardStale s
  | .markGapLoss => Sys2Proof.Machine.execMarkGapLoss s
  | .holdoverLimit => Sys2Proof.Machine.execHoldoverLimit s
  | .retrainHistoryAgeOut port => Sys2Proof.Machine.execRetrainHistoryAgeOut port s
  | .slewEnd => Sys2Proof.Machine.execSlewEnd s
  | .markReceived port m => Sys2Proof.Machine.execMarkReceived port m s
  | .announceReceived port a => Sys2Proof.Machine.execAnnounceReceived port a s
  | .rootTrimWrite who value => Sys2Proof.Machine.execRootTrimWrite who value s
  | .rackTimeLoad who value => Sys2Proof.Machine.execRackTimeLoad who value s
  | .timebaseSettingsWrite who w => Sys2Proof.Machine.execTimebaseSettingsWrite who w s
  | .triggerMapWrite who line entry => Sys2Proof.Machine.execTriggerMapWrite who line entry s
  | .triggerEdge slot line => Sys2Proof.Machine.execTriggerEdge slot line s
  | .triggerReceived port t => Sys2Proof.Machine.execTriggerReceived port t s
  | .triggerFire => Sys2Proof.Machine.execTriggerFire s
  | .routeTableWrite who first entries => Sys2Proof.Machine.execRouteTableWrite who first entries s
  | .routeGuardWrite who w => Sys2Proof.Machine.execRouteGuardWrite who w s
  | .sampleBurst slot tag data => Sys2Proof.Machine.execSampleBurst slot tag data s
  | .streamParcelReceived port p => Sys2Proof.Machine.execStreamParcelReceived port p s
  | .bindingWrite who first bindings => Sys2Proof.Machine.execBindingWrite who first bindings s
  | .sectionSegmentSend slot => Sys2Proof.Machine.execSectionSegmentSend slot s
  | .presenceAssert slot => Sys2Proof.Machine.execPresenceAssert slot s
  | .debounceExpiry slot => Sys2Proof.Machine.execDebounceExpiry slot s
  | .presenceLost slot => Sys2Proof.Machine.execPresenceLost slot s
  | .powerGood slot => Sys2Proof.Machine.execPowerGood slot s
  | .powerGoodLost slot => Sys2Proof.Machine.execPowerGoodLost slot s
  | .powerTimeout slot => Sys2Proof.Machine.execPowerTimeout slot s
  | .laneAdvertisement slot credits => Sys2Proof.Machine.execLaneAdvertisement slot credits s
  | .laneLost slot => Sys2Proof.Machine.execLaneLost slot s
  | .laneCreditReturn slot count => Sys2Proof.Machine.execLaneCreditReturn slot count s
  | .undefinedLaneMessage slot bytes => Sys2Proof.Machine.execUndefinedLaneMessage slot bytes s
  | .handleOpen slot => Sys2Proof.Machine.execHandleOpen slot s
  | .handleClose slot => Sys2Proof.Machine.execHandleClose slot s
  | .drainLimit slot => Sys2Proof.Machine.execDrainLimit slot s
  | .slotSettingsWrite who slot w => Sys2Proof.Machine.execSlotSettingsWrite who slot w s
  | .admitSlot who slot => Sys2Proof.Machine.execAdmitSlot who slot s
  | .eject who slot => Sys2Proof.Machine.execEject who slot s
  | .park who slot => Sys2Proof.Machine.execPark who slot s
  | .unpark who slot => Sys2Proof.Machine.execUnpark who slot s
  | .clear who slot => Sys2Proof.Machine.execClear who slot s
  | .slotReset who slot => Sys2Proof.Machine.execSlotReset who slot s
  | .slotRequestTaken slot arriving => Sys2Proof.Machine.execSlotRequestTaken slot arriving s
  | .requestReceived port r => Sys2Proof.Machine.execRequestReceived port r s
  | .transactionQueueTake port queue => Sys2Proof.Machine.execTransactionQueueTake port queue s
  | .completionReceived port c => Sys2Proof.Machine.execCompletionReceived port c s
  | .transactionDeadline entry => Sys2Proof.Machine.execTransactionDeadline entry s
  | .backoffEnd entry => Sys2Proof.Machine.execBackoffEnd entry s
  | .completionLaneSend slot => Sys2Proof.Machine.execCompletionLaneSend slot s
  | .inboundSend slot => Sys2Proof.Machine.execInboundSend slot s
  | .moduleReply slot handle status data => Sys2Proof.Machine.execModuleReply slot handle status data s
  | .responseDeadline handle => Sys2Proof.Machine.execResponseDeadline handle s
  | .lockExpiry slot => Sys2Proof.Machine.execLockExpiry slot s
  | .transactionSettingsWrite who w => Sys2Proof.Machine.execTransactionSettingsWrite who w s
  | .windowWrite who first windows => Sys2Proof.Machine.execWindowWrite who first windows s
  | .windowGuardWrite who w => Sys2Proof.Machine.execWindowGuardWrite who w s
  | .channelSetupWrite who channel w => Sys2Proof.Machine.execChannelSetupWrite who channel w s
  | .start who channel => Sys2Proof.Machine.execStart who channel s
  | .pause who channel => Sys2Proof.Machine.execPause who channel s
  | .resume who channel => Sys2Proof.Machine.execResume who channel s
  | .abort who channel => Sys2Proof.Machine.execAbort who channel s
  | .chunkReadStart channel => Sys2Proof.Machine.execChunkReadStart channel s
  | .chunkWriteStart channel => Sys2Proof.Machine.execChunkWriteStart channel s
  | .attentionEdge slot => Sys2Proof.Machine.execAttentionEdge slot s
  | .noticeIssue => Sys2Proof.Machine.execNoticeIssue s
  | .eventSummaryClear who kinds => Sys2Proof.Machine.execEventSummaryClear who kinds s
  | .noticeEnableWrite who enable address => Sys2Proof.Machine.execNoticeEnableWrite who enable address s
  | .attentionRemovalWrite who slots => Sys2Proof.Machine.execAttentionRemovalWrite who slots s
  | .managerWrite who frame slot => Sys2Proof.Machine.execManagerWrite who frame slot s
  | .controllerWrite who address data => Sys2Proof.Machine.execControllerWrite who address data s
  | .badParcelArrival port bytes => Sys2Proof.Machine.execBadParcelArrival port bytes s

end Sys2Proof.Machine
end

