-- ==== Sys2Proof/Machine/Tick.lean ====
section
/-! DEFINITION. Machine/Tick.lean: one cycle of the local oscillator: what time alone changes, and the
commands that come due. It is what a step does when no command waits. -/

namespace Sys2Proof.Machine

/-- A command that comes due when a condition holds. -/
def due (b : Bool) (i : Instr) : List Instr := if b then [i] else []

/-- The commands of a port that come due (R5, R6, R7, R10, R17, R22, R23, R150). -/
def State.duePort (s : State) (p : PortId) : List Instr :=
  let r := s.port p
  due ((r.state == .pairing || r.state == .measure) && s.reached r.helloAt) (.helloTimer p)
  ++ due (r.state == .pairing && s.reached r.pairingEnd) (.pairingTimeout p)
  ++ (match r.burst with
      | some b => due (s.reached b.nextAt) (if b.echoes.length < 8 then .echoSpacing p else .burstEnd p)
      | none => [])
  ++ (match r.looped with
      | x :: _ => due (r.inNear && Config.loopReturned s.localTime p) (.loopbackParcelReturned p x.encode)
      | [] => [])
  ++ (match r.silenceEnd with
      | some t => due (s.reached t) (.loopbackSilenceEnd p)
      | none => [])
  ++ due (r.transmits && r.choose.isSome && Config.transmitterFree s.localTime p) (.parcelTransmit p)
  ++ due (s.requestRoom p && s.requestWaiting p) (.transactionQueueTake p .request)
  ++ due (s.completionWaiting p) (.transactionQueueTake p .completion)

/-- The commands of rack time and the trigger queue that come due (R42, R43, R73). -/
def State.dueTime (s : State) : List Instr :=
  due s.rtu.boundaryReached .epochBoundary
  ++ due (match s.rtu.slew with | some w => w.cycles == 0 | none => false) .slewEnd
  ++ due (match s.trig.queue with | e :: _ => !inFuture e.fire s.rtu.ticks | [] => false) .triggerFire

/-- R141: the request at the head of a slot's lane can be taken or refused. -/
def State.headTakable (s : State) (i : Nat) : Bool :=
  let r := s.slot i
  r.lane == .up && (match r.waiting with
    | w :: _ => !w.refused && ((s.findOtt i w.req.tag).isSome || (s.grant i).isSome)
    | [] => false)

/-- The commands of a slot that come due (R111, R119, R121, R132, R141, R156, R158, R163). -/
def State.dueSlot (s : State) (i : Fin 16) : List Instr :=
  let r := s.slot i.val
  due (s.timerReached r .debounce) (.debounceExpiry i)
  ++ due (s.timerReached r .power) (.powerTimeout i)
  ++ due (s.timerReached r .drain) (.drainLimit i)
  ++ due (commitCompletion i.val s).isSome (.completionLaneSend i)
  ++ due (commitInbound i.val s).isSome (.inboundSend i)
  ++ due (s.segmentReady i.val) (.sectionSegmentSend i)
  ++ due (s.headTakable i.val) (.slotRequestTaken i none)
  ++ due ((s.lock i.val).holder.isSome && !(s.lock i.val).releasing && s.reached (s.lock i.val).expiry) (.lockExpiry i)

/-- The command of an OTT entry that comes due (R153). -/
def State.dueEntry (s : State) (k : Fin 32) : List Instr :=
  match s.ottEntry k.val with
  | none => []
  | some e => match e.state with
    | .queued => due (s.reached e.deadline) (.transactionDeadline k)
    | .sent => due (s.reached e.deadline) (.transactionDeadline k)
    | .backoff => due (s.reached e.deadline) (.backoffEnd k)
    | .answered => []

/-- The command of an inbound entry that comes due (R159). -/
def State.dueHandle (s : State) (h : Fin 16) : List Instr :=
  match s.inEntry h.val with
  | none => []
  | some e => due (e.state != .answering && s.reached e.deadline) (.responseDeadline h)

/-- The commands of a channel that come due (R168, R169). -/
def State.dueChannel (s : State) (c : Fin 4) : List Instr :=
  due (s.chunkToStart c.val && (s.writeToStart c.val).isNone && (s.grant (16 + c.val)).isSome) (.chunkReadStart c)
  ++ due ((s.writeToStart c.val).isSome && (s.grant (16 + c.val)).isSome) (.chunkWriteStart c)

/-- Every command that has come due. -/
def State.dueCommands (s : State) : List Instr :=
  s.dueTime ++ PortId.all.flatMap s.duePort ++ (List.finRange 16).flatMap s.dueSlot
  ++ (List.finRange 32).flatMap s.dueEntry ++ (List.finRange 16).flatMap s.dueHandle
  ++ (List.finRange 4).flatMap s.dueChannel ++ due (s.noticeToSend.isSome && (s.grant 20).isSome) .noticeIssue

/-- The commands that have come due, in the order in which they are taken (log entry 4). -/
def State.dueInOrder (s : State) : List Instr :=
  ((s.dueCommands.zipIdx).insertionSort (fun a b => Config.dueRank s.localTime a.2 ≤ Config.dueRank s.localTime b.2)).map (·.1)

/-- R124: a slot's lane finishes sending the first of its committed messages. -/
def drainLane (s : State) (i : Nat) : State :=
  match (s.slot i).committed with
  | [] => s
  | _ :: rest => if Config.laneReady s.localTime i then s.updSlot i (fun r => { r with committed := rest }) else s

/-- What one local cycle changes by itself: local time, Rack Time and the Slew (R42), the trigger edges
driven for a cycle (R73), and the lanes. -/
def advance (s : State) : State :=
  (List.range 16).foldl drainLane { s with localTime := s.localTime + 1, rtu := s.rtu.cycle, sideband := [] }

/-- One local cycle with no command waiting: time advances, and the commands that come due wait. -/
def tick (s : State) : State :=
  let t := advance s
  { t with pending := t.pending ++ t.dueInOrder }

end Sys2Proof.Machine
end

