-- ==== Sys2Proof/Safety.lean ====
section
/-! DEFINITION. Safety.lean: the terms in which claims about the machine are made: when a completion can
be accepted, when nothing waits for `finish`, and the invariants of the state. -/

namespace Sys2Proof.Machine

/-! ## Conditions on a state -/

/-- R151: a completion to a requester of a frame can be accepted: it has no route or ends here, or its
port's completion queue has room. -/
def State.accepts (s : State) (frame : Nat) : Bool :=
  match s.routeTo frame with
  | some (.port p) => s.isUp p && decide ((s.port p).qCompletion.length < 16)
  | _ => true

/-- R155: an OTT entry awaits routing. -/
def OttEntry.awaitsRoute (e : OttEntry) : Bool := e.state == .queued && e.via == none

/-- No OTT entry awaits routing, as between any two acts (R155). -/
def State.routed (s : State) : Prop := ∀ x ∈ s.trans.ott, x.2.awaitsRoute = false

/-- Nothing is left for `finish`: no OTT entry awaits routing, and no slot drains. -/
def State.settled (s : State) : Prop := s.routed ∧ ∀ i, (s.slot i).drain = none

/-- R151: a completion to a requester of a frame goes at once: it can be accepted, and nothing waits for the
queue of the port it goes to (R150). -/
def State.takes (s : State) (frame : Nat) : Bool :=
  s.accepts frame && (match s.routeTo frame with
    | some (.port p) => !s.completionWaiting p
    | _ => true)

/-- R36, R175: a numbered controller whose Manager a requester is, so that its writes are performed. -/
def State.obeys (s : State) (who : Requester) : Bool := s.topo.frameNumber.isSome && s.isManager who

/-- The state with Writes one higher (R175). -/
def State.wrote (s : State) : State := s.updMgmt (fun m => { m with writes := bump m.writes })

/-- A manager's write is answered: its completion, with a status, is accepted in state `s1`, which gives `t`. -/
def Answered (who : Requester) (st : Status) (s1 t : State) : Prop := sendCompletion false who st [] s1 = some t

/-- R4: the training rate that an entry to TRAINING fixes. -/
def Port.newTrainRate (r : Port) : Rate := if r.rateRequest = .fast ∧ r.peerFast = true then .fast else .base

/-- R6, R20, R23: what a port drops on leaving any state. -/
def Port.released (r : Port) : Port :=
  { r with
    loopForm := .none, rootConflict := false, selfCabled := false, retrainPending := false, loopPending := false
    silenceEnd := none }

/-- R3: the port's own record after a teardown. -/
def Port.tornDown (r : Port) : Port :=
  let waiting := r.qTiming.length + r.qLink.length + r.qStream.length + r.qCompletion.length + r.qRequest.length
  { r.released with
    qTiming := [], qLink := [], qStream := [], qCompletion := [], qRequest := []
    heldRequests := [], heldCompletions := [], txCredits := {}, freed := {}, streamRun := 0
    burst := none, delayValid := false, peer := none
    counters := { r.counters with flushed := bumpBy waiting r.counters.flushed } }

/-- R3: a port leaves its state with a new record; where it leaves UP, that is a link-down event. -/
def State.leaving (s : State) (p : PortId) (r : Port) : State :=
  if (s.port p).state = .up then linkDown p (raise .linkDown (s.setPort p r)) else s.setPort p r

/-- R10: the record of a port that has offered the next echo of a burst with room in its timing queue. -/
def Port.offeredEcho (r : Port) (sofar : List Echo) (now : Nat) : Port :=
  { r with
    burst := some ⟨sofar ++ [{ number := r.echoNumber }], now + 16384⟩
    echoNumber := (r.echoNumber + 1) % 65536
    qTiming := r.qTiming ++ [.echo r.echoNumber] }

/-! ## Invariants -/

/-- A port's queues, buffers and credits are within their bounds (R13, R15, R16, R17). -/
def Port.bounded (r : Port) : Prop :=
  r.qTiming.length ≤ 8 ∧ r.qLink.length ≤ 32 ∧ r.qStream.length ≤ 128 ∧ r.qCompletion.length ≤ 16
    ∧ r.qRequest.length ≤ 16 ∧ r.heldRequests.length ≤ 8 ∧ r.heldCompletions.length ≤ 8
    ∧ r.txCredits.stream ≤ r.limit .stream ∧ r.txCredits.request ≤ r.limit .request
    ∧ r.txCredits.completion ≤ r.limit .completion ∧ r.streamRun ≤ 16 ∧ r.badThisEpoch ≤ 9

/-- Both ports are within their bounds. -/
def State.portsBounded (s : State) : Prop := s.port0.bounded ∧ s.port1.bounded

/-- The root keeps frame 0, no Rootward Port, 0 hops and REFERENCE, and no other controller is in
REFERENCE (R24, R40, R44). -/
def State.rootHeld (s : State) : Prop :=
  (s.topo.root = true →
    s.topo.frameNumber = some 0 ∧ s.topo.rootward = none ∧ s.topo.hops = some 0 ∧ s.rtu.state = .reference)
    ∧ (s.topo.root = false → s.rtu.state ≠ .reference)

/-- R123: the lane that a slot state has. -/
def SlotState.hasLane (st : SlotState) (l : LaneState) : Bool :=
  match st with
  | .empty => l == .off
  | .inserted => l == .off
  | .powering => l == .off || l == .training
  | .admitted => l == .up
  | .parked => l == .dormant
  | .extracting => l == .up || l == .dormant
  | .quiesced => l == .off
  | .faulted => l == .off

/-- R122 to R124: the lane follows the slot state, and a lane that is not UP has no credits and holds no
message. -/
def Slot.laneHeld (r : Slot) : Prop :=
  r.state.hasLane r.lane = true ∧ r.available ≤ r.advertised ∧ r.advertised ≤ 255
    ∧ (r.lane ≠ .up → r.advertised = 0 ∧ r.committed = [])

/-- Every slot's lane follows its state. -/
def State.lanesHeld (s : State) : Prop := ∀ i, (s.slot i).laneHeld

/-- The Section Pool is in canonical form. -/
def State.poolHeld (s : State) : Prop := Memory.wf s.pool

/-- A safe state: every invariant holds. -/
def State.safe (s : State) : Prop := s.poolHeld ∧ s.portsBounded ∧ s.rootHeld ∧ s.lanesHeld

end Sys2Proof.Machine
end

