-- ==== Sys2Proof/WellFormed.lean ====
section
/-! DEFINITION. WellFormed.lean: which commands have operands that the part can receive at all: every
number fits the field that carries it, and no payload is longer than its carrier allows. -/

namespace Sys2Proof

/-- The number fits in `n` bytes. -/
def fitsBytes (n v : Nat) : Bool := decide (v < 256 ^ n)

/-- Requester frame, id and tag are one byte each (11.2). -/
def Requester.wf (r : Requester) : Bool := fitsBytes 1 r.frame && fitsBytes 1 r.id && fitsBytes 1 r.tag

/-- The ASSIGN fields fit their extension (11.2). -/
def NextExt.wf (x : NextExt) : Bool := fitsBytes 8 (x.expected.getD 0) && fitsBytes 1 x.branch

/-- An operation has a one-byte code, and an undefined one is none of the five. -/
def Op.wf (o : Op) : Bool := fitsBytes 1 o.code && (Op.ofCode o.code == o)

/-- A REQUEST fits its parcel: the extension stands exactly with destination NEXT (11.2). -/
def Request.wf (r : Request) : Bool :=
  r.who.wf && fitsBytes 1 r.dest && fitsBytes 1 r.target && r.op.wf && fitsBytes 1 r.hop
    && decide (1 ≤ r.length ∧ r.length ≤ 256) && fitsBytes 4 r.address
    && (r.ext.isSome == (r.dest == nextCode))
    && (match r.ext with | some x => x.wf | none => true)
    && decide ((if r.ext.isSome then 12 else 0) + r.data.length ≤ 256)

/-- A COMPLETION fits its parcel. -/
def Completion.wf (c : Completion) : Bool :=
  c.who.wf && fitsBytes 1 c.status && fitsBytes 1 c.hop && decide (c.data.length ≤ 256)

/-- A HELLO fits its parcel. -/
def Hello.wf (h : Hello) : Bool :=
  fitsBytes 8 h.uid && fitsBytes 1 h.frame && fitsBytes 1 h.hops && fitsBytes 1 h.limStream
    && fitsBytes 1 h.limRequest && fitsBytes 1 h.limCompletion

/-- A MARK fits its parcel: 60-bit stamp, 32-bit correction, 39-bit epoch. -/
def Mark.wf (m : Mark) : Bool :=
  decide (m.origin < 2 ^ 60) && fitsBytes 4 m.correction && decide (m.epoch < 2 ^ 39) && fitsBytes 1 m.hops

/-- An ANNOUNCE fits its parcel. -/
def Announce.wf (a : Announce) : Bool := fitsBytes 1 a.frame && fitsBytes 1 a.hop && fitsBytes 8 a.uid

/-- A TRIGGER fits its parcel. -/
def Trigger.wf (t : Trigger) : Bool :=
  fitsBytes 1 t.origin && fitsBytes 1 t.line && fitsBytes 1 t.seq && fitsBytes 7 t.fire

/-- A STREAM parcel fits: 10-bit tag, one-byte source and sequence, two-byte epoch, 0 to 256 bytes. -/
def StreamParcel.wf (p : StreamParcel) : Bool :=
  decide (p.tag < 1024) && fitsBytes 1 p.source && fitsBytes 2 p.epoch && fitsBytes 1 p.seq
    && decide (p.payload.length ≤ 256)

/-- A parcel fits its format. -/
def Parcel.wf : Parcel → Bool
  | .stream p => p.wf
  | .mark m => m.wf
  | .echo n => fitsBytes 2 n
  | .echoReply n t2 t3 => fitsBytes 2 n && decide (t2 < 2 ^ 60) && decide (t3 < 2 ^ 60)
  | .trigger t => t.wf
  | .hello h => h.wf
  | .announce a => a.wf
  | .credit a b c => fitsBytes 1 a && fitsBytes 1 b && fitsBytes 1 c
  | .request r => r.wf
  | .completion c => c.wf

/-- A lane request fits its message (11.3). -/
def LaneRequest.wf (r : LaneRequest) : Bool :=
  fitsBytes 1 r.tag && r.op.wf && decide (1 ≤ r.length ∧ r.length ≤ 256) && fitsBytes 1 r.dest
    && fitsBytes 1 r.target && fitsBytes 4 r.address && decide (r.data.length ≤ 256)
    && (match r.ext with | some x => x.wf | none => true)

/-- The records a write carries fit one request of 256 bytes: four route entries, one binding, sixteen
windows (R175, 11.4). -/
def recordsFit (n size : Nat) : Bool := decide (1 ≤ n ∧ n * size ≤ 256)

/-- The command's operands are ones the part can receive. -/
def Instr.wf : Instr → Bool
  | .powerOnReset _ _ => true
  | .controllerReset who => who.wf
  | .releaseNumber who => who.wf
  | .assign _ who hop ext data => who.wf && fitsBytes 1 hop && ext.wf && decide (1 ≤ data.length ∧ data.length ≤ 244)
  | .cableSensePresent _ => true
  | .cableSenseLost _ => true
  | .symbolLock _ => true
  | .peerTrainingAtBase _ => true
  | .symbolLockLost _ => true
  | .helloTimer _ => true
  | .pairingTimeout _ => true
  | .helloReceived _ h => h.wf
  | .echoReceived _ n => fitsBytes 2 n
  | .echoSpacing _ => true
  | .echoReplyReceived _ n t2 t3 => Parcel.wf (.echoReply n t2 t3)
  | .loopbackParcelReturned _ _ => true
  | .burstEnd _ => true
  | .burstSchedule _ => true
  | .startBurst who _ => who.wf
  | .retrain who _ => who.wf
  | .loopbackNear who _ => who.wf
  | .loopbackFar who _ => who.wf
  | .loopbackOff who _ => who.wf
  | .loopbackSilenceEnd _ => true
  | .rateRequestWrite who _ v => who.wf && fitsBytes 4 v
  | .creditReceived _ a b c => Parcel.wf (.credit a b c)
  | .parcelTransmit _ => true
  | .epochBoundary => true
  | .seenListAgeOut => true
  | .rootwardStale => true
  | .markGapLoss => true
  | .holdoverLimit => true
  | .retrainHistoryAgeOut _ => true
  | .slewEnd => true
  | .markReceived _ m => m.wf
  | .announceReceived _ a => a.wf
  | .rootTrimWrite who v => who.wf && decide (-2147483648 ≤ v ∧ v < 2147483648)
  | .rackTimeLoad who v => who.wf && fitsBytes 7 v
  | .timebaseSettingsWrite who w =>
    who.wf && fitsBytes 4 w.gi && fitsBytes 4 w.gp && fitsBytes 4 w.st && fitsBytes 4 w.lw && fitsBytes 4 w.stepPolicy
      && fitsBytes 4 w.holdoverLimit && fitsBytes 4 w.delayMode
  | .triggerMapWrite who line e => who.wf && fitsBytes 4 line && fitsBytes 4 e.budget
  | .triggerEdge _ _ => true
  | .triggerReceived _ t => t.wf
  | .triggerFire => true
  | .routeTableWrite who first es => who.wf && recordsFit es.length 64 && decide (first + es.length ≤ 1024)
  | .routeGuardWrite who w => who.wf && fitsBytes 4 w.low && fitsBytes 4 w.high
  | .sampleBurst _ tag data => fitsBytes 2 tag && fitsBytes 2 data.length
  | .streamParcelReceived _ p => p.wf
  | .bindingWrite who first bs => who.wf && recordsFit bs.length 256 && decide (first + bs.length ≤ 64)
  | .sectionSegmentSend _ => true
  | .presenceAssert _ => true
  | .debounceExpiry _ => true
  | .presenceLost _ => true
  | .powerGood _ => true
  | .powerGoodLost _ => true
  | .powerTimeout _ => true
  | .laneAdvertisement _ n => fitsBytes 1 n
  | .laneLost _ => true
  | .laneCreditReturn _ n => fitsBytes 1 n
  | .undefinedLaneMessage _ bytes => decide (16 ≤ bytes.length)
  | .handleOpen _ => true
  | .handleClose _ => true
  | .drainLimit _ => true
  | .slotSettingsWrite who _ w => who.wf && fitsBytes 4 w.policy && fitsBytes 4 w.powerTimeout && fitsBytes 4 w.drainLimit
  | .admitSlot who _ => who.wf
  | .eject who _ => who.wf
  | .park who _ => who.wf
  | .unpark who _ => who.wf
  | .clear who _ => who.wf
  | .slotReset who _ => who.wf
  | .slotRequestTaken _ arriving => match arriving with | some r => r.wf | none => true
  | .requestReceived _ r => r.wf
  | .transactionQueueTake _ _ => true
  | .completionReceived _ c => c.wf
  | .transactionDeadline _ => true
  | .backoffEnd _ => true
  | .completionLaneSend _ => true
  | .inboundSend _ => true
  | .moduleReply _ h st data => fitsBytes 1 h && fitsBytes 1 st && decide (data.length ≤ 256)
  | .responseDeadline _ => true
  | .lockExpiry _ => true
  | .transactionSettingsWrite who w => who.wf && fitsBytes 4 w.timeout && fitsBytes 4 w.responseLimit && fitsBytes 4 w.lockHold
  | .windowWrite who first ws => who.wf && recordsFit ws.length 16 && decide (first + ws.length ≤ 64)
  | .windowGuardWrite who w => who.wf && fitsBytes 4 w.low && fitsBytes 4 w.high
  | .channelSetupWrite who _ w =>
    who.wf && fitsBytes 1 w.srcFrame && fitsBytes 1 w.srcTarget && fitsBytes 4 w.srcAddr && fitsBytes 1 w.dstFrame
      && fitsBytes 1 w.dstTarget && fitsBytes 4 w.dstAddr && fitsBytes 4 w.length && fitsBytes 1 w.pacing && fitsBytes 1 w.policy
  | .start who _ => who.wf
  | .pause who _ => who.wf
  | .resume who _ => who.wf
  | .abort who _ => who.wf
  | .chunkReadStart _ => true
  | .chunkWriteStart _ => true
  | .attentionEdge _ => true
  | .noticeIssue => true
  | .eventSummaryClear who _ => who.wf
  | .noticeEnableWrite who _ a => who.wf && fitsBytes 4 a
  | .attentionRemovalWrite who _ => who.wf
  | .managerWrite who f sl => who.wf && fitsBytes 1 f && fitsBytes 1 sl
  | .controllerWrite who a data => who.wf && fitsBytes 4 a && decide (1 ≤ data.length ∧ data.length ≤ 256)
  | .badParcelArrival _ _ => true

end Sys2Proof
end

