-- ==== Sys2Proof/Certificates/Slice0/Obligations.lean ====
section
/-! DEFINITION. Certificates/Slice0/Obligations.lean: the statements for the provers. A statement that
gives a command's next state in full thereby says that everything it does not name is unchanged. -/

open Sys2Proof Sys2Proof.Machine

/-! ## The step, the tick and what ends an act -/

/-- A step runs the command at the front of the queue, on the state with the queue's rest. -/
def Obligations.StepRunsTheFrontCommand : Prop :=
  ∀ (c : Instr) (rest : List Instr) (s : State), step { s with pending := c :: rest } = exec c { s with pending := rest }

/-- R7, R42, R43, R119, R121, R132, R153, R159: on an empty queue one local cycle passes. Rack Time advances by 2^32 plus the
Correction of the cycle, which the timebase state gives; a Slew counts down, and no other register of the
Rack Time Unit moves. The commands that have come due then wait, in some order, the boundary, the HELLO of 1 ms, the
timers of a slot and the deadlines of entries among them. That the due commands wait in the queue, and their order, are
the model's choice (log entries 4 and 17). -/
def Obligations.IdleStepIsOneLocalCycle : Prop :=
  ∀ s : State, s.pending = [] → ∃ t, step s = .next t ∧
    t.localTime = s.localTime + 1 ∧
    t.rtu = { s.rtu with
      rackTime := s.rtu.rackTime + BitVec.ofInt 88 (4294967296 + s.rtu.correction)
      slew := s.rtu.slew.map (fun w => ⟨w.s, w.cycles - 1⟩) } ∧
    t.sideband = [] ∧ t.port0 = s.port0 ∧ t.port1 = s.port1 ∧ t.topo = s.topo ∧ t.trig = s.trig ∧
    t.router = s.router ∧ t.bindings = s.bindings ∧ t.pool = s.pool ∧ t.trans = s.trans ∧
    t.channels = s.channels ∧ t.mgmt = s.mgmt ∧ t.unitId = s.unitId ∧ t.mgrSlot = s.mgrSlot ∧
    (∀ i, t.slot i = s.slot i ∨
      ∃ m rest, (s.slot i).committed = m :: rest ∧ t.slot i = { s.slot i with committed := rest }) ∧
    t.pending.Perm (State.dueCommands { t with pending := [] }) ∧
    (.epochBoundary ∈ t.pending ↔ t.rtu.rackTime.toNat / 2 ^ 49 ≠ s.rtu.epoch) ∧
    (∀ p, .helloTimer p ∈ t.pending ↔
      ((s.port p).state = .pairing ∨ (s.port p).state = .measure) ∧ (s.port p).helloAt ≤ s.localTime + 1) ∧
    (∀ (i : Fin 16) start, (s.slot i).timer = some ⟨.debounce, start⟩ →
      (.debounceExpiry i ∈ t.pending ↔ start + 16 * 125000 ≤ s.localTime + 1)) ∧
    (∀ (i : Fin 16) start, (s.slot i).timer = some ⟨.power, start⟩ →
      (.powerTimeout i ∈ t.pending ↔ start + (s.slot i).powerTimeout * 125000 ≤ s.localTime + 1)) ∧
    (∀ (i : Fin 16) start, (s.slot i).timer = some ⟨.drain, start⟩ →
      (.drainLimit i ∈ t.pending ↔ start + (s.slot i).drainLimit * 125000 ≤ s.localTime + 1)) ∧
    (∀ (k : Fin 32) e, s.ottEntry k = some e →
      (.transactionDeadline k ∈ t.pending ↔ (e.state = .queued ∨ e.state = .sent) ∧ e.deadline ≤ s.localTime + 1) ∧
      (.backoffEnd k ∈ t.pending ↔ e.state = .backoff ∧ e.deadline ≤ s.localTime + 1)) ∧
    (∀ (h : Fin 16) e, s.inEntry h = some e →
      (.responseDeadline h ∈ t.pending ↔ e.state ≠ .answering ∧ e.deadline ≤ s.localTime + 1))

/-- A state in which no entry awaits routing and no slot drains is left alone at the end of an act. -/
def Obligations.FinishLeavesASettledState : Prop := ∀ s : State, s.settled → finish s = s

/-- No command changes the Unit Identifier or, but for a power-on reset, the straps. That no command but a power-on reset
moves local time, and that a command leaves alone the queue of those behind it, is the model's choice of how time is cut
into steps (log entry 17): the spec has local time count cycles of the oscillator, and gives the block no queue. -/
def Obligations.CommandsLeaveTheQueueAlone : Prop :=
  ∀ (c : Instr) (s t : State), exec c s = .next t →
    t.pending = s.pending ∧ t.unitId = s.unitId ∧
    ((∃ root mgr, c = .powerOnReset root mgr) ∨ (t.localTime = s.localTime ∧ t.mgrSlot = s.mgrSlot))

/-! ## Reset -/

/-- R182 and the rules it names: what a power-on reset leaves in each unit. That the inputs as they stand, the queue of
commands and the unit's identifier outlive it is the model's choice (log entries 1 and 8), as are the values of the
fields that are written before they are read (log entry 19). -/
def Obligations.PowerOnResetValues : Prop :=
  ∀ (root : Bool) (mgr : Fin 16) (s : State), ∃ t, exec (.powerOnReset root mgr) s = .next t ∧
    (∀ p, t.port p = { cableSense := (s.port p).cableSense }) ∧
    t.topo = (if root then
        { frameNumber := some 0, root := true, hops := some 0, directory := [(0, ⟨.here, 0, s.unitId⟩)] }
      else {}) ∧
    t.rtu = { state := if root then .reference else .free } ∧
    t.trig = {} ∧ t.router = {} ∧ t.bindings = [] ∧ t.trans = {} ∧ t.channels = [] ∧
    t.mgmt = { manager := if root then some (0, mgr.val) else none
               summary := [(27, { pending := true, count := 1 })] } ∧
    t.mgrSlot = mgr.val ∧ t.unitId = s.unitId ∧ t.pending = s.pending ∧
    ∀ i, i < 16 → (t.slot i).state = .empty ∧ (t.slot i).powerEnable = false ∧ (t.slot i).lane = .off ∧
      (t.slot i).auto = true ∧ (t.slot i).powerTimeout = 200 ∧ (t.slot i).drainLimit = 50 ∧
      (t.slot i).counters = {} ∧ (t.slot i).lastCause = .powerOn

/-- The state after reset meets every invariant, and its queue of commands is empty. The state itself, a root with no
cable and no module, is the model's choice (log entry 1). -/
def Obligations.ResetIsSafe : Prop := State.reset.safe ∧ State.reset.pending = []

/-! ## Invariants that every step keeps -/

/-- R13, R15, R16, R17: queues, receive buffers, credits, Stream Run and Bad This Epoch stay in bounds. -/
def Obligations.StepsKeepPortBounds : Prop :=
  ∀ s t : State, s.portsBounded → step s = .next t → t.portsBounded

/-- R24, R40, R44: the root keeps frame 0, no Rootward Port and REFERENCE, and no other frame is in REFERENCE. -/
def Obligations.StepsKeepTheRoot : Prop := ∀ s t : State, s.rootHeld → step s = .next t → t.rootHeld

/-- R122 to R124: every slot's lane follows its state. -/
def Obligations.StepsKeepLanesWithSlots : Prop := ∀ s t : State, s.lanesHeld → step s = .next t → t.lanesHeld

/-- The Section Pool stays in canonical form. -/
def Obligations.StepsKeepThePool : Prop := ∀ s t : State, s.poolHeld → step s = .next t → t.poolHeld

/-! ## Formats (chapter 11) -/

/-- R12, 11.2: a well-formed parcel as sent passes the three checks and is read back as itself. -/
def Obligations.ParcelsReadBack : Prop :=
  ∀ p : Parcel, p.wf = true → parcelFault p.encode = none ∧ Parcel.decode (bodyOf p.encode) = some p

/-! ## Cable ports (chapter 1) -/

/-- R2, R4: a cable reported in ABSENT starts training; lock gained enters PAIRING at the training rate with
a HELLO; a peer training at BASE, and 10 ms without a HELLO in PAIRING, act as stated. -/
def Obligations.TrainingAndPairing : Prop :=
  ∀ (p : PortId) (s : State), let r := s.port p
    (r.state = .absent → exec (.cableSensePresent p) s =
      .next (s.setPort p { r.released with cableSense := true, state := .training, trainRate := r.newTrainRate })) ∧
    (r.state = .training → exec (.symbolLock p) s =
      .next (sendHello (s.setPort p { r with
        state := .pairing, rate := r.trainRate
        helloAt := s.localTime + 125000, pairingEnd := s.localTime + 1250000 }) p)) ∧
    (r.state = .training ∧ r.trainRate = .fast → exec (.peerTrainingAtBase p) s =
      .next (s.setPort p { r with peerFast := false, trainRate := .base })) ∧
    (r.state = .pairing → exec (.pairingTimeout p) s =
      .next (s.setPort p { r.tornDown with state := .training, trainRate := r.newTrainRate }))

/-- R5, R7, R16, R25: the HELLO timer of PAIRING and MEASURE queues a HELLO with the current values of its
fields, in the place of one that waits, or at the end of a link control queue that has room. That the fields are those
of the moment in which it is queued, and not in which it departs, is the model's choice (log entry 7). -/
def Obligations.HelloTimerSendsCurrentValues : Prop :=
  ∀ (p : PortId) (s : State), let r := s.port p
    (r.state = .pairing ∨ r.state = .measure) →
    let h : Hello :=
      { uid := s.unitId, frame := s.topo.frameNumber.getD 63
        hops := if s.topo.root = true then 0
          else ((s.topo.rootward.bind s.topo.mark).map (fun m => m.hops + 1)).getD 255
        root := s.topo.root, rootward := decide (s.topo.rootward = some p), fast := decide (r.rateRequest = .fast)
        loopRequest := r.loopPending, limStream := 64, limRequest := 8, limCompletion := 8 }
    let at1 := s.localTime + 125000
    ((∀ i ∈ r.qLink, ∀ x, i ≠ .hello x) ∧ r.qLink.length < 32 → exec (.helloTimer p) s =
      .next (s.setPort p { r with helloAt := at1, qLink := r.qLink ++ [.hello h] })) ∧
    (∀ a x b, r.qLink = a ++ .hello x :: b ∧ (∀ i ∈ a, ∀ y, i ≠ .hello y) → exec (.helloTimer p) s =
      .next (s.setPort p { r with helloAt := at1, qLink := a ++ .hello h :: b }))

/-- R2, R3, R19: loss of cable sense in PAIRING and MEASURE, and loss of lock at BASE in PAIRING, MEASURE and UP, tear
the link down, from UP with the link-down event; in NEAR a loss of cable sense only updates Cable Sense. -/
def Obligations.LeavingTearsTheLinkDown : Prop :=
  ∀ (p : PortId) (s : State), let r := s.port p
    (r.state = .pairing ∨ r.state = .measure →
      exec (.cableSenseLost p) s = .next (finish (s.setPort p { r.tornDown with
        state := .absent, cableSense := false, peerFast := false, retrainHistory := [] }))) ∧
    ((r.state = .pairing ∨ r.state = .measure ∨ r.state = .up) ∧ r.rate = .base →
      exec (.symbolLockLost p) s = .next (finish (s.leaving p { r.tornDown with
        state := .training, trainRate := r.newTrainRate
        counters := { r.tornDown.counters with retrains := bump r.counters.retrains } }))) ∧
    (r.state = .loopback ∧ r.loopForm = .near →
      exec (.cableSenseLost p) s = .next (finish (s.setPort p { r with cableSense := false })))

/-- R3, R33, R34, R155: loss of cable sense in UP is a link-down event: the port's record is torn down, LINK_DOWN
is raised, the port's directory entries and Mark Record go, it is no longer the Rootward Port, and a slot's
FAIL entry sent through it is answered LINK_LOST. No entry here has to be routed again for it. -/
def Obligations.LinkDownReachesTheUnits : Prop :=
  ∀ (p : PortId) (s : State), (s.port p).state = .up → s.routed →
    (∀ i e, s.ottEntry i = some e → e.via = some (.port p) → e.state ≠ .queued ∧ (e.state = .sent → e.retry = false)) →
    ∃ t, exec (.cableSenseLost p) s = .next t ∧
      (t.port p).state = .absent ∧ (t.port p).cableSense = false ∧ (t.port p).peer = none ∧
      (t.port p).txCredits = {} ∧ (t.port p).delayValid = false ∧ (t.port p).delay = (s.port p).delay ∧
      (t.port p).qRequest = [] ∧ (t.port p).qStream = [] ∧ (t.port p).heldRequests = [] ∧
      (t.event 1).pending = true ∧ (t.event 1).count = min ((s.event 1).count + 1) 255 ∧
      (∀ e ∈ t.topo.directory, e.2.via ≠ .port p) ∧ t.topo.mark p = none ∧ t.topo.rootward ≠ some p ∧
      ∀ i e, i < 32 → s.ottEntry i = some e → e.id ≤ 15 → e.state = .sent → e.via = some (.port p) →
        ∃ e', t.ottEntry i = some e' ∧ e'.state = .answered ∧ e'.answer = some ⟨.linkLost, []⟩

/-- R148, R155: a RETRY entry sent through a port that goes down is routed again at once: here out of the Rootward
Port, the entry's own directory entry having gone with the port, where no other entry waits for that port's queue. -/
def Obligations.LinkDownReroutesRetryEntries : Prop :=
  ∀ (p : PortId) (i : Nat) (e : OttEntry) (s : State), (s.port p).state = .up → s.routed → i < 32 →
    s.ottEntry i = some e → e.state = .sent → e.via = some (.port p) → e.retry = true → e.dest ≤ 31 →
    (∀ j x, s.ottEntry j = some x → x.via = some (.port p) → j = i) →
    s.topo.rootward = some p.other → s.isUp p.other = true → (s.port p.other).qRequest.length < 16 →
    (∀ f, s.topo.frameNumber = some f → f ≠ e.dest) → s.topo.frameNumber.isSome = true →
    (∀ x ∈ s.topo.directory, x.1 = e.dest → x.2.via = .port p) →
    (∀ x ∈ s.trans.ott, x.2.via = some (.port p.other) → x.2.state ≠ .queued) →
    ∃ t, exec (.cableSenseLost p) s = .next t ∧
      t.ottEntry i = some { e with via := some (.port p.other) } ∧
      (t.port p.other).qRequest = (s.port p.other).qRequest ++ [e.request s.frameCode]

/-- R5, R6, R7, R8, R15, R20, R23, R30, R34: a HELLO in PAIRING completes the pairing and starts a burst, or raises
Self-Cabled or Root Conflict and restarts the 10 ms timer. In MEASURE and UP one of the peer updates what is known of
it, and with it the port's being a child port; one of another unit trains the port anew; one that shows the peer newly
capable of FAST retrains the port once its own HELLO has gone. A Loop Request puts the port in LOOPBACK, served, and
one of the peer updates Peer FAST Capability all the same; that it is taken before the check for a new peer is the
model's choice, as is that a root cabled to itself shows both flags (log entry 23), that these retrains leave the
Retrains counter alone (log entry 24), that the 1 ms count starts anew with MEASURE (log entry 37), that a FAR command
goes on waiting there (log entry 38), that a Loop Request outranks the retrain of a peer newly capable of FAST (log
entry 74) and that a HELLO which raises a conflict leaves Peer FAST Capability alone (log entry 75). -/
def Obligations.HelloCompletesPairing : Prop :=
  ∀ (p : PortId) (h : Hello) (s : State), let r := s.port p
    let known := fun (q : Peer) => { r with
      peer := some { q with frame := h.frame, hops := h.hops, rootward := h.rootward, fast := h.fast }, peerFast := h.fast }
    (r.state = .pairing →
    (h.uid ≠ s.unitId ∧ ¬(h.root = true ∧ s.topo.root = true) ∧ h.loopRequest = false ∧ r.qTiming.length < 8 →
      exec (.helloReceived p h) s = .next (finish (s.setPort p (Port.offeredEcho { r with
        state := .measure
        peer := some ⟨h.uid, h.frame, h.root, h.hops, h.rootward, h.fast, h.limStream, h.limRequest, h.limCompletion⟩
        peerFast := h.fast, txCredits := ⟨h.limStream, h.limRequest, h.limCompletion⟩
        rootConflict := false, selfCabled := false, helloAt := s.localTime + 125000 } [] s.localTime)))) ∧
    (h.uid = s.unitId ∧ ¬(h.root = true ∧ s.topo.root = true) →
      exec (.helloReceived p h) s = .next (finish (s.setPort p { r with
        selfCabled := true, pairingEnd := s.localTime + 1250000 }))) ∧
    (h.uid = s.unitId ∧ h.root = true ∧ s.topo.root = true →
      exec (.helloReceived p h) s = .next (finish (raiseIf (!r.rootConflict) .rootConflict (s.setPort p { r with
        selfCabled := true, rootConflict := true, pairingEnd := s.localTime + 1250000 })))) ∧
    (h.uid ≠ s.unitId ∧ h.root = true ∧ s.topo.root = true →
      exec (.helloReceived p h) s = .next (finish (raiseIf (!r.rootConflict) .rootConflict (s.setPort p { r with
        rootConflict := true, pairingEnd := s.localTime + 1250000 })))) ∧
    (h.uid ≠ s.unitId ∧ ¬(h.root = true ∧ s.topo.root = true) ∧ h.loopRequest = true →
      exec (.helloReceived p h) s = .next (finish (s.setPort p { r.tornDown with
        state := .loopback, loopForm := .farServed })))) ∧
    (r.state = .measure ∨ r.state = .up →
      (h.loopRequest = true → exec (.helloReceived p h) s = .next (finish (s.leaving p { r.tornDown with
        state := .loopback, loopForm := .farServed
        peerFast := if r.peer.map (·.uid) = some h.uid then h.fast else r.peerFast }))) ∧
      (∀ q, r.peer = some q → h.loopRequest = false →
        (h.uid ≠ q.uid → exec (.helloReceived p h) s = .next (finish (s.leaving p { r.tornDown with
          state := .training, trainRate := r.newTrainRate }))) ∧
        (h.uid = q.uid ∧ (r.state = .measure ∨ h.rootward = q.rootward) →
          (¬(r.state = .up ∧ r.rate = .base ∧ r.rateRequest = .fast ∧ h.fast = true ∧ r.peerFast = false) →
            exec (.helloReceived p h) s = .next (finish (s.setPort p (known q)))) ∧
          (r.state = .up ∧ r.rate = .base ∧ r.rateRequest = .fast ∧ h.fast = true ∧ r.peerFast = false →
            ((∀ i ∈ r.qLink, ∀ x, i ≠ .hello x) → exec (.helloReceived p h) s =
              .next (finish (s.leaving p { (known q).tornDown with state := .training, trainRate := .fast }))) ∧
            ((∃ x, LinkItem.hello x ∈ r.qLink) → exec (.helloReceived p h) s =
              .next (finish (s.setPort p { known q with retrainPending := true }))))) ∧
        (h.uid = q.uid ∧ r.state = .up ∧ h.rootward ≠ q.rootward ∧ h.fast = r.peerFast ∧ s.routed →
          ∃ t, exec (.helloReceived p h) s = .next t ∧ t.port p = known q ∧ t.port p.other = s.port p.other ∧
            t.isChild p = (h.rootward && decide (s.topo.rootward ≠ some p)) ∧ t.topo.rootward = s.topo.rootward ∧
            (h.rootward = false ∧ s.topo.rootward ≠ some p → ∀ e ∈ t.topo.directory, e.2.via ≠ .port p) ∧
            (h.rootward = true → t.topo = s.topo))))

/-- R9, R10: an ECHO is answered with its arrival stamp; the next echo of a burst is offered; an ECHO_REPLY
supplies the stamps of an unanswered echo of its number, and any other is a Stale Reply. -/
def Obligations.EchoExchange : Prop :=
  ∀ (p : PortId) (s : State), let r := s.port p
    (∀ n, (r.state = .measure ∨ r.state = .up ∨ (r.state = .pairing ∧ r.rootConflict = false ∧ r.selfCabled = false)) ∧
        r.qTiming.length < 8 →
      exec (.echoReceived p n) s =
        .next (s.setPort p { r with qTiming := r.qTiming ++ [.echoReply n (s.rtu.rackTime.toNat / 2 ^ 28)] })) ∧
    (∀ b, r.burst = some b ∧ b.echoes.length < 8 ∧ r.qTiming.length < 8 →
      exec (.echoSpacing p) s = .next (s.setPort p (r.offeredEcho b.echoes s.localTime))) ∧
    (∀ n t2 t3 b pre e post, (r.state = .measure ∨ r.state = .up) ∧ r.burst = some b ∧ b.echoes = pre ++ e :: post ∧
        (∀ x ∈ pre, x.number ≠ n) ∧ e.number = n ∧ e.reply = none →
      exec (.echoReplyReceived p n t2 t3) s = .next (s.setPort p { r with
        burst := some { b with echoes := pre ++ { e with reply := some (t2, t3, s.rtu.rackTime.toNat / 2 ^ 28) } :: post } })) ∧
    (∀ n t2 t3, (r.state = .measure ∨ r.state = .up) ∧
        (∀ b, r.burst = some b → ∀ e ∈ b.echoes, e.number = n → e.reply.isSome) →
      exec (.echoReplyReceived p n t2 t3) s =
        .next (s.setPort p { r with counters := { r.counters with stale := bump r.counters.stale } }))

/-- R8, R10, R11, R22, R48, R49: the end of a burst in UP writes Delay or raises DELAY_FAIL; the end of the first burst
enters UP with LINK_UP whatever its result; the end of a loopback burst writes Loopback Delay alone; a due burst
starts. An echo's sample is half of its round trip less the peer's hold time, rounded half up, and is invalid where the
echo is unanswered or spans a step, the round trip is above 65,535 or the difference negative; a burst of at least four
valid samples gives their mean, rounded half up. That an echo answered before it departs, which has a reply and no T1,
counts as unanswered is the model's choice (log entry 25). -/
def Obligations.BurstsStartAndEnd : Prop :=
  (∀ e : Echo,
    (e.t1 = none ∨ e.reply = none ∨ e.spanned = true → e.sample = none) ∧
    (∀ t1 t2 t3 t4, t1 < 2 ^ 60 → t2 < 2 ^ 60 → e.t1 = some t1 → e.reply = some (t2, t3, t4) → e.spanned = false →
      let trip := ((t4 : Int) - t1) % 2 ^ 60
      let hold := ((t3 : Int) - t2) % 2 ^ 60
      (65535 < trip ∨ trip < hold → e.sample = none) ∧
      (trip ≤ 65535 ∧ hold ≤ trip →
        ∃ d : Nat, e.sample = some d ∧ (2 * (d : Int) = trip - hold ∨ 2 * (d : Int) = trip - hold + 1)))) ∧
  (∀ es : List Echo, let v := es.filterMap Echo.sample
    (v.length < 4 → burstResult es = none) ∧
    (4 ≤ v.length → ∃ d, burstResult es = some d ∧
      2 * v.length * d ≤ 2 * v.sum + v.length ∧ 2 * v.sum + v.length < 2 * v.length * (d + 1))) ∧
  ∀ (p : PortId) (s : State), let r := s.port p
    (∀ b d, r.state = .up ∧ r.burst = some b ∧ 8 ≤ b.echoes.length ∧ burstResult b.echoes = some d →
      exec (.burstEnd p) s = .next ((s.setPort p { r with
        burst := none, burstCount := 0, delay := d, delayValid := true }).applyRtu
        ({ s.rtu with burstsValid := bump s.rtu.burstsValid }, []))) ∧
    (∀ b, r.state = .up ∧ r.burst = some b ∧ 8 ≤ b.echoes.length ∧ burstResult b.echoes = none →
      exec (.burstEnd p) s = .next ((s.setPort p { r with burst := none, burstCount := 0 }).applyRtu
        ({ s.rtu with burstsInvalid := bump s.rtu.burstsInvalid }, [.delayFail]))) ∧
    (∀ b, r.state = .measure ∧ r.burst = some b ∧ 8 ≤ b.echoes.length → ∃ t, exec (.burstEnd p) s = .next t ∧
      (t.port p).state = .up ∧ (t.port p).burst = none ∧ (t.port p).burstCount = 0 ∧
      (t.port p).delayValid = (r.delayValid || (burstResult b.echoes).isSome) ∧
      (t.event 0).pending = true ∧ (t.event 0).count = min ((s.event 0).count + 1) 255) ∧
    (∀ b, r.state = .loopback ∧ r.burst = some b ∧ 8 ≤ b.echoes.length → exec (.burstEnd p) s =
      .next (s.setPort p { r with burst := none, burstCount := 0, loopDelay := burstResult b.echoes })) ∧
    (r.state = .up ∧ r.burst = none ∧ r.qTiming.length < 8 ∧
        ((r.delayValid = false ∧ r.burstCount = 64) ∨
          (r.delayValid = true ∧ s.rtu.delayRepeat = true ∧ 1024 ≤ r.burstCount)) →
      exec (.burstSchedule p) s = .next (s.setPort p (r.offeredEcho [] s.localTime)))

/-- R12, R13, R14, R19, R22, R23: in UP a parcel whose CRC fails is dropped and counted in Bad CRC and Bad This Epoch,
and the buffer of the credited class it names is credited back; one that finds its class's eight buffers held counts in
Receive Overflow too, and credits nothing. The ninth of an epoch retrains the port at once. In LOOPBACK NEAR and FAR a
returning parcel counts in Loopback Bad or Loopback Good, and an ECHO answers its own echo with T2 and T3 equal to T4.
A FAR-served port sends back what it receives. That a parcel bad and without a buffer counts twice is the model's
choice (log entry 25), as are the fields for the loop and for what is sent back (log entry 18), and that a return which
is not the first parcel on the loop leaves that parcel there (log entry 66). -/
def Obligations.BadParcelsAreCounted : Prop :=
  ∀ (p : PortId) (bytes : List Byte) (s : State), let r := s.port p
    let stamp := s.rtu.rackTime.toNat / 2 ^ 28
    let looping := r.state = .loopback ∧ (r.loopForm = .near ∨ r.loopForm = .far)
    (parcelFault bytes = some .crc →
      (r.state = .up ∧ classNamed bytes = some .stream ∧ r.badThisEpoch < 8 ∧ LinkItem.credit ∈ r.qLink →
        exec (.badParcelArrival p bytes) s = .next (finish (s.setPort p { r with
          counters := { r.counters with badCrc := bump r.counters.badCrc }
          freed := { r.freed with stream := r.freed.stream + 1 }
          badThisEpoch := r.badThisEpoch + 1 }))) ∧
      (r.state = .up ∧ ((classNamed bytes = some .request ∧ r.heldRequests.length = 8) ∨
          (classNamed bytes = some .completion ∧ r.heldCompletions.length = 8)) ∧ r.badThisEpoch < 8 →
        exec (.badParcelArrival p bytes) s = .next (finish (s.setPort p { r with
          counters := { r.counters with
            badCrc := bump r.counters.badCrc, rxOverflow := bump r.counters.rxOverflow }
          badThisEpoch := r.badThisEpoch + 1 }))) ∧
      (looping ∧ (∀ x ∈ r.looped.head?, x.encode ≠ bytes) →
        exec (.loopbackParcelReturned p bytes) s = .next (s.setPort p { r with
          counters := { r.counters with badCrc := bump r.counters.badCrc, loopBad := bump r.counters.loopBad } })) ∧
      (r.state = .measure ∧ r.rate = .base ∧ r.badThisEpoch = 8 ∧ classNamed bytes = none →
        exec (.badParcelArrival p bytes) s = .next (finish (raise .linkRetrain (s.setPort p { r.tornDown with
          state := .training, trainRate := r.newTrainRate, badThisEpoch := 9
          counters := { r.tornDown.counters with
            badCrc := bump r.counters.badCrc, retrains := bump r.counters.retrains } }))))) ∧
    (∀ x rest, looping ∧ parcelFault x.encode = none ∧ Parcel.decode (bodyOf x.encode) = some x ∧
        (r.looped = x :: rest ∨ (r.looped = [] ∧ rest = [])) →
      let good := { r with looped := rest, counters := { r.counters with loopGood := bump r.counters.loopGood } }
      ((∀ n, x ≠ .echo n) → exec (.loopbackParcelReturned p x.encode) s = .next (s.setPort p good)) ∧
      (∀ n k pre e post, x = .echo n ∧ r.burst = some k ∧ k.echoes = pre ++ e :: post ∧ (∀ y ∈ pre, y.number ≠ n) ∧
          e.number = n ∧ e.reply = none →
        exec (.loopbackParcelReturned p x.encode) s = .next (s.setPort p { good with
          burst := some { k with echoes := pre ++ { e with reply := some (stamp, stamp, stamp) } :: post } }))) ∧
    (r.state = .loopback ∧ r.loopForm = .farServed →
      exec (.badParcelArrival p bytes) s = .next (finish (s.setPort p { r with sentBack := bytes })))

/-- R19, R21: the third counted retrain at FAST falls back: Rate Request becomes BASE before the training rate is fixed,
Retrain History is emptied and RATE_FALLBACK is raised; an earlier one adds an age of 0; from UP each is a link-down
event. An age of 1,024 leaves. -/
def Obligations.FallbackAfterThreeRetrains : Prop :=
  ∀ (p : PortId) (s : State), let r := s.port p
    let linked := r.state = .pairing ∨ r.state = .measure ∨ r.state = .up
    (linked ∧ r.rate = .fast ∧ r.retrainHistory.length = 2 →
      exec (.symbolLockLost p) s = .next (finish ((raise .rateFallback s).leaving p { r.tornDown with
        state := .training, trainRate := .base, rateRequest := .base, retrainHistory := []
        counters := { r.tornDown.counters with retrains := bump r.counters.retrains } }))) ∧
    (linked ∧ r.rate = .fast ∧ r.retrainHistory.length < 2 →
      exec (.symbolLockLost p) s = .next (finish (s.leaving p { r.tornDown with
        state := .training, trainRate := r.newTrainRate, retrainHistory := r.retrainHistory ++ [0]
        counters := { r.tornDown.counters with retrains := bump r.counters.retrains } }))) ∧
    (∃ t, exec (.retrainHistoryAgeOut p) s = .next t ∧ (∀ a ∈ (t.port p).retrainHistory, a < 1024) ∧
      t = s.setPort p { r with retrainHistory := (t.port p).retrainHistory } ∧
      ∀ a, a < 1024 → (t.port p).retrainHistory.count a = r.retrainHistory.count a)

/-- R15: an accepted CREDIT adds its counts to Transmit Credits, each clamped to the peer's limit, and the whole
excess is counted in Credit Excess. -/
def Obligations.CreditsAreClamped : Prop :=
  ∀ (p : PortId) (a b c : Nat) (s : State) (q : Peer), let r := s.port p
    (r.state = .measure ∨ r.state = .up) → r.peer = some q →
    ∃ t, exec (.creditReceived p a b c) s = .next t ∧
      t = s.setPort p { r with txCredits := (t.port p).txCredits, counters := (t.port p).counters } ∧
      (t.port p).txCredits.stream = min (r.txCredits.stream + a) q.limStream ∧
      (t.port p).txCredits.request = min (r.txCredits.request + b) q.limRequest ∧
      (t.port p).txCredits.completion = min (r.txCredits.completion + c) q.limCompletion ∧
      (let excess := (r.txCredits.stream + a - q.limStream) + (r.txCredits.request + b - q.limRequest)
          + (r.txCredits.completion + c - q.limCompletion)
       (t.port p).counters = { r.counters with creditExcess := min (r.counters.creditExcess + excess) 4294967295 })

/-- R10, R14, R15, R17, R18, R20, R22, R23, R45, R46: the arbiter's order in PAIRING, MEASURE and UP: timing, link
control, stream, completion, request, the last three each with its credit; a completion or a request that can depart
goes before a stream parcel once Stream Run stands at 16, and what has no credit stays. MARK and ECHO parcels take
their stamps as they depart, a forwarded MARK its correction; a HELLO that departs takes the port to LOOPBACK FAR or
into a retrain that waited for it. In NEAR an ECHO goes round to the port's own receiver. That a FAR command goes
before a retrain is the model's choice (log entry 38), as are the fields for the parcel sent (log entry 18), that a HELLO
departs with the fields it was queued with (log entry 7), that the retrain which waited for a HELLO leaves the Retrains counter alone (log entry 24), and that a Delay Valid lost since
a mark's arrival saturates it (log entry 65). -/
def Obligations.ArbiterSendsInOrder : Prop :=
  ∀ (p : PortId) (s : State), let r := s.port p
    let now := s.rtu.rackTime.toNat / 2 ^ 28
    let go := exec (.parcelTransmit p) s
    (r.state = .pairing ∨ r.state = .measure ∨ r.state = .up →
      (∀ t0 rest, r.qTiming = .trigger t0 :: rest →
        go = .next (finish (s.setPort p { r with qTiming := rest, wire := some (.trigger t0) }))) ∧
      (∀ rest, r.qTiming = .rootMark :: rest →
        go = .next (finish (s.setPort p { r with qTiming := rest, wire := some (.mark ⟨now, 0, now / 2 ^ 21, 0⟩) }))) ∧
      (∀ a stamp m delay spanned rest, r.qTiming = .fwdMark a stamp m delay spanned :: rest →
        let sum := m.correction + (now + 2 ^ 60 - stamp) % 2 ^ 60 + delay.getD 0
        (m.correction ≠ 2 ^ 32 - 1 ∧ delay ≠ none ∧ (s.port a).delayValid = true ∧ spanned = false ∧ sum < 2 ^ 32 - 1 →
          go = .next (finish (s.setPort p { r with qTiming := rest, wire := some (.mark { m with correction := sum }) }))) ∧
        (m.correction = 2 ^ 32 - 1 ∨ delay = none ∨ (s.port a).delayValid = false ∨ spanned = true ∨ 2 ^ 32 - 1 ≤ sum →
          go = .next (finish { s.setPort p { r with
              qTiming := rest, wire := some (.mark { m with correction := 2 ^ 32 - 1 }) } with
            rtu := { s.rtu with forwardSaturations := bump s.rtu.forwardSaturations } }))) ∧
      (∀ n rest b pre e post, r.qTiming = .echo n :: rest ∧ r.burst = some b ∧ b.echoes = pre ++ e :: post ∧
          (∀ y ∈ pre ++ post, y.number ≠ n) ∧ e.number = n ∧ e.t1 = none →
        go = .next (finish (s.setPort p { r with
          qTiming := rest, wire := some (.echo n)
          burst := some { b with echoes := pre ++ { e with t1 := some now } :: post } }))) ∧
      (∀ n t2 rest, r.qTiming = .echoReply n t2 :: rest →
        go = .next (finish (s.setPort p { r with qTiming := rest, wire := some (.echoReply n t2 now) }))) ∧
      (∀ rest, r.qTiming = [] ∧ r.qLink = .credit :: rest →
        go = .next (finish (s.setPort p { r with
          qLink := rest, freed := {}, wire := some (.credit r.freed.stream r.freed.request r.freed.completion) }))) ∧
      (∀ a rest, r.qTiming = [] ∧ r.qLink = .announce a :: rest →
        go = .next (finish (s.setPort p { r with qLink := rest, wire := some (.announce a) }))) ∧
      (∀ h rest, r.qTiming = [] ∧ r.qLink = .hello h :: rest →
        let sent := { r with qLink := rest, wire := some (.hello h) }
        (h.loopRequest = true ∧ r.loopPending = true →
          go = .next (finish (s.leaving p { sent.tornDown with state := .loopback, loopForm := .far }))) ∧
        (¬(h.loopRequest = true ∧ r.loopPending = true) ∧ r.retrainPending = true →
          go = .next (finish (s.leaving p { sent.tornDown with state := .training, trainRate := r.newTrainRate }))) ∧
        (¬(h.loopRequest = true ∧ r.loopPending = true) ∧ r.retrainPending = false →
          go = .next (finish (s.setPort p sent)))) ∧
      (r.qTiming = [] ∧ r.qLink = [] →
        let completion := 0 < r.qCompletion.length ∧ 0 < r.txCredits.completion
        let request := 0 < r.qRequest.length ∧ 0 < r.txCredits.request
        let stream := 0 < r.qStream.length ∧ 0 < r.txCredits.stream
        (∀ x rest, r.qStream = x :: rest ∧ 0 < r.txCredits.stream ∧ (r.streamRun < 16 ∨ ¬(completion ∨ request)) →
          go = .next (finish (s.setPort p { r with
            qStream := rest, wire := some (.stream x), streamRun := if completion ∨ request then r.streamRun + 1 else 0
            txCredits := { r.txCredits with stream := r.txCredits.stream - 1 } }))) ∧
        (∀ y rest, r.qCompletion = y :: rest ∧ 0 < r.txCredits.completion ∧ (¬stream ∨ 16 ≤ r.streamRun) →
          go = .next (finish (s.setPort p { r with
            qCompletion := rest, wire := some (.completion y), streamRun := 0
            txCredits := { r.txCredits with completion := r.txCredits.completion - 1 } }))) ∧
        (∀ x rest, r.qRequest = x :: rest ∧ 0 < r.txCredits.request ∧ ¬completion ∧ (¬stream ∨ 16 ≤ r.streamRun) →
          go = .next (finish (s.setPort p { r with
            qRequest := rest, wire := some (.request x), streamRun := 0
            txCredits := { r.txCredits with request := r.txCredits.request - 1 } }))) ∧
        (¬stream ∧ ¬completion ∧ ¬request → go = .next (finish s)))) ∧
    (∀ n rest b pre e post, r.state = .loopback ∧ r.loopForm = .near ∧ r.qTiming = .echo n :: rest ∧ r.burst = some b ∧
        b.echoes = pre ++ e :: post ∧ (∀ y ∈ pre ++ post, y.number ≠ n) ∧ e.number = n ∧ e.t1 = none →
      go = .next (finish (s.setPort p { r with
        qTiming := rest, looped := r.looped ++ [.echo n]
        burst := some { b with echoes := pre ++ { e with t1 := some now } :: post } })))

/-- R11, R19, R22, R23: the port commands of a manager, each answered OK. Start Burst starts a burst in UP and in
LOOPBACK NEAR and FAR; Retrain, in PAIRING, MEASURE and UP, tears the link down for TRAINING; NEAR enters LOOPBACK from
any other state; FAR, in PAIRING, MEASURE and UP, queues a HELLO with Loop Request; OFF, and the end of the silence
after OFF in FAR, leave LOOPBACK for TRAINING, or ABSENT without a cable. Each does nothing in the states that do not
take it. That the burst and the timing queue end with LOOPBACK is the model's choice (log entry 9), as are what an entry
to ABSENT from there keeps (log entry 36), and that an OFF in FAR drops both at once and that one in the silence after it
changes nothing (log entry 55). -/
def Obligations.PortCommandsAct : Prop :=
  ∀ (p : PortId) (who : Requester) (s : State), s.obeys who = true → let r := s.port p
    let linked := r.state = .pairing ∨ r.state = .measure ∨ r.state = .up
    let looping := r.state = .loopback ∧ (r.loopForm = .near ∨ r.loopForm = .far)
    let left := { r.released with burst := none, qTiming := [], looped := [] }
    let unlooped := if r.cableSense = true then { left with state := PortState.training, trainRate := r.newTrainRate }
      else { left with state := .absent }
    let retrained := s.wrote.leaving p { r.tornDown with
      state := .training, trainRate := r.newTrainRate
      counters := { r.tornDown.counters with retrains := bump r.counters.retrains } }
    let near := s.wrote.leaving p { (if linked then r.tornDown else r.released) with state := .loopback, loopForm := .near }
    ((r.state = .up ∨ looping) ∧ r.burst = none ∧ r.qTiming.length < 8 ∧ s.accepts who.frame = true →
      ∃ t, exec (.startBurst who p) s = .next t ∧
        Answered who .ok (s.wrote.setPort p (r.offeredEcho [] s.localTime)) t) ∧
    (¬(r.state = .up ∨ looping) ∨ r.burst ≠ none → s.accepts who.frame = true →
      ∃ t, exec (.startBurst who p) s = .next t ∧ Answered who .ok s.wrote t) ∧
    (linked ∧ retrained.accepts who.frame = true →
      ∃ t, exec (.retrain who p) s = .next (finish t) ∧ Answered who .ok retrained t) ∧
    (¬linked ∧ s.accepts who.frame = true →
      ∃ t, exec (.retrain who p) s = .next (finish t) ∧ Answered who .ok s.wrote t) ∧
    (r.state ≠ .loopback ∧ near.accepts who.frame = true →
      ∃ t, exec (.loopbackNear who p) s = .next (finish t) ∧ Answered who .ok near t) ∧
    (r.state = .loopback ∧ s.accepts who.frame = true →
      ∃ t, exec (.loopbackNear who p) s = .next (finish t) ∧ Answered who .ok s.wrote t) ∧
    (linked ∧ s.accepts who.frame = true →
      ∃ t, exec (.loopbackFar who p) s = .next t ∧
        Answered who .ok (sendHello (s.wrote.setPort p { r with loopPending := true }) p) t) ∧
    (¬linked ∧ s.accepts who.frame = true →
      ∃ t, exec (.loopbackFar who p) s = .next t ∧ Answered who .ok s.wrote t) ∧
    (r.state = .loopback ∧ (r.loopForm = .near ∨ (r.loopForm = .farServed ∧ r.cableSense = true)) ∧
        s.accepts who.frame = true →
      ∃ t, exec (.loopbackOff who p) s = .next t ∧ Answered who .ok (s.wrote.setPort p unlooped) t) ∧
    (r.state = .loopback ∧ r.loopForm = .far ∧ s.accepts who.frame = true →
      ∃ t, exec (.loopbackOff who p) s = .next t ∧
        Answered who .ok (s.wrote.setPort p { r with
          loopForm := .none, burst := none, qTiming := [], silenceEnd := some (s.localTime + 125000) }) t) ∧
    ((r.state ≠ .loopback ∨ r.loopForm = .none) ∧ s.accepts who.frame = true →
      ∃ t, exec (.loopbackOff who p) s = .next t ∧ Answered who .ok s.wrote t) ∧
    (r.state = .loopback ∧ r.silenceEnd.isSome →
      exec (.loopbackSilenceEnd p) s = .next (s.setPort p unlooped))

/-- R20: a Rate Request that repeats the present value changes nothing; one that differs is answered OK, sends a
HELLO in PAIRING, MEASURE and UP, and in UP, where the rate can change, sets the retrain pending until that HELLO
departs; a value that is neither BASE nor FAST is refused. That the retrain lapses with a HELLO dropped at a full queue
(log entry 7), and that a write back takes it back (log entry 38), are the model's choices. -/
def Obligations.RateRequestIsWritten : Prop :=
  ∀ (p : PortId) (who : Requester) (s : State), s.obeys who = true → s.accepts who.frame = true → let r := s.port p
    (∃ t, exec (.rateRequestWrite who p (if r.rateRequest = .fast then 1 else 0)) s = .next t ∧
      Answered who .ok s.wrote t) ∧
    (r.rateRequest = .base → ∃ t, exec (.rateRequestWrite who p 1) s = .next t ∧
      Answered who .ok (sendHello (s.wrote.setPort p { r with
        rateRequest := .fast
        retrainPending := decide (r.state = .up ∧ r.rate = .base ∧ r.peerFast = true) }) p) t) ∧
    (r.rateRequest = .fast → ∃ t, exec (.rateRequestWrite who p 0) s = .next t ∧
      Answered who .ok (sendHello (s.wrote.setPort p { r with
        rateRequest := .base, retrainPending := decide (r.state = .up ∧ r.rate = .fast) }) p) t) ∧
    (∀ v, 1 < v → ∃ t, exec (.rateRequestWrite who p v) s = .next t ∧ Answered who .badRequest s.wrote t)

/-! ## Rack time and the rack tree (chapters 2 and 3) -/

/-- R11, R21, R27 to R29, R43, R52, R56, R57, R59, R69, R74, R131: at the boundary instant a Pending Load replaces Rack Time,
or a Pending Step is added to it; Epoch Number is the integer part divided by 2^17; Bad This Epoch and every channel's
Chunks This Epoch become 0, Mark Records, Retrain Histories and Seen Lists age, and the burst counts of ports with no burst
rise. An unrooted controller takes its best candidate, of the fewest hops and of equals port 0, and a Rootward Port whose
record comes to Age 3 is lost to the other port or to none. Mark Gap rises in ACQUIRE and TRACK, and at 3, as with a lost
Rootward Port, the timebase leaves them; Holdover Epochs rises in HOLDOVER, and past its limit the timebase is FREE.
Triggers that a step or load passes over fire late. Boundary Passed is set in EXTRACTING, and a drain that had only that to
wait for is complete. That the Seen Lists age within this command is the model's choice (log entry 6). -/
def Obligations.BoundaryAppliesLoadOrStep : Prop :=
  ∀ s : State, s.routed → s.rtu.rackTime.toNat / 2 ^ 49 ≠ s.rtu.epoch → ∃ t, exec .epochBoundary s = .next t ∧
    t.rtu.epoch = t.rtu.rackTime.toNat / 2 ^ 49 ∧ t.rtu.pendingLoad = none ∧ t.port0.badThisEpoch = 0 ∧
    t.port1.badThisEpoch = 0 ∧ (∀ c, (t.channel c).chunksThisEpoch = 0) ∧
    (∀ p, t.topo.mark p = (s.topo.mark p).map (fun m => { m with age := if m.age < 3 then m.age + 1 else m.age })) ∧
    (∀ p, let r := s.port p
      (t.port p).retrainHistory = (r.retrainHistory.map (· + 1)).filter (fun a => a < 1024) ∧
      (t.port p).burstCount =
        if (r.state = .measure ∨ r.state = .up) ∧ r.burst = none then bump r.burstCount else r.burstCount) ∧
    (tsorted s.trig.seen = true →
      ∀ l, t.seen l = ((s.seen l).filter (fun e => e.age ≠ 1)).map (fun e => ⟨e.origin, e.seq, 1⟩)) ∧
    (∀ v, s.rtu.pendingLoad = some v →
      t.rtu.rackTime = BitVec.ofNat 88 (v * 2 ^ 32) ∧ t.rtu.loads = bump s.rtu.loads ∧ t.rtu.steps = s.rtu.steps) ∧
    (∀ a, s.rtu.pendingLoad = none ∧ s.rtu.pendingStep = some a →
      t.rtu.rackTime = s.rtu.rackTime + BitVec.ofInt 88 (a * 2 ^ 28) ∧ t.rtu.pendingStep = none ∧ t.rtu.slew = none ∧
      t.rtu.steps = bump s.rtu.steps ∧ (t.event 11).pending = true) ∧
    (s.rtu.pendingLoad = none ∧ s.rtu.pendingStep = none →
      t.rtu.rackTime = s.rtu.rackTime ∧ t.rtu.loads = s.rtu.loads ∧ t.rtu.steps = s.rtu.steps) ∧
    (let cand := fun p => (s.port p).state = .up ∧ (∀ q, (s.port p).peer = some q → q.rootward = false) ∧
        ∃ m, s.topo.mark p = some m ∧ m.age < 2
      let hops := fun p => ((s.topo.mark p).map (·.hops)).getD 0
      let chosen := fun p => t.topo.rootward = some p ∧ t.topo.hops = some (hops p + 1) ∧
        t.topo.rootwardChanges = bump s.topo.rootwardChanges ∧ (t.event EventKind.rootChanged.code).pending = true
      let lost := ∃ p m, s.topo.rootward = some p ∧ s.topo.mark p = some m ∧ 2 ≤ m.age
      let r := s.rtu
      (s.topo.root = false ∧ s.topo.rootward = none → (∀ p, cand p →
          (cand p.other → hops p < hops p.other ∨ (hops p = hops p.other ∧ p = .p0)) → chosen p) ∧
        ((∀ p, ¬cand p) → t.topo.rootward = none ∧ t.topo.rootwardChanges = s.topo.rootwardChanges)) ∧
      (s.topo.root = true ∧ s.topo.rootward = none → t.topo.rootward = none) ∧
      (s.topo.rootward ≠ none ∧ ¬lost →
        t.topo.rootward = s.topo.rootward ∧ t.topo.rootwardChanges = s.topo.rootwardChanges) ∧
      (∀ p, s.topo.rootward = some p ∧ lost → (cand p.other → chosen p.other) ∧ (¬cand p.other →
        t.topo.rootward = none ∧ t.topo.hops = none ∧ t.topo.rootwardChanges = bump s.topo.rootwardChanges ∧
        (t.event EventKind.rootChanged.code).pending = true)) ∧
      ((r.state = .acquire ∨ r.state = .track) ∧ r.markGap < 2 ∧ ¬lost →
        t.rtu.state = r.state ∧ t.rtu.markGap = r.markGap + 1 ∧ t.rtu.trim = r.trim) ∧
      (r.state = .track ∧ (2 ≤ r.markGap ∨ lost) → t.rtu.state = .holdover ∧ t.rtu.slew = none ∧
        t.rtu.markGap = 0 ∧ t.rtu.holdoverEpochs = 0 ∧ t.rtu.wideCount = 0 ∧ t.rtu.outlierCount = 0 ∧
        t.rtu.trim = (if r.trimHistory = [] then r.trim else divAway r.trimHistory.sum r.trimHistory.length) ∧
        (t.event EventKind.holdover.code).pending = true) ∧
      (r.state = .acquire ∧ (2 ≤ r.markGap ∨ lost) → t.rtu.state = .free ∧ t.rtu.slew = none ∧
        t.rtu.pendingStep = none ∧ t.rtu.markGap = 0 ∧ t.rtu.lockCount = 0 ∧ t.rtu.trim = r.trim) ∧
      (r.state = .holdover → t.rtu.holdoverEpochs = r.holdoverEpochs + 1 ∧ t.rtu.trim = r.trim ∧
        (r.holdoverEpochs + 1 ≤ r.holdoverLimit → t.rtu.state = .holdover) ∧
        (r.holdoverLimit < r.holdoverEpochs + 1 →
          t.rtu.state = .free ∧ (t.event EventKind.freeRun.code).pending = true)) ∧
      (r.state = .free ∨ r.state = .reference →
        t.rtu.state = r.state ∧ t.rtu.markGap = r.markGap ∧ t.rtu.holdoverEpochs = r.holdoverEpochs)) ∧
    (let now := t.rtu.rackTime.toNat / 2 ^ 32
      let past := s.trig.queue.filter (fun e => !inFuture e.fire now)
      (s.rtu.pendingLoad ≠ none ∨ s.rtu.pendingStep ≠ none →
        t.trig.queue = s.trig.queue.filter (fun e => inFuture e.fire now) ∧
        t.sideband = s.sideband ++ past.flatMap (fun e => ((List.range 16).filter (fun i =>
          (s.trigEntry e.line).outputs.getLsbD i && (s.slot i).state == .admitted)).map (fun i => (i, e.line))) ∧
        (past ≠ [] → t.trig.lateFires = min (s.trig.lateFires + past.length) 4294967295 ∧
          t.trig.fired = min (s.trig.fired + past.length) 4294967295 ∧
          (t.event EventKind.triggerLate.code).pending = true ∧
          (t.event EventKind.triggerLate.code).count =
            min ((s.event EventKind.triggerLate.code).count + past.length) 255)) ∧
      ((s.rtu.pendingLoad = none ∧ s.rtu.pendingStep = none) ∨ past = [] →
        t.trig.queue = s.trig.queue ∧ t.sideband = s.sideband ∧ t.trig.lateFires = s.trig.lateFires ∧
        t.trig.fired = s.trig.fired)) ∧
    (∀ (i : Fin 16) d, (s.slot i).state = .extracting → (s.slot i).drain = some d →
      let met := (∀ x ∈ s.trans.inbound, x.2.slot ≠ i.val) ∧ (s.lock i).holder = none ∧
        (∀ x ∈ s.trans.ott, x.2.id ≠ i.val) ∧ (s.slot i).waiting = []
      (met → (t.slot i).state = .quiesced ∧ (t.slot i).drain = none ∧ (t.slot i).lastCause = .drainComplete ∧
        (t.event EventKind.slotQuiesced.code).pending = true) ∧
      (¬met → (t.slot i).state = .extracting ∧ ∃ d1, (t.slot i).drain = some d1 ∧ d1.boundaryPassed = true))

/-- R45: at a boundary the root offers a MARK to the timing queue of each UP port that has room: it stands there behind
what already waited. That it goes ahead of the echo of a burst due at the same boundary is the model's choice (log entry
16). -/
def Obligations.RootOffersMarks : Prop :=
  ∀ (p : PortId) (s : State), s.routed → s.topo.root = true → (s.port p).state = .up → (s.port p).qTiming.length < 8 →
    ∃ t q more, exec .epochBoundary s = .next t ∧ (t.port p).qTiming = q ++ TimingItem.rootMark :: more ∧
      q = (if s.rtu.pendingLoad ≠ none ∨ s.rtu.pendingStep ≠ none then (s.port p).qTiming.map TimingItem.span
        else (s.port p).qTiming)

/-- R29, R42, R56, R57, R69: what the limits that time brings do: Seen Lists age, a stale Rootward Port is lost to
the best candidate with ROOT_CHANGED, three missing marks end TRACK or ACQUIRE, Holdover Epochs past the limit
free the timebase, and a Slew that has run out leaves the Correction at Trim. That a row of its own ages the lists, and
only where no boundary event has just done so, is the model's choice (log entry 6). -/
def Obligations.TimeLimitsAct : Prop :=
  ∀ s : State,
    (s.trig.seenAged = false ∧ tsorted s.trig.seen = true → ∃ t, exec .seenListAgeOut s = .next t ∧
      t = { s with trig := { s.trig with seen := t.trig.seen } } ∧
      ∀ l, t.seen l = ((s.seen l).filter (fun e => e.age ≠ 1)).map (fun e => ⟨e.origin, e.seq, 1⟩)) ∧
    (∀ p m, s.topo.rootward = some p ∧ s.topo.mark p = some m ∧ 3 ≤ m.age → ∃ t, exec .rootwardStale s = .next t ∧
      t.topo.rootward = s.bestCandidate (some p) ∧ t.topo.rootward ≠ some p ∧
      (∀ m1, (s.port p.other).state = .up ∧ (∀ q, (s.port p.other).peer = some q → q.rootward = false) ∧
          s.topo.mark p.other = some m1 ∧ m1.age < 3 →
        t.topo.rootward = some p.other ∧ t.topo.hops = some (m1.hops + 1)) ∧
      ((s.port p.other).state ≠ .up ∨ (∃ q, (s.port p.other).peer = some q ∧ q.rootward = true) ∨
          (∀ m1, s.topo.mark p.other = some m1 → 3 ≤ m1.age) → t.topo.rootward = none) ∧
      t.topo.rootwardChanges = bump s.topo.rootwardChanges ∧ t.topo.frameNumber = s.topo.frameNumber ∧
      (t.topo.rootward = none → t.topo.hops = none) ∧ (t.event 5).pending = true ∧
      (s.rtu.state = .track → t.rtu.state = .holdover) ∧ (s.rtu.state = .acquire → t.rtu.state = .free)) ∧
    (s.rtu.state = .track ∧ 3 ≤ s.rtu.markGap → exec .markGapLoss s = .next (raise .holdover { s with
      rtu := { s.rtu with
        state := .holdover, slew := none, holdoverEpochs := 0, markGap := 0, wideCount := 0, outlierCount := 0
        trim := if s.rtu.trimHistory = [] then s.rtu.trim else divAway s.rtu.trimHistory.sum s.rtu.trimHistory.length } })) ∧
    (s.rtu.state = .acquire ∧ 3 ≤ s.rtu.markGap → exec .markGapLoss s = .next { s with
      rtu := { s.rtu with state := .free, slew := none, pendingStep := none, lockCount := 0, markGap := 0 } }) ∧
    (s.rtu.state = .holdover ∧ s.rtu.holdoverLimit < s.rtu.holdoverEpochs →
      exec .holdoverLimit s = .next (raise .freeRun { s with rtu := { s.rtu with state := .free } })) ∧
    (∃ t, exec .slewEnd s = .next t ∧ t = { s with rtu := { s.rtu with slew := none } } ∧
      (s.rtu.state = .reference → t.rtu.correction = s.rtu.rootTrim) ∧
      (s.rtu.state ≠ .reference → t.rtu.correction = s.rtu.trim))

/-- R26: the classes of a mark that is not the rootward one: overrange, alternate at the root and on another port,
and child; only an alternate mark is recorded, and none is forwarded. That every hop count from 31 up to the field's
255 is overrange is the model's choice (log entry 26). -/
def Obligations.OtherMarksGoNoFurther : Prop :=
  ∀ (p : PortId) (m : Mark) (s : State), (s.port p).state = .up →
    (31 ≤ m.hops → exec (.markReceived p m) s = .next
      { s with topo := { s.topo with overrangeMarks := bump s.topo.overrangeMarks } }) ∧
    (m.hops < 31 ∧ (s.topo.root = true ∨ (s.topo.rootward ≠ some p ∧ s.isChild p = false)) →
      exec (.markReceived p m) s = .next { s with
        topo := { s.topo.setMark p (some ⟨m.hops, s.rtu.epoch, 0⟩) with alternateMarks := bump s.topo.alternateMarks } }) ∧
    (m.hops < 31 ∧ s.topo.root = false ∧ s.topo.rootward ≠ some p ∧ s.isChild p = true →
      exec (.markReceived p m) s = .next { s with topo := { s.topo with childMarks := bump s.topo.childMarks } })

/-- R26, R46, R47, R50 to R55, R57: a rootward mark is recorded, sets Hops to Root and is forwarded out of the other UP
port with one hop more and the Delay of the port it came in on. One that is saturated, or comes where no Delay is valid,
counts in Marks Unusable and changes nothing else of the timebase. A servo update moves Trim by its offset over 2^gi (in
units of 2^-11 of a sixteenth) and starts a Slew of its offset over 2^gp for 131,072 cycles, both rounded half away from
zero; Trim and Correction are clamped, each clamp is counted, and that of Trim raises TRIM_LIMIT. In FREE and HOLDOVER a usable mark enters ACQUIRE, and there a
far one sets a Pending Step or, under NEVER, drives the servo with the threshold's value; Lock Count follows the Lock
Window, and its eighth enters TRACK with LOCKED. In TRACK a mark within the window clears Wide Count, the sixteenth wide
one and the fourth outlier in a row return to ACQUIRE with UNLOCKED, and an outlier drives no update. That a mark with
31 hops is not used is the model's choice (log entry 26), as is that a mark beyond the threshold and within a wider Lock
Window is an outlier (log entry 47). -/
def Obligations.RootwardMarkDrivesTheServo : Prop :=
  (∀ (x : Int) (d : Nat), 0 < d → let q := divAway x d
    (0 ≤ x → 2 * d * q ≤ 2 * x + d ∧ 2 * x + d < 2 * d * (q + 1)) ∧
    (x < 0 → 2 * d * (q - 1) < 2 * x - d ∧ 2 * x - d ≤ 2 * d * q)) ∧
  ∀ (p : PortId) (m : Mark) (s : State), let r := s.rtu
    (s.port p).state = .up → s.topo.root = false → s.topo.rootward = some p → m.hops < 31 →
    let usable := m.correction < 2 ^ 32 - 1 ∧ (s.port p).delayValid = true
    let now := r.rackTime.toNat / 2 ^ 28
    let θ := (BitVec.ofNat 60 now - BitVec.ofNat 60 (m.origin + m.correction + (s.port p).delay)).toInt
    let near := θ.natAbs ≤ r.st * 16
    let inWindow := θ.natAbs ≤ r.lw
    let taken := fun t : State => t.rtu.lastOffset = some θ ∧ t.rtu.lastMarkEpoch = m.epoch ∧ t.rtu.markGap = 0 ∧
      t.rtu.rackTime = r.rackTime ∧ t.rtu.epoch = r.epoch ∧ t.rtu.rootTrim = r.rootTrim
    let updated := fun (x : Int) (t : State) =>
      let raw := r.trim - divAway (x * 2048) (2 ^ r.gi)
      let corr := t.rtu.trim - divAway x (2 ^ r.gp) * 2048
      t.rtu.trim = max (-1048576) (min 1048576 raw) ∧ t.rtu.correction = max (-4194304) (min 4194304 corr) ∧
      t.rtu.trimClamps = (if raw < -1048576 ∨ 1048576 < raw then bump r.trimClamps else r.trimClamps) ∧
      (raw < -1048576 ∨ 1048576 < raw → (t.event EventKind.trimLimit.code).pending = true) ∧
      t.rtu.correctionClamps =
        (if corr < -4194304 ∨ 4194304 < corr then bump r.correctionClamps else r.correctionClamps) ∧
      t.rtu.slew = some ⟨divAway x (2 ^ r.gp), 131072⟩ ∧ t.rtu.marksUsed = bump r.marksUsed ∧
      t.rtu.trimHistory = (if 16 ≤ r.trimHistory.length then r.trimHistory.drop 1 else r.trimHistory) ++ [t.rtu.trim]
    let notUsed := fun t : State => t.rtu.trim = r.trim ∧ t.rtu.slew = r.slew ∧ t.rtu.trimHistory = r.trimHistory ∧
      t.rtu.marksUsed = r.marksUsed
    let count := if r.state = .acquire then r.lockCount else 0
    (usable → r.state = .track → near → inWindow →
      ∃ t, exec (.markReceived p m) s = .next t ∧
        t.topo = { s.topo.setMark p (some ⟨m.hops, r.epoch, 0⟩) with hops := some (m.hops + 1) } ∧ taken t ∧
        updated θ t ∧ t.rtu.wideCount = 0 ∧ t.rtu.outlierCount = 0 ∧ t.rtu.state = .track ∧
        (s.isUp p.other = true ∧ (s.port p.other).qTiming.length < 8 → (t.port p.other).qTiming =
          (s.port p.other).qTiming ++ [.fwdMark p now { m with hops := m.hops + 1 } (some (s.port p).delay) false]) ∧
        (s.isUp p.other = false → t.port p.other = s.port p.other) ∧ t.port p = s.port p ∧
        t.pool = s.pool ∧ t.trans = s.trans ∧ t.slots = s.slots ∧ t.router = s.router ∧ t.trig = s.trig) ∧
    (¬usable → ∃ t, exec (.markReceived p m) s = .next t ∧
      t.rtu = { r with marksUnusable := bump r.marksUnusable } ∧
      t.topo = { s.topo.setMark p (some ⟨m.hops, r.epoch, 0⟩) with hops := some (m.hops + 1) } ∧
      (s.isUp p.other = true ∧ (s.port p.other).qTiming.length < 8 → (t.port p.other).qTiming =
        (s.port p.other).qTiming ++ [.fwdMark p now { m with hops := m.hops + 1 }
          (if (s.port p).delayValid = true then some (s.port p).delay else none) false]) ∧
      t.mgmt = s.mgmt ∧ t.port p = s.port p ∧ t.trans = s.trans ∧ t.slots = s.slots) ∧
    (usable → r.state = .free ∨ r.state = .holdover ∨ r.state = .acquire →
      ∃ t, exec (.markReceived p m) s = .next t ∧ taken t ∧
        (r.state ≠ .acquire → t.rtu.holdoverEpochs = 0 ∧ t.rtu.wideCount = 0 ∧ t.rtu.outlierCount = 0) ∧
        (¬near ∧ r.stepAllowed = true → notUsed t ∧ t.rtu.state = .acquire ∧ t.rtu.pendingStep = some (-θ) ∧
          (¬inWindow → t.rtu.lockCount = 0)) ∧
        (¬near ∧ r.stepAllowed = false → updated (if 0 ≤ θ then r.st * 16 else -(r.st * 16)) t ∧
          (¬inWindow → t.rtu.state = .acquire ∧ t.rtu.lockCount = 0)) ∧
        (near → updated θ t ∧ (r.stepAllowed = true → t.rtu.pendingStep = none) ∧
          (¬inWindow → t.rtu.state = .acquire ∧ t.rtu.lockCount = 0) ∧
          (inWindow ∧ count + 1 < 8 → t.rtu.state = .acquire ∧ t.rtu.lockCount = count + 1) ∧
          (inWindow ∧ 8 ≤ count + 1 → t.rtu.state = .track ∧ t.rtu.lockCount = 0 ∧ t.rtu.wideCount = 0 ∧
            t.rtu.outlierCount = 0 ∧ (t.event EventKind.locked.code).pending = true))) ∧
    (usable → r.state = .track →
      ∃ t, exec (.markReceived p m) s = .next t ∧ taken t ∧
        (near ∧ ¬inWindow → updated θ t ∧ t.rtu.outlierCount = 0 ∧
          (r.wideCount + 1 < 16 → t.rtu.state = .track ∧ t.rtu.wideCount = r.wideCount + 1) ∧
          (16 ≤ r.wideCount + 1 → t.rtu.state = .acquire ∧ t.rtu.lockCount = 0 ∧ t.rtu.wideCount = 0 ∧
            (t.event EventKind.unlocked.code).pending = true)) ∧
        (¬near → notUsed t ∧ t.rtu.outliers = bump r.outliers ∧
          (r.outlierCount + 1 < 4 → t.rtu.state = .track ∧ t.rtu.outlierCount = r.outlierCount + 1 ∧
            t.rtu.lockCount = r.lockCount ∧ t.rtu.wideCount = r.wideCount) ∧
          (4 ≤ r.outlierCount + 1 → t.rtu.state = .acquire ∧ t.rtu.lockCount = 0 ∧ t.rtu.wideCount = 0 ∧
            t.rtu.outlierCount = 0 ∧ (t.event EventKind.unlocked.code).pending = true)))

/-- R35: an ANNOUNCE on a tree port for another frame writes its entry, purging other entries of its unit, and goes
on, one hop further, over the other UP tree port, with 31 hops no further; a withdrawal purges its unit's entries but for this frame's own; one
for this frame's own number is counted, in Number Clashes where another unit sends it; and one on a port that is not a
tree port, or with a frame or hop out of range, is counted in Announces Refused and nothing else. -/
def Obligations.AnnouncesTeachTheDirectory : Prop :=
  ∀ (p : PortId) (a : Announce) (s : State), (s.port p).state = .up →
    (s.isTree p = true ∧ 1 ≤ a.hop ∧ a.hop ≤ 31 ∧ a.frame ≤ 31 ∧ s.topo.frameNumber ≠ some a.frame →
      ∃ t, exec (.announceReceived p a) s = .next t ∧
        tfind t.topo.directory a.frame = some ⟨.port p, a.hop, a.uid⟩ ∧
        (∀ e ∈ t.topo.directory, e.1 ≠ a.frame → e.2.uid ≠ a.uid) ∧
        (∀ f, f ≠ a.frame → (∀ e, tfind s.topo.directory f = some e → e.uid ≠ a.uid) →
          tfind t.topo.directory f = tfind s.topo.directory f) ∧
        t.topo.announcesReceived = bump s.topo.announcesReceived ∧ t.port p = s.port p ∧
        (s.isTree p.other = true ∧ s.isUp p.other = true ∧ a.hop < 31 ∧ (s.port p.other).qLink.length < 32 →
          t.port p.other = { s.port p.other with
            qLink := (s.port p.other).qLink ++ [.announce ⟨a.frame, a.hop + 1, a.uid⟩] }) ∧
        (s.isTree p.other = false ∨ s.isUp p.other = false ∨ a.hop = 31 → t.port p.other = s.port p.other)) ∧
    (s.isTree p = true ∧ 1 ≤ a.hop ∧ a.hop ≤ 31 ∧ a.frame = 63 →
      ∃ t, exec (.announceReceived p a) s = .next t ∧ t.topo = { s.topo with
          announcesReceived := bump s.topo.announcesReceived
          directory := s.topo.directory.filter (fun e => e.2.via = .here ∨ e.2.uid ≠ a.uid) } ∧ t.port p = s.port p ∧
        (s.isTree p.other = true ∧ s.isUp p.other = true ∧ a.hop < 31 ∧ (s.port p.other).qLink.length < 32 →
          t.port p.other = { s.port p.other with
            qLink := (s.port p.other).qLink ++ [.announce ⟨63, a.hop + 1, a.uid⟩] }) ∧
        (s.isTree p.other = false ∨ s.isUp p.other = false ∨ a.hop = 31 → t.port p.other = s.port p.other)) ∧
    (s.isTree p = true ∧ 1 ≤ a.hop ∧ a.hop ≤ 31 ∧ a.frame ≤ 31 ∧ s.topo.frameNumber = some a.frame →
      exec (.announceReceived p a) s = .next { s with topo := { s.topo with
        announcesReceived := bump s.topo.announcesReceived
        numberClashes := if a.uid = s.unitId then s.topo.numberClashes else bump s.topo.numberClashes } }) ∧
    (s.isTree p = false ∨ a.hop = 0 ∨ 31 < a.hop ∨ (31 < a.frame ∧ a.frame ≠ 63) →
      exec (.announceReceived p a) s = .next
        { s with topo := { s.topo with announcesRefused := bump s.topo.announcesRefused } })

/-- R58, R59, R61, R175: the manager's writes of Root Trim, of a Rack Time Load and of the timebase settings: in
range (and, for the first two, at the root) the field takes the value and the answer is OK; else BAD_REQUEST. -/
def Obligations.TimebaseWrites : Prop :=
  ∀ (who : Requester) (s : State), s.obeys who = true → s.accepts who.frame = true →
    (∀ v : Int, ∃ t, exec (.rootTrimWrite who v) s = .next t ∧
      if s.topo.root = true ∧ -1048576 ≤ v ∧ v ≤ 1048576
      then Answered who .ok { s.wrote with rtu := { s.rtu with rootTrim := v } } t
      else Answered who .badRequest s.wrote t) ∧
    (∀ v : Nat, v < 2 ^ 56 → ∃ t, exec (.rackTimeLoad who v) s = .next t ∧
      if s.topo.root = true then Answered who .ok { s.wrote with rtu := { s.rtu with pendingLoad := some v } } t
      else Answered who .badRequest s.wrote t) ∧
    (∀ w : TimebaseSettings, ∃ t, exec (.timebaseSettingsWrite who w) s = .next t ∧
      if w.gi ≤ 15 ∧ w.gp ≤ 7 ∧ 1 ≤ w.st ∧ w.st ≤ 65535 ∧ 1 ≤ w.lw ∧ w.lw ≤ 4095 ∧ w.stepPolicy ≤ 1 ∧
        1 ≤ w.holdoverLimit ∧ w.holdoverLimit ≤ 65535 ∧ w.delayMode ≤ 1
      then Answered who .ok { s.wrote with rtu := { s.rtu with
        gi := w.gi, gp := w.gp, st := w.st, lw := w.lw, stepAllowed := decide (w.stepPolicy = 0)
        holdoverLimit := w.holdoverLimit, delayRepeat := decide (w.delayMode = 1) } } t
      else Answered who .badRequest s.wrote t)

/-! ## Trigger lines (chapter 4) -/

/-- R66, R67, R68: an edge of an ADMITTED slot of an enabled line's Source Set is stamped and counted in Originated,
takes the line's Origin Sequence and enters the Seen List; in a timed timebase a TRIGGER for Rack Time plus the
Budget goes out of each UP tree port, and in an untimed one an untimed TRIGGER. Any other edge is ignored. -/
def Obligations.EdgesOriginateTriggers : Prop :=
  ∀ (i : Fin 16) (l : Fin 8) (s : State), let e := s.trigEntry l; let timed := s.rtu.state.timed
    (s.slot i).lane ≠ .dormant →
    (e.enabled = true ∧ e.sources.getLsbD i = true ∧ (s.slot i).state = .admitted →
      ∃ t, exec (.triggerEdge i l) s = .next t ∧
        t.trig.edgesStamped = bump s.trig.edgesStamped ∧ t.trig.originated = bump s.trig.originated ∧
        t.originSeq l = (s.originSeq l + 1) % 256 ∧
        t.seen l = ⟨s.frameCode, s.originSeq l, 0⟩ :: (s.seen l).take 3 ∧
        (∀ p, s.isTree p = true → s.isUp p = true → (s.port p).qTiming.length < 8 →
          (t.port p).qTiming = (s.port p).qTiming ++ [.trigger ⟨s.frameCode, l, s.originSeq l, !timed,
            if timed = true then (s.rtu.rackTime.toNat / 2 ^ 32 + e.budget) % 2 ^ 56
            else s.rtu.rackTime.toNat / 2 ^ 32⟩]) ∧
        (e.outputs = 0 → t.trig.queue = s.trig.queue ∧ t.trig.fired = s.trig.fired) ∧
        (timed = false ∧ e.outputs ≠ 0 → t.trig.fired = bump s.trig.fired ∧ t.trig.queue = s.trig.queue) ∧
        t.rtu = s.rtu ∧ t.topo = s.topo ∧ t.pool = s.pool ∧ t.slots = s.slots ∧ t.trans = s.trans) ∧
    (e.enabled = false ∨ e.sources.getLsbD i = false ∨ (s.slot i).state ≠ .admitted →
      exec (.triggerEdge i l) s = .next { s with trig := { s.trig with edgesIgnored := bump s.trig.edgesIgnored } })

/-- R69, R70, R71: a TRIGGER on a tree port that no Seen List entry matches enters the Seen List and goes out of the
other UP tree port. With nothing to do here it is Passed Through; an untimed one, or any in an untimed timebase, fires
its line at once; of the others one whose fire time has come fires late, and one whose time lies ahead is queued, here
in an empty queue. One in the Seen List is a Duplicate, one from a
port off the tree Non-Tree, and one of this frame Looped, and each goes no further. -/
def Obligations.TriggersAreFlooded : Prop :=
  ∀ (p : PortId) (x : Trigger) (s : State), (s.port p).state = .up → x.line ≤ 7 →
    (s.topo.frameNumber ≠ some x.origin ∧ s.isTree p = true ∧
        (∀ e ∈ s.seen x.line, ¬(e.origin = x.origin ∧ e.seq = x.seq)) →
      ∃ t, exec (.triggerReceived p x) s = .next t ∧
        t.trig.received = bump s.trig.received ∧ t.seen x.line = ⟨x.origin, x.seq, 0⟩ :: (s.seen x.line).take 3 ∧
        t.port p = s.port p ∧
        (s.isTree p.other = true ∧ s.isUp p.other = true ∧ (s.port p.other).qTiming.length < 8 →
          (t.port p.other).qTiming = (s.port p.other).qTiming ++ [.trigger x]) ∧
        ((s.trigEntry x.line).enabled = false ∨ (s.trigEntry x.line).outputs = 0 →
          t.trig.passedThrough = bump s.trig.passedThrough ∧ t.trig.queue = s.trig.queue ∧ t.sideband = s.sideband) ∧
        ((s.trigEntry x.line).enabled = true ∧ (s.trigEntry x.line).outputs ≠ 0 →
          let fired := s.sideband ++ ((List.range 16).filter (fun i =>
            (s.trigEntry x.line).outputs.getLsbD i && (s.slot i).state == .admitted)).map (fun i => (i, x.line))
          (x.untimed = true ∨ s.rtu.state.timed = false →
            t.sideband = fired ∧ t.trig.fired = bump s.trig.fired ∧ t.trig.untimedFires = bump s.trig.untimedFires ∧
            t.trig.queue = s.trig.queue) ∧
          (x.untimed = false ∧ s.rtu.state.timed = true ∧ inFuture x.fire (s.rtu.rackTime.toNat / 2 ^ 32) = false →
            t.sideband = fired ∧ t.trig.fired = bump s.trig.fired ∧ t.trig.lateFires = bump s.trig.lateFires ∧
            (t.event EventKind.triggerLate.code).pending = true ∧ t.trig.queue = s.trig.queue) ∧
          (x.untimed = false ∧ s.rtu.state.timed = true ∧ inFuture x.fire (s.rtu.rackTime.toNat / 2 ^ 32) = true →
            t.sideband = s.sideband ∧ t.trig.fired = s.trig.fired ∧
            (s.trig.queue = [] →
              t.trig.queue = [⟨x.line, x.fire, x.origin⟩] ∧ t.trig.queued = bump s.trig.queued)))) ∧
    (s.topo.frameNumber = some x.origin → exec (.triggerReceived p x) s = .next { s with trig := { s.trig with
      received := bump s.trig.received, looped := bump s.trig.looped } }) ∧
    (s.topo.frameNumber ≠ some x.origin ∧ s.isTree p = false → exec (.triggerReceived p x) s =
      .next { s with trig := { s.trig with received := bump s.trig.received, nonTree := bump s.trig.nonTree } }) ∧
    (s.topo.frameNumber ≠ some x.origin ∧ s.isTree p = true ∧
        (∃ e ∈ s.seen x.line, e.origin = x.origin ∧ e.seq = x.seq) → exec (.triggerReceived p x) s =
      .next { s with trig := { s.trig with received := bump s.trig.received, duplicate := bump s.trig.duplicate } })

/-- R67, R71, R72: a TRIGGER whose fire time lies ahead, and an accepted edge in a timed timebase, offer an entry to
the Pending Trigger Queue. Within 16 ticks of a queued entry of its line it merges with the first such, and the earlier
fire time stands, the merged entry taking its place in the order; else it takes its place after every entry that is not
later, or overflows a full queue. That fire times are compared two at a time is the model's choice (log entry 27), as is
the place of a merged entry after the entries of the same fire time (log entry 48). -/
def Obligations.TriggersMergeOrQueue : Prop :=
  ∀ (x : PendingTrigger) (c : Instr) (s : State), let q := s.trig.queue; let e0 := s.trigEntry x.line
    let now := s.rtu.rackTime.toNat / 2 ^ 32
    let near := fun (e : PendingTrigger) => e.line = x.line ∧ (tickDiff x.fire e.fire ≤ 16 ∨ tickDiff e.fire x.fire ≤ 16)
    e0.enabled = true → e0.outputs ≠ 0 → s.rtu.state.timed = true → x.line ≤ 7 →
    ((∃ p seq, c = .triggerReceived p ⟨x.origin, x.line, seq, false, x.fire⟩ ∧ (s.port p).state = .up ∧
        s.topo.frameNumber ≠ some x.origin ∧ s.isTree p = true ∧ inFuture x.fire now = true ∧
        ∀ e ∈ s.seen x.line, ¬(e.origin = x.origin ∧ e.seq = seq)) ∨
      (∃ (i : Fin 16) (l : Fin 8), c = .triggerEdge i l ∧ (s.slot i).lane ≠ .dormant ∧ (s.slot i).state = .admitted ∧
        e0.sources.getLsbD i = true ∧ x = ⟨l, (now + e0.budget) % 2 ^ 56, s.frameCode⟩)) →
    ∃ t, exec c s = .next t ∧
      (∀ a e b, q = a ++ e :: b ∧ near e ∧ (∀ y ∈ a, ¬near y) →
        t.trig.merged = bump s.trig.merged ∧ t.trig.queued = s.trig.queued ∧
        (inFuture e.fire x.fire = false → t.trig.queue = q) ∧
        (inFuture e.fire x.fire = true → ∀ d f, a ++ b = d ++ f ∧ (∀ y ∈ d, inFuture y.fire x.fire = false) ∧
          (∀ y ∈ f.head?, inFuture y.fire x.fire = true) → t.trig.queue = d ++ x :: f)) ∧
      (∀ a b, q = a ++ b ∧ q.length < 16 ∧ (∀ e ∈ q, ¬near e) ∧ (∀ e ∈ a, inFuture e.fire x.fire = false) ∧
          (∀ e ∈ b.head?, inFuture e.fire x.fire = true) →
        t.trig.queued = bump s.trig.queued ∧ t.trig.merged = s.trig.merged ∧ t.trig.queue = a ++ x :: b) ∧
      (16 ≤ q.length ∧ (∀ e ∈ q, ¬near e) →
        t.trig.overflows = bump s.trig.overflows ∧ (t.event EventKind.triggerOverflow.code).pending = true ∧
        t.trig.queue = q)

/-- R64, R73: a firing drives the lines of the entries at the head of the queue whose fire time is reached, each to the
ADMITTED slots of its Output Set, and nothing fires while the head's time lies ahead; a write of a Trigger Map entry
replaces it, a line left not Enabled losing its queued entries, or is refused out of range. That all entries due fire
in the one command is the model's choice (log entry 27). -/
def Obligations.TriggersFireAndAreMapped : Prop :=
  ∀ s : State, let now := s.rtu.rackTime.toNat / 2 ^ 32
    (∀ a b, s.trig.queue = a ++ b ∧ a ≠ [] ∧ (∀ e ∈ a, inFuture e.fire now = false) ∧
        (∀ e ∈ b.head?, inFuture e.fire now = true) →
      exec .triggerFire s = .next { s with
        trig := { s.trig with queue := b, fired := min (s.trig.fired + a.length) 4294967295 }
        sideband := s.sideband ++ a.flatMap (fun e => ((List.range 16).filter (fun i =>
          (s.trigEntry e.line).outputs.getLsbD i && (s.slot i).state == .admitted)).map (fun i => (i, e.line))) }) ∧
    ((∀ e ∈ s.trig.queue.head?, inFuture e.fire now = true) → exec .triggerFire s = .next s) ∧
    (∀ who line w, s.obeys who = true → s.accepts who.frame = true → ∃ t, exec (.triggerMapWrite who line w) s = .next t ∧
      if line ≤ 7 ∧ 256 ≤ w.budget ∧ w.budget ≤ 65535
      then ∃ s1, Answered who .ok s1 t ∧
        s1 = { s.wrote with trig := { s.trig with
          map := s1.trig.map, queue := s1.trig.queue, discarded := s1.trig.discarded } } ∧
        (∀ l, s1.trigEntry l = if l = line then w else s.trigEntry l) ∧
        s1.trig.queue = (if w.enabled = true then s.trig.queue else s.trig.queue.filter (fun e => e.line ≠ line)) ∧
        s1.trig.discarded = min (s.trig.discarded + (s.trig.queue.length - s1.trig.queue.length)) 4294967295
      else Answered who .badRequest s.wrote t)

/-! ## Stream routing (chapter 5) and timed delivery (chapter 6) -/

/-- R79, R80, R81, R82: a burst of a packer's Source Slot joins its Held bytes as far as the quota goes, what is left
over marking the epoch truncated, and a full parcel of 256 bytes is cut as soon as it stands; any other burst of an
ADMITTED slot, one for a packer with no Open Epoch among them, is a Stray Burst. At a boundary the packer closes its
Open Epoch with its LAST parcel, marked absent where its source was not seen, and opens the new one: here the root's
only packer, whose parcel goes out of its child port. -/
def Obligations.BurstsAreGathered : Prop :=
  ∀ (tag : Nat) (s : State), let e := s.route tag
    (∀ (i : Fin 16) (data : List Byte), (s.slot i).lane = .up → (s.slot i).state = .admitted → 0 < data.length →
        data.length ≤ 256 → data.length % 4 = 0 →
      (∀ k n, tag ≤ 1023 ∧ e.active = true ∧ e.source = some i.val ∧ e.packer = some k ∧ k.openEpoch = some n →
        let kept := data.take (e.q - k.gathered)
        let full := { k with
          gathered := k.gathered + kept.length, held := k.held ++ kept
          truncated := k.truncated || decide (e.q < k.gathered + data.length) }
        ∃ t, exec (.sampleBurst i tag data) s = .next t ∧
          (full.held.length < 256 → t = s.setRoute tag { e with packer := some full }) ∧
          (256 ≤ full.held.length → (t.route tag).inCount = bump e.inCount ∧
            (t.route tag).packer = some { full with held := full.held.drop 256, nextSeq := k.nextSeq + 1 })) ∧
      (1023 < tag ∨ e.active = false ∨ e.source ≠ some i.val ∨ e.packer.bind (·.openEpoch) = none →
        exec (.sampleBurst i tag data) s =
          .next (s.setSlot i { s.slot i with strayBursts := bump (s.slot i).strayBursts }))) ∧
    (∀ k n p, s.routed → s.rtu.rackTime.toNat / 2 ^ 49 ≠ s.rtu.epoch → s.topo.root = true → s.topo.rootward = none →
        tsorted s.router.table = true → (∀ j, j ≠ tag → (s.route j).packer = none) →
        e.active = true → e.fwdAway = true → e.sinks = 0 → e.binding = none → e.packer = some k →
        k.openEpoch = some n → k.nextSeq ≤ e.q / 256 → s.isChild p = true → (s.port p).qStream.length < 128 →
      ∃ t, exec .epochBoundary s = .next t ∧
        (t.port p).qStream = (s.port p).qStream ++ [{
          tag := tag, source := s.frameCode, epoch := n % 65536, last := true
          seq := if k.sourceSeen = true then k.nextSeq else 0
          absent := !k.sourceSeen, truncated := k.sourceSeen && k.truncated
          payload := if k.sourceSeen = true then k.held else [] }] ∧
        (t.route tag).inCount = bump e.inCount ∧
        (t.route tag).packer = some {
          openEpoch := some t.rtu.epoch, gathered := 0, held := [], nextSeq := 0, truncated := false
          sourceSeen := match e.source with | some i => (s.slot i).state == .admitted | none => false })

/-- R13, R14, R84, R96: the checks of a STREAM parcel in UP in their order (entry, source frame, tree port, quota),
each counted at its entry; its buffer frees as the router takes it. -/
def Obligations.StreamParcelsAreChecked : Prop :=
  ∀ (p : PortId) (x : StreamParcel) (s : State), let e := s.route x.tag
    (s.port p).state = .up → x.payload.length ≤ 256 →
    (∃ t, exec (.streamParcelReceived p x) s = .next t ∧ (t.route x.tag).inCount = bump e.inCount ∧
      (t.port p).freed.stream = (s.port p).freed.stream + 1) ∧
    (e.active = false → exec (.streamParcelReceived p x) s = .next
      (State.updPort (countUnrouted (some p) (s.setRoute x.tag { e with inCount := bump e.inCount, unrouted := bump e.unrouted }))
        p (fun r => r.freeBuffer .stream))) ∧
    (e.active = true ∧ s.topo.frameNumber = some x.source → exec (.streamParcelReceived p x) s = .next
      ((s.setRoute x.tag { e with inCount := bump e.inCount, looped := bump e.looped }).updPort p (fun r => r.freeBuffer .stream))) ∧
    (e.active = true ∧ s.topo.frameNumber ≠ some x.source ∧ s.isTree p = false →
      exec (.streamParcelReceived p x) s = .next
      ((s.setRoute x.tag { e with inCount := bump e.inCount, nonTree := bump e.nonTree }).updPort p (fun r => r.freeBuffer .stream))) ∧
    (e.active = true ∧ s.topo.frameNumber ≠ some x.source ∧ s.isTree p = true ∧ e.q / 256 < x.seq →
      exec (.streamParcelReceived p x) s = .next
      ((s.setRoute x.tag { e with inCount := bump e.inCount, quotaDrops := bump e.quotaDrops }).updPort p (fun r => r.freeBuffer .stream)))

/-- R85, R86, R87, R113, R124: a parcel in order from the Rootward Port of an entry that forwards away moves the Sequence
Tracker and is copied to the stream queue of the child port, or counted there as a Stream Tail Drop. Each ADMITTED slot
of the entry's Immediate Sink Set takes it as a PARCEL message where its lane credits allow, and drops it otherwise.
That the tracker's sequence counts modulo 256 is the model's choice (log entry 11), as is that Parcels Sent moves as a
message is committed (log entry 49). -/
def Obligations.StreamParcelsAreForwarded : Prop :=
  ∀ (p : PortId) (x : StreamParcel) (s : State), let e := s.route x.tag
    (s.port p).state = .up → x.payload.length ≤ 256 → e.active = true → e.fwdAway = true → e.binding = none →
    x.seq ≤ e.q / 256 → e.tracker = some (x.epoch, x.seq) → s.topo.rootward = some p →
    s.topo.frameNumber ≠ some x.source → s.isChild p.other = true → ∃ t, exec (.streamParcelReceived p x) s = .next t ∧
      t.route x.tag = { e with
        inCount := bump e.inCount, forwarded := bump e.forwarded
        tracker := some (if x.last = true then ((x.epoch + 1) % 65536, 0) else (x.epoch, (x.seq + 1) % 256)) } ∧
      t.port p.other = (if (s.port p.other).qStream.length < 128
        then { s.port p.other with qStream := (s.port p.other).qStream ++ [x] }
        else { s.port p.other with counters := { (s.port p.other).counters with
          tailDrops := bump (s.port p.other).counters.tailDrops } }) ∧
      (∀ i, let r := s.slot i; let cost := (16 + x.payload.length + 63) / 64
        t.slot i = if i < 16 ∧ e.sinks.getLsbD i = true ∧ r.state = .admitted then
          (if r.lane = .up ∧ (cost ≤ r.available ∨ (r.advertised < cost ∧ r.available = r.advertised)) then { r with
              parcelsSent := bump r.parcelsSent, committed := r.committed ++ [.parcel x], available := r.available - cost }
            else { r with immediateDrops := bump r.immediateDrops })
        else r) ∧
      t.pool = s.pool ∧ t.bindings = s.bindings ∧ t.topo = s.topo ∧ t.trans = s.trans

/-- R103, R104: a parcel from the Rootward Port for an ENABLED binding. One of the current epoch or of the one before is
placed in the OPEN section of its epoch: its bytes go to its sequence's place, cut at the section's end, every other
byte of the pool reads as before, and the section takes its LAST and flags. One whose sequence is there already is a
DUPLICATE, one whose section is IDLE is Unopened, an older one is LATE and a later one EARLY: each is counted and writes
nothing. That the section of the epoch before is counted back through the wrap is the model's choice (log entry 10). -/
def Obligations.ParcelsArePlaced : Prop :=
  ∀ (p : PortId) (b : Nat) (x : StreamParcel) (s : State), let e := s.route x.tag; let r := s.binding b
    let d := (s.rtu.epoch % 65536 + 65536 - x.epoch % 65536) % 65536
    let i := (s.rtu.epoch + 3 - d) % 3
    let y := r.sec i
    (s.port p).state = .up → x.payload.length ≤ 256 → e.active = true → e.fwdAway = false → e.sinks = 0 → e.binding = some b →
    x.seq ≤ e.q / 256 → s.topo.rootward = some p → s.topo.frameNumber ≠ some x.source → r.enabled = true →
    let n := min x.payload.length (r.blocks * 512 - x.seq * 256)
    let start := (r.base + i * r.blocks) * 512 + x.seq * 256
    ∃ t, exec (.streamParcelReceived p x) s = .next t ∧
      (∀ j, j ≠ b → t.binding j = s.binding j) ∧ t.slots = s.slots ∧ t.trans = s.trans ∧
      (d ≤ 1 ∧ y.state = .opened ∧ tfind y.received x.seq = none →
        (∀ k, k < n → poolRead t.pool (start + k) = x.payload.getD k 0) ∧
        (∀ a, (a < start ∨ start + n ≤ a) → poolRead t.pool a = poolRead s.pool a) ∧
        (t.binding b).sec i = { y with
          received := tput y.received x.seq n
          last := if x.last = true ∧ y.last = none then some (x.seq, x.payload.length) else y.last
          truncatedSeen := y.truncatedSeen || x.truncated, absentSeen := y.absentSeen || x.absent
          cut := y.cut || decide (r.blocks * 512 ≤ x.seq * 256) || decide (r.blocks * 512 < x.seq * 256 + x.payload.length)
          highWater := max y.highWater (min (x.seq * 256 + x.payload.length) (r.blocks * 512)) }) ∧
      (d ≤ 1 ∧ y.state = .opened ∧ tfind y.received x.seq ≠ none →
        t.binding b = { r with duplicate := bump r.duplicate } ∧ t.pool = s.pool) ∧
      (d ≤ 1 ∧ y.state = .idle → t.binding b = { r with unopened := bump r.unopened } ∧ t.pool = s.pool) ∧
      (2 ≤ d ∧ d ≤ 32767 → t.binding b = { r with late := bump r.late } ∧ t.pool = s.pool) ∧
      (32768 ≤ d → t.binding b = { r with early := bump r.early } ∧ t.pool = s.pool)

/-- R102, R105 to R108, R114: a boundary event into epoch n releases the OPEN section that becomes that of n - 2, with the
first status of the table that fits; Released rises by one at every release and Lost at every release that is
LOST, one at a stepped, loaded or wrapping boundary among them, whatever the section held. A section not OPEN
stays as it stands at an ordinary boundary, and nothing is released; the section of n opens empty. The released section
takes its Delivered Length and Qualifiers and joins the Delivery List of each ADMITTED slot of the Sink Set, while a
PARKED one skips it. Each slot whose list still holds the section that is reused loses that entry, with one more in Overrun
and one SECTION_FAULT; a release INCOMPLETE, TRUNCATED or LOST raises another, and a stepped, loaded or wrapping boundary
none. No packer is at work here, whose LAST parcel would be placed first. The epoch number of two before,
counted back through the wrap, is the model's choice (log entry 10), as is that the timebase has reacted before UNTIMED
is judged (log entry 26), and that an entry leaves its list as its final message is committed (log entry 49). -/
def Obligations.SectionStatusAtRelease : Prop :=
  ∀ (b : Nat) (s : State), s.settled → b < 64 → (s.binding b).enabled = true → (∀ tag, (s.route tag).packer = none) →
    ∃ t, exec .epochBoundary s = .next t ∧
    let n := t.rtu.epoch
    let i := (n + 1) % 3
    let r := s.binding b
    let x := r.sec i
    let u := t.binding b
    let v := u.sec i
    let restart := s.rtu.pendingLoad ≠ none ∨ s.rtu.pendingStep ≠ none ∨ (s.rtu.epoch = 2 ^ 39 - 1 ∧ n = 0)
    let lacks := x.last = none ∨ ∃ q l, x.last = some (q, l) ∧ ∃ k, k < q ∧ k * 256 < r.size ∧ tfind x.received k = none
    let listed := ∀ j, j < 16 → r.sinks.getLsbD j = true → (s.slot j).state = .admitted → ⟨b, i, 0⟩ ∈ (t.slot j).delivery
    let held := (List.range 16).filter (fun j => (s.slot j).delivery.any (fun e => e.binding == b && e.sec == n % 3))
    let faulty := x.state = .opened ∧ (v.status = .incomplete ∨ v.status = .truncated ∨ v.status = .lost)
    let raised := fun (k : Nat) => (k = 0 → t.event EventKind.sectionFault.code = s.event EventKind.sectionFault.code) ∧
      (0 < k → (t.event EventKind.sectionFault.code).pending = true ∧
        (t.event EventKind.sectionFault.code).count = min ((s.event EventKind.sectionFault.code).count + k) 255)
    (u.sec (n % 3)).state = .opened ∧ (u.sec (n % 3)).epoch = some n ∧ (u.sec (n % 3)).received = [] ∧
    (∀ j, j < 16 → ∀ e ∈ (t.slot j).delivery, ¬(e.binding = b ∧ e.sec = n % 3)) ∧
    (¬restart → (held = [] → u.overrun = r.overrun) ∧
      (held ≠ [] → u.overrun = min (r.overrun + held.length) 4294967295) ∧
      (held ≠ [] ∨ faulty → (t.event EventKind.sectionFault.code).pending = true)) ∧
    (restart → u.overrun = r.overrun) ∧
    ((∀ j, j < 64 → j ≠ b → (s.binding j).enabled = false) →
      (¬restart → (faulty → raised (held.length + 1)) ∧ (¬faulty → raised held.length)) ∧ (restart → raised 0)) ∧
    (¬restart →
      (x.state = .opened → v.state = .released ∧ v.epoch = x.epoch ∧
        (x.absentSeen = true → v.status = .sourceAbsent) ∧
        (x.absentSeen = false ∧ x.received = [] → v.status = .lost) ∧
        (x.absentSeen = false ∧ x.received ≠ [] ∧ lacks → v.status = .incomplete) ∧
        (x.absentSeen = false ∧ x.received ≠ [] ∧ ¬lacks ∧ (x.truncatedSeen = true ∨ x.cut = true) → v.status = .truncated) ∧
        (x.absentSeen = false ∧ x.received ≠ [] ∧ ¬lacks ∧ x.truncatedSeen = false ∧ x.cut = false → v.status = .complete) ∧
        v.length = (match x.last with | some (q, l) => min (q * 256 + l) r.size | none => x.highWater) ∧
        v.untimed = !t.rtu.state.timed ∧ v.discontinuous = false ∧ u.released = bump r.released ∧
        u.lost = (if v.status = .lost then bump r.lost else r.lost) ∧ listed ∧
        (∀ j, j < 16 → r.sinks = BitVec.ofNat 16 (2 ^ j) → (s.slot j).state = .parked → u.skipped = bump r.skipped)) ∧
      (x.state ≠ .opened → v = x ∧ u.released = r.released ∧ u.lost = r.lost)) ∧
    (restart → v.state = .released ∧ v.status = .lost ∧ u.released = bump r.released ∧ u.lost = bump r.lost ∧
      v.length = 0 ∧ v.untimed = !t.rtu.state.timed ∧ v.discontinuous = true ∧
      v.epoch = some ((n + 2 ^ 39 - 2) % 2 ^ 39) ∧ listed)

/-- R106, R109 to R111: the four swaps on whole groups and on a shorter trailing part; groups are counted from the start,
so that 256 bytes taken at a time give the same; a segment's message carries the section's bytes rearranged, zeros standing
in for gaps, and the pool keeps the bytes as they arrived. That the Delivery List moves as a message is committed is the
model's choice (log entry 49). -/
def Obligations.SwapsRearrangeGroups : Prop :=
  (∀ d, Swap.none.apply d = d) ∧ (∀ a b d, Swap.bytes16.apply (a :: b :: d) = b :: a :: Swap.bytes16.apply d) ∧
  (∀ a b c d r, Swap.halves32.apply (a :: b :: c :: d :: r) = c :: d :: a :: b :: Swap.halves32.apply r) ∧
  (∀ a b c d r, Swap.bytes32.apply (a :: b :: c :: d :: r) = d :: c :: b :: a :: Swap.bytes32.apply r) ∧
  (∀ w d, d.length < (if w = Swap.bytes16 then 2 else 4) → w.apply d = d) ∧
  (∀ (w : Swap) d r, d.length % 256 = 0 → w.apply (d ++ r) = w.apply d ++ w.apply r) ∧
  (∀ (w : Swap) d, w.apply (w.apply d) = d) ∧
  (∀ (i : Fin 16) (d : DeliveryItem) (rest : List DeliveryItem) (s : State),
    (s.slot i).state = .admitted → (s.slot i).lane = .up → 5 ≤ (s.slot i).available → (s.slot i).delivery = d :: rest →
    let b := s.binding d.binding
    ∃ t m, exec (.sectionSegmentSend i) s = .next t ∧ t.pool = s.pool ∧
      (t.slot i).committed = (s.slot i).committed ++ [.sectionMsg m] ∧ m.offset = d.offset ∧
      (∀ x ∈ (t.slot i).delivery.head?, x = ⟨d.binding, d.sec, d.offset + 256⟩ ∨ x ∈ rest) ∧
      m.data = b.swap.apply ((List.range (min 256 ((b.sec d.sec).length - d.offset))).map (fun k =>
        match tfind (b.sec d.sec).received ((d.offset + k) / 256) with
        | some n => if (d.offset + k) % 256 < n
            then poolRead s.pool ((b.base + d.sec * b.blocks) * 512 + d.offset + k) else 0
        | none => 0)))

/-- R109, R111, R124: a slot's next segment is committed to its lane when the credits allow: one credit for each 64
bytes of message begun; the entry leaves the Delivery List with its final segment. Without the credits nothing
changes. That Segments Sent and the Delivery List move as a message is committed is the model's choice (log entry 49). -/
def Obligations.SegmentsAreSent : Prop :=
  ∀ (i : Fin 16) (d : DeliveryItem) (rest : List DeliveryItem) (s : State), let r := s.slot i
    r.state = .admitted → r.delivery = d :: rest →
    let m := s.sectionMessage d
    let cost := (16 + m.data.length + 63) / 64
    m.data.length = min 256 (((s.binding d.binding).sec d.sec).length - d.offset) ∧
    (r.lane = .up ∧ cost ≤ r.available → exec (.sectionSegmentSend i) s = .next (s.setSlot i { r with
      delivery := if ((s.binding d.binding).sec d.sec).length ≤ d.offset + 256 then rest
        else ⟨d.binding, d.sec, d.offset + 256⟩ :: rest
      segmentsSent := bump r.segmentsSent, committed := r.committed ++ [.sectionMsg m], available := r.available - cost })) ∧
    (r.available < cost ∧ cost ≤ r.advertised → exec (.sectionSegmentSend i) s = .next s)

/-- R77 to R79, R90, R92, R93: a write of one Route Table entry is refused under the guard, out of range, or, IN_USE, for
a binding that another ACTIVE entry names; one that is INVALID is written whole, its tracker and packer gone. One that is
ACTIVE and finds its bandwidth is written whole too: its packer runs on under the same Source Slot, ends without one, and
begins anew, with no Open Epoch, under another. The guard itself is written while it is not Locked and its limits are in
range. -/
def Obligations.RoutesAreWritten : Prop :=
  ∀ (who : Requester) (s : State), s.obeys who = true → s.accepts who.frame = true →
    (∀ tag w, tag ≤ 1023 → ∃ t, exec (.routeTableWrite who tag [w]) s = .next t ∧
      (s.router.guard.covers tag = true → Answered who .writeProtected s.wrote t) ∧
      (s.router.guard.covers tag = false ∧ (1 < w.mode ∨ 65535 < w.q ∨ (w.source.isSome = true ∧ w.q = 0) ∨
          (∃ i, w.source = some i ∧ 15 < i) ∨ ∃ b, w.binding = some b ∧ 63 < b) →
        Answered who .badRequest s.wrote t) ∧
      (∀ k b, s.router.guard.covers tag = false ∧ w.mode = 1 ∧ w.q ≤ 65535 ∧ w.source.getD 0 ≤ 15 ∧
          (w.source.isSome = true → 0 < w.q) ∧ w.binding = some b ∧ b ≤ 63 ∧ k ≠ tag ∧ (s.route k).active = true ∧
          (s.route k).binding = some b → Answered who .inUse s.wrote t) ∧
      (s.router.guard.covers tag = false ∧ w.mode = 0 ∧ (∀ i, w.source = some i → i ≤ 15 ∧ 0 < w.q) ∧ w.q ≤ 65535 ∧
          (∀ b, w.binding = some b → b ≤ 63) →
        ∃ s1, Answered who .ok s1 t ∧ s1.route tag = { s.route tag with
            active := false, source := w.source, fwdRoot := w.fwdRoot, fwdAway := w.fwdAway, sinks := w.sinks
            binding := w.binding, q := w.q, tracker := none, packer := none } ∧
          (∀ k, k ≠ tag → s1.route k = s.route k) ∧ s1.router.guard = s.router.guard ∧
          s1 = { s.wrote with router := s1.router }) ∧
      (s.router.guard.covers tag = false ∧ w.mode = 1 ∧ (∀ i, w.source = some i → i ≤ 15 ∧ 0 < w.q) ∧ w.q ≤ 65535 ∧
          (∀ b, w.binding = some b → b ≤ 63 ∧
            ∀ x ∈ s.router.table, x.1 ≠ tag → x.2.active = true → x.2.binding ≠ some b) ∧
          (w.fwdRoot = true ∨ w.fwdAway = true → ∀ p, (s.router.port p).committed + (w.q + 20 * (w.q / 256 + 1)) ≤
            if (s.port p).rate = .fast then 786432 else 196608) →
        ∃ s1 k, Answered who .ok s1 t ∧ s1.route tag = { s.route tag with
            active := true, source := w.source, fwdRoot := w.fwdRoot, fwdAway := w.fwdAway, sinks := w.sinks
            binding := w.binding, q := w.q, tracker := none, packer := k } ∧
          (w.source = none → k = none) ∧
          (w.source.isSome = true ∧ (s.route tag).source = w.source ∧ (s.route tag).packer.isSome = true →
            k = (s.route tag).packer) ∧
          (w.source.isSome = true ∧ ((s.route tag).packer = none ∨ (s.route tag).source ≠ w.source) →
            ∃ x, k = some x ∧ x.openEpoch = none ∧ x.gathered = 0 ∧ x.held = [] ∧ x.nextSeq = 0) ∧
          (∀ k, k ≠ tag → s1.route k = s.route k) ∧ s1.router.guard = s.router.guard ∧
          s1 = { s.wrote with router := s1.router })) ∧
    (∀ w : GuardWrite, ∃ t, exec (.routeGuardWrite who w) s = .next t ∧
      if s.router.guard.locked = true then Answered who .writeProtected s.wrote t
      else if w.low ≤ 1023 ∧ w.high ≤ 1023 then
        Answered who .ok { s.wrote with router := { s.router with guard := ⟨w.low, w.high, w.complement, w.locked⟩ } } t
      else Answered who .badRequest s.wrote t)

/-- R89, R90: enabling an entry that forwards rootward alone is refused NO_BANDWIDTH where the port's sum would rise
past 75% of its capacity, and otherwise adds its wire bytes, 20 a parcel on top of the quota, to the sum. -/
def Obligations.BandwidthIsCommitted : Prop :=
  ∀ (who : Requester) (s : State) (p : PortId) (tag : Nat) (w : RouteWrite), s.obeys who = true →
    s.accepts who.frame = true → s.topo.rootward = some p → s.isChild p.other = false →
    tag ≤ 1023 → s.router.guard.covers tag = false → (s.route tag).active = false → w.mode = 1 → w.source = none → w.binding = none →
    w.fwdRoot = true → w.q ≤ 65535 →
    let sum := (s.router.port p).committed + (w.q + 20 * (w.q / 256 + 1))
    let limit := if (s.port p).rate = .fast then 786432 else 196608
    ∃ t, exec (.routeTableWrite who tag [w]) s = .next t ∧
      (limit < sum → Answered who .noBandwidth s.wrote t) ∧
      (sum ≤ limit →
        ∃ s1, Answered who .ok s1 t ∧ (s1.router.port p).committed = sum ∧
          (s1.router.port p).overcommitted = false ∧ (s1.route tag).active = true ∧ (s1.route tag).q = w.q)

/-- R97, R98, R99: a write of one binding: out of range is refused, ENABLED over ENABLED is IN_USE, blocks that run
past the pool or meet another ENABLED binding's are OVERLAP, and one left DISABLED is written with its three sections
cleared. Disabling an ENABLED one takes it off every Delivery List and sends nothing further of its sections; no
counter, no byte of the pool and no other binding changes. That the first message committed on a lane is the one begun,
and what becomes of the others' credits, is the model's choice (log entry 41), as is that this write replaces the other
fields too (log entry 32). -/
def Obligations.BindingsAreWritten : Prop :=
  ∀ (who : Requester) (s : State) (b : Nat) (w : BindingWrite), b ≤ 63 → s.obeys who = true → s.accepts who.frame = true →
    ∃ t, exec (.bindingWrite who b [w]) s = .next t ∧ let r := s.binding b
      (3 < w.swap ∨ 1023 < w.base ∨ w.blocks = 0 ∨ 128 < w.blocks ∨ 1 < w.state → Answered who .badRequest s.wrote t) ∧
      (∀ sw, Swap.ofCode w.swap = some sw ∧ w.base ≤ 1023 ∧ 1 ≤ w.blocks ∧ w.blocks ≤ 128 →
        (r.enabled = true ∧ w.state = 1 → Answered who .inUse s.wrote t) ∧
        (r.enabled = false ∧ w.state = 1 ∧ (1024 < w.base + 3 * w.blocks ∨
            (∃ i, i < 64 ∧ i ≠ b ∧ (s.binding i).enabled = true ∧ w.base < (s.binding i).base + 3 * (s.binding i).blocks ∧
              (s.binding i).base < w.base + 3 * w.blocks)) → Answered who .overlap s.wrote t) ∧
        (r.enabled = false ∧ w.state = 1 ∧ w.base + 3 * w.blocks ≤ 1024 ∧
            (∀ i, i < 64 → i ≠ b → (s.binding i).enabled = true →
              (s.binding i).base + 3 * (s.binding i).blocks ≤ w.base ∨ w.base + 3 * w.blocks ≤ (s.binding i).base) →
          Answered who .ok (s.wrote.setBinding b { r with
            enabled := true, base := w.base, blocks := w.blocks, sinks := w.sinks, swap := sw
            sec0 := {}, sec1 := {}, sec2 := {} }) t) ∧
        (r.enabled = false ∧ w.state = 0 → Answered who .ok (s.wrote.setBinding b { r with
            enabled := false, base := w.base, blocks := w.blocks, sinks := w.sinks, swap := sw
            sec0 := {}, sec1 := {}, sec2 := {} }) t) ∧
        (r.enabled = true ∧ w.state = 0 → ∃ s1, Answered who .ok s1 t ∧
          s1 = { s.wrote.setBinding b { r with
            enabled := false, base := w.base, blocks := w.blocks, sinks := w.sinks, swap := sw
            sec0 := {}, sec1 := {}, sec2 := {} } with slots := s1.slots } ∧
          (∀ i, i < 16 →
            s1.slot i = { s.slot i with
              delivery := (s.slot i).delivery.filter (fun d => d.binding ≠ b)
              committed := (s1.slot i).committed, available := (s1.slot i).available } ∧
            ((∀ y ∈ (s.slot i).committed.tail, isSectionOf b none y = false) →
              (s1.slot i).available = (s.slot i).available) ∧
            ((s.slot i).committed = [] → (s1.slot i).committed = []) ∧
            (∀ x rest, (s.slot i).committed = x :: rest →
              (s1.slot i).committed = x :: rest.filter (fun y => !isSectionOf b none y)))))

/-! ## Slots (chapter 7) -/

/-- R119 to R123, R126, R127: a slot is brought up: presence starts the Debounce timer, its expiry enters INSERTED and
under AUTO POWERING, Power Good trains the lane, credits from 1 to 255 admit the module, Last Cause staying lane lost
where that brought it here, and the Power timer's expiry faults the slot. An advertisement on a DORMANT lane is ignored
and counted. That a lane trains at once where power is on or shows good is the model's choice (log entry 28), as is the
one Last Cause of AUTO and ADMIT (log entry 43). -/
def Obligations.SlotsAreBroughtUp : Prop :=
  ∀ (i : Fin 16) (s : State), let r := s.slot i
    (r.state = .empty ∧ r.presence = false → exec (.presenceAssert i) s = .next (s.setSlot i { r with
      presence := true, timer := some ⟨.debounce, s.localTime⟩ })) ∧
    (r.state = .empty ∧ r.timer.map (·.kind) = some .debounce →
      exec (.debounceExpiry i) s = .next (raise .slotInserted (s.setSlot i (if r.auto = true then { r with
          state := .powering, removal := false, powerEnable := true, timer := some ⟨.power, s.localTime⟩
          lane := if r.powerEnable = true ∨ r.powerGood = true then .training else .off
          advertised := 0, available := 0, committed := [], lastCause := .autoOrAdmit
          counters := { r.counters with insertions := bump r.counters.insertions } }
        else { r with
          state := .inserted, removal := false, timer := none, lastCause := .presenceStable
          counters := { r.counters with insertions := bump r.counters.insertions } })))) ∧
    (exec (.powerGood i) s = .next (s.setSlot i (if r.state = .powering ∧ r.lane = .off then { r with
        powerGood := true, lane := .training, advertised := 0, available := 0, committed := [] }
      else { r with powerGood := true }))) ∧
    (r.state = .powering ∧ r.timer.map (·.kind) = some .power →
      exec (.powerTimeout i) s = .next (raise .powerFault (s.setSlot i { r with
        state := .faulted, powerEnable := false, removal := true, timer := none, drain := none, lane := .off
        advertised := 0, available := 0, committed := [], lastCause := .powerTimeout
        counters := { r.counters with powerTimeouts := bump r.counters.powerTimeouts } }))) ∧
    (∀ credits, s.settled → r.state = .powering → r.lane = .training →
      ∃ t, exec (.laneAdvertisement i credits) s = .next t ∧
        (1 ≤ credits ∧ credits ≤ 255 ∧ r.handleOpen = false → t.slot i = { r with
            state := .admitted, lane := .up, advertised := credits, available := credits, timer := none
            lastCause := if r.lastCause = .laneLost then .laneLost else .laneUp
            counters := { r.counters with admissions := bump r.counters.admissions } } ∧
          (t.event EventKind.slotAdmitted.code).pending = true ∧ t.trans = s.trans ∧ t.bindings = s.bindings ∧
          (∀ j, j ≠ i.val → t.slot j = s.slot j)) ∧
        (1 ≤ credits ∧ credits ≤ 255 ∧ r.handleOpen = true →
          (t.slot i).state = .extracting ∧ (t.event EventKind.extractRequest.code).pending = true) ∧
        (credits = 0 ∨ 255 < credits → t = s)) ∧
    (∀ credits, s.settled → r.lane = .dormant →
      exec (.laneAdvertisement i credits) s = .next (s.setSlot i { r with
        counters := { r.counters with dormantIgnored := bump r.counters.dormantIgnored } }))

/-- R112, R119, R121, R130, R133, R137 to R139: what removal does to a slot that holds no traffic, and its handle to any: EMPTY,
INSERTED, POWERING, QUIESCED and FAULTED end EMPTY, the loss of good power faults a slot in POWERING, an opened
handle extracts a slot in ADMITTED or PARKED, where the requests not yet sent to it are answered, a WRITE_UNLOCK among
them releasing its lock (R162), and where of the messages of deliveries committed to its lane only one begun
is sent, and a closed one powers a slot in QUIESCED again. That a lane trains at once where power is on or shows good,
and the Last Cause of a module lost in POWERING, are the model's choices (log entry 28), as is that the first message
committed is the one begun (log entry 41). -/
def Obligations.HandlesAndRemovalsAct : Prop :=
  ∀ (i : Fin 16) (s : State), s.settled → let r := s.slot i
    let off := { r with
      removal := false, timer := none, drain := none, lane := .off, advertised := 0, available := 0, committed := [] }
    let gone := { off with state := .empty, presence := false, powerEnable := false }
    (r.state = .empty → exec (.presenceLost i) s = .next (s.setSlot i { r with presence := false, timer := none })) ∧
    (r.state = .inserted → exec (.presenceLost i) s = .next (s.setSlot i { gone with
      lastCause := .presenceLost, counters := { r.counters with withdrawn := bump r.counters.withdrawn } })) ∧
    (r.state = .powering → exec (.presenceLost i) s = .next (raise .surpriseRemoval (s.setSlot i { gone with
      lastCause := .presenceLost
      counters := { r.counters with surpriseRemovals := bump r.counters.surpriseRemovals } }))) ∧
    (r.state = .quiesced → exec (.presenceLost i) s = .next (s.setSlot i { gone with lastCause := .removed })) ∧
    (r.state = .faulted → exec (.presenceLost i) s = .next (s.setSlot i { gone with lastCause := .presenceLost })) ∧
    (r.state = .powering ∧ r.powerGood = true →
      exec (.powerGoodLost i) s = .next (raise .powerFault (s.setSlot i { off with
        state := .faulted, powerGood := false, powerEnable := false, removal := true, lastCause := .powerGoodLost
        counters := { r.counters with powerFaults := bump r.counters.powerFaults } }))) ∧
    (∃ t, exec (.handleOpen i) s = .next t ∧
      (r.state = .admitted ∨ r.state = .parked → ∃ d, t.slot i = { r with
          handleOpen := true, state := .extracting, timer := some ⟨.drain, s.localTime⟩, drain := some d, delivery := []
          lastCause := .handleOpened, counters := { r.counters with extractions := bump r.counters.extractions }
          committed := r.committed.take 1 ++ (r.committed.drop 1).filter (fun m => !isDelivery m)
          available := (t.slot i).available } ∧
        ((∀ m ∈ r.committed.drop 1, isDelivery m = false) → (t.slot i).available = r.available) ∧
        d.boundaryPassed = false ∧ d.lockClear = (t.lock i).holder.isNone ∧ (t.lock i = s.lock i ∨ t.lock i = {}) ∧
        ((∀ x ∈ s.trans.inbound, x.2.slot = i.val → x.2.state ≠ .waiting) → t.lock i = s.lock i) ∧
        (∀ h e, (s.lock i).unlockHandle = some h → s.inEntry h = some e → e.slot = i.val → e.state = .waiting →
          t.lock i = {}) ∧
        (∀ h e, t.inEntry h = some e → e.slot = i.val → e.state ≠ .waiting) ∧
        (t.event EventKind.extractRequest.code).pending = true) ∧
      (r.state ≠ .admitted ∧ r.state ≠ .parked → t = s.setSlot i { r with handleOpen := true })) ∧
    (exec (.handleClose i) s = .next (s.setSlot i (if r.state = .quiesced then { off with
        handleOpen := false, state := .powering, powerEnable := true, timer := some ⟨.power, s.localTime⟩
        lane := if r.powerEnable = true ∨ r.powerGood = true then .training else .off
        lastCause := .handleClosed }
      else { r with handleOpen := false })))

/-- R129: a slot that leaves service with traffic is cleaned up: nothing for it waits or is at its module, what did is
answered with the cause's status, TARGET_RESET for a slot reset or a lane lost in ADMITTED and NO_TARGET for every other,
and its completion stands in its queue or waits for it, none of its own entries is left, its lock is released, and its lane and Delivery List are empty. R127, R132, R134, R136 to
R138: which state each cause enters, and what it counts and raises. -/
def Obligations.DeparturesAreCleanedUp : Prop :=
  ∀ (i : Fin 16) (s : State), s.routed → (∀ j, j ≠ i.val → (s.slot j).drain = none) → let r := s.slot i
    let cleaned := fun (t : State) =>
      (∀ h e, t.inEntry h = some e → e.slot = i.val → e.state = .answering) ∧
      (∀ k e, t.ottEntry k = some e → e.id ≠ i.val) ∧ t.lock i = {} ∧
      (t.slot i).waiting = [] ∧ (t.slot i).committed = [] ∧ (t.slot i).delivery = [] ∧ (t.slot i).drain = none
    let answered := fun (st : Status) (t : State) => ∀ h e, s.inEntry h = some e → e.slot = i.val → e.state ≠ .answering →
      (∃ o, t.inEntry h = some { e with state := .answering, answer := some ⟨st, []⟩, order := o }) ∨
      (t.inEntry h = none ∧ ∀ p, e.source ≠ .here → s.routeTo e.who.frame = some (.port p) →
        ⟨e.who, st.code, 31, []⟩ ∈ (t.port p).qCompletion)
    (r.state = .admitted ∨ r.state = .parked ∨ r.state = .extracting → ∃ t, exec (.presenceLost i) s = .next t ∧
      cleaned t ∧ answered .noTarget t ∧ (t.slot i).state = .empty ∧ (t.slot i).lane = .off ∧
      (t.slot i).counters.surpriseRemovals = bump r.counters.surpriseRemovals ∧
      (t.event EventKind.surpriseRemoval.code).pending = true) ∧
    (r.state = .admitted ∨ r.state = .parked ∨ r.state = .extracting → ∃ t, exec (.powerGoodLost i) s = .next t ∧
      cleaned t ∧ answered .noTarget t ∧ (t.slot i).state = .faulted ∧ (t.slot i).powerEnable = false ∧
      (t.slot i).counters.powerFaults = bump r.counters.powerFaults ∧
      (t.event EventKind.powerFault.code).pending = true) ∧
    (r.state = .admitted ∧ r.lane = .up ∧ r.drain = none → ∃ t, exec (.laneLost i) s = .next t ∧
      cleaned t ∧ answered .targetReset t ∧ (t.slot i).state = .powering ∧
      (t.slot i).counters.laneLosses = bump r.counters.laneLosses) ∧
    (r.state = .extracting ∧ r.lane = .up → ∃ t, exec (.laneLost i) s = .next t ∧
      cleaned t ∧ answered .noTarget t ∧ (t.slot i).state = .quiesced ∧
      (t.slot i).counters.laneLosses = bump r.counters.laneLosses) ∧
    (r.state = .extracting ∧ r.timer.map (·.kind) = some .drain → ∃ t, exec (.drainLimit i) s = .next t ∧
      cleaned t ∧ answered .noTarget t ∧ (t.slot i).state = .quiesced ∧
      (t.slot i).counters.drainTimeouts = bump r.counters.drainTimeouts ∧
      (t.event EventKind.slotQuiesced.code).pending = true) ∧
    (∀ who, s.obeys who = true → s.accepts who.frame = true → (∀ x ∈ s.trans.inbound, x.2.slot ≠ i.val) ∨
        (∀ p, (s.port p).qCompletion.length + s.trans.inbound.length < 16) →
      r.state = .admitted → r.drain = none →
      (∃ s1 t, Answered who .ok s1 t ∧ exec (.slotReset who i) s = .next t ∧ cleaned s1 ∧ answered .targetReset s1 ∧
        (s1.slot i).state = .powering ∧ (s1.slot i).counters.slotResets = bump r.counters.slotResets) ∧
      ((s.lock i).holder = none → ∃ s1 t, Answered who .ok s1 t ∧ exec (.park who i) s = .next t ∧ cleaned s1 ∧
        answered .noTarget s1 ∧ (s1.slot i).state = .parked ∧ (s1.slot i).lane = .dormant ∧ (s1.slot i).powerEnable = r.powerEnable) ∧
      ((s.lock i).holder ≠ none → ∃ t, Answered who .inUse s.wrote t ∧ exec (.park who i) s = .next t))

/-- R118, R128: a slot's settings in range are written, the Power timer expiring at once where it already exceeds the
new limit; each slot command acts in the states that take it, answers OK where the slot is there already, and is
refused in the others. A running timer that its new limit does not end runs on. In EXTRACTING, where R131 keeps the
Drain record on its conditions at the end of the act, a command leaves a drain that they do not complete, and a Drain
Limit lowered below the time that has passed ends it as R132 has it. That a lane trains at once where power is on or shows
good is the model's choice (log entry 28), as is the one Last Cause of AUTO and ADMIT (log entry 43). -/
def Obligations.SlotCommandsAct : Prop :=
  (∀ (who : Requester) (i : Fin 16) (s : State), s.settled → s.obeys who = true → s.accepts who.frame = true →
    let r := s.slot i
    let runsOn := fun (w : SlotSettings) =>
      (∀ start, r.timer = some ⟨.power, start⟩ → s.localTime < start + w.powerTimeout * Config.cyclesPerMs) ∧
      (∀ start, r.timer = some ⟨.drain, start⟩ → s.localTime < start + w.drainLimit * Config.cyclesPerMs)
    let powered := fun (c : Cause) => { r with
      state := .powering, removal := false, powerEnable := true, timer := some ⟨.power, s.localTime⟩
      lane := if r.powerEnable = true ∨ r.powerGood = true then .training else .off
      advertised := 0, available := 0, committed := [], lastCause := c }
    (∀ w : SlotSettings, ∃ t, exec (.slotSettingsWrite who i w) s = .next t ∧
      (1 < w.policy ∨ w.powerTimeout % 10 ≠ 0 ∨ w.powerTimeout < 10 ∨ 2550 < w.powerTimeout ∨ w.drainLimit = 0 ∨
        1000 < w.drainLimit → Answered who .badRequest s.wrote t) ∧
      (w.policy ≤ 1 ∧ w.powerTimeout % 10 = 0 ∧ 10 ≤ w.powerTimeout ∧ w.powerTimeout ≤ 2550 ∧ 1 ≤ w.drainLimit ∧
          w.drainLimit ≤ 1000 →
        (runsOn w ∧ (r.state ≠ .inserted ∨ w.policy = 1) → Answered who .ok (s.wrote.setSlot i { r with
          auto := w.policy == 0, powerTimeout := w.powerTimeout, drainLimit := w.drainLimit
          attention := w.attention }) t) ∧
        (runsOn w ∧ r.state = .inserted ∧ w.policy = 0 → Answered who .ok (s.wrote.setSlot i { powered .autoOrAdmit with
          auto := true, powerTimeout := w.powerTimeout, drainLimit := w.drainLimit, attention := w.attention }) t) ∧
        (∀ start, r.state = .powering ∧ r.timer = some ⟨.power, start⟩ ∧
            start + w.powerTimeout * Config.cyclesPerMs ≤ s.localTime →
          ∃ s1, Answered who .ok s1 t ∧ (s1.slot i).state = .faulted ∧ (s1.slot i).lastCause = .powerTimeout ∧
            (s1.slot i).powerTimeout = w.powerTimeout))) ∧
    (∃ t, exec (.admitSlot who i) s = .next t ∧
      (r.state = .inserted → Answered who .ok (s.wrote.setSlot i (powered .autoOrAdmit)) t) ∧
      (r.state = .quiesced → Answered who .ok (s.wrote.setSlot i (powered .readmitted)) t) ∧
      (r.state = .powering ∨ r.state = .admitted → Answered who .ok s.wrote t) ∧
      (r.state = .empty ∨ r.state = .parked ∨ r.state = .extracting ∨ r.state = .faulted →
        Answered who .badRequest s.wrote t)) ∧
    (∃ t, exec (.unpark who i) s = .next t ∧
      (r.state = .parked → Answered who .ok (s.wrote.setSlot i (powered .unpark)) t) ∧
      (r.state = .admitted → Answered who .ok s.wrote t) ∧
      (r.state ≠ .parked ∧ r.state ≠ .admitted → Answered who .badRequest s.wrote t)) ∧
    (∃ t, exec (.clear who i) s = .next t ∧
      (r.state = .faulted ∧ r.auto = true → Answered who .ok (s.wrote.setSlot i (powered .autoOrAdmit)) t) ∧
      (r.state = .faulted ∧ r.auto = false → Answered who .ok (s.wrote.setSlot i { r with
        state := .inserted, timer := none, removal := false, lastCause := .clear }) t) ∧
      (r.state ≠ .faulted → Answered who .badRequest s.wrote t)) ∧
    (∃ t, exec (.park who i) s = .next t ∧
      (r.state = .parked → Answered who .ok s.wrote t) ∧
      (r.state ≠ .parked ∧ r.state ≠ .admitted → Answered who .badRequest s.wrote t)) ∧
    (∃ t, exec (.slotReset who i) s = .next t ∧ (r.state ≠ .admitted → Answered who .badRequest s.wrote t)) ∧
    ((∀ x ∈ s.trans.inbound, x.2.slot ≠ i.val) → r.state = .admitted ∨ r.state = .parked →
      ∃ s1 t, exec (.eject who i) s = .next t ∧ Answered who .ok s1 t ∧ (s1.slot i).state = .extracting ∧
        (s1.slot i).timer = some ⟨.drain, s.localTime⟩ ∧ (s1.slot i).delivery = [] ∧ (s1.slot i).lastCause = .eject ∧
        (s1.slot i).drain = some ⟨false, true, (s.lock i).holder.isNone,
          s.trans.ott.all (fun e => e.2.id ≠ i.val) && r.waiting.isEmpty⟩) ∧
    (∃ t, exec (.eject who i) s = .next t ∧
      (r.state = .extracting ∨ r.state = .quiesced → Answered who .ok s.wrote t) ∧
      (r.state = .empty ∨ r.state = .inserted ∨ r.state = .powering ∨ r.state = .faulted →
        Answered who .badRequest s.wrote t))) ∧
  ∀ (who : Requester) (i : Fin 16) (s : State) (d : Drain), s.routed → (∀ j, j ≠ i.val → (s.slot j).drain = none) →
    s.obeys who = true → s.accepts who.frame = true → let r := s.slot i
    r.state = .extracting → r.drain = some d →
    let flags := fun (t : State) => (⟨d.boundaryPassed, t.trans.inbound.all (fun e => e.2.slot != i.val),
      (t.lock i).holder.isNone, t.trans.ott.all (fun e => e.2.id != i.val) && r.waiting.isEmpty⟩ : Drain)
    let left := fun (c : Instr) (st : Status) (s1 : State) => ∃ t, Answered who st s1 t ∧
      (¬((flags t).boundaryPassed = true ∧ (flags t).inboundClear = true ∧ (flags t).lockClear = true ∧
          (flags t).ownClear = true) →
        exec c s = .next (t.setSlot i { s1.slot i with drain := some (flags t) }))
    let refused := fun (c : Instr) => ∃ t, Answered who .badRequest s.wrote t ∧ exec c s = .next t
    refused (.admitSlot who i) ∧ refused (.unpark who i) ∧ refused (.clear who i) ∧
    left (.eject who i) .ok s.wrote ∧ left (.park who i) .badRequest s.wrote ∧
    left (.slotReset who i) .badRequest s.wrote ∧
    (∀ w : SlotSettings,
      (1 < w.policy ∨ w.powerTimeout % 10 ≠ 0 ∨ w.powerTimeout < 10 ∨ 2550 < w.powerTimeout ∨ w.drainLimit = 0 ∨
        1000 < w.drainLimit → left (.slotSettingsWrite who i w) .badRequest s.wrote) ∧
      (w.policy ≤ 1 ∧ w.powerTimeout % 10 = 0 ∧ 10 ≤ w.powerTimeout ∧ w.powerTimeout ≤ 2550 ∧ 1 ≤ w.drainLimit ∧
          w.drainLimit ≤ 1000 →
        (∀ start, r.timer = some ⟨.drain, start⟩ ∧ s.localTime < start + w.drainLimit * Config.cyclesPerMs →
          left (.slotSettingsWrite who i w) .ok (s.wrote.setSlot i { r with
            auto := w.policy == 0, powerTimeout := w.powerTimeout, drainLimit := w.drainLimit
            attention := w.attention })) ∧
        (∀ start, r.timer = some ⟨.drain, start⟩ ∧ start + w.drainLimit * Config.cyclesPerMs ≤ s.localTime →
          (∀ x ∈ s.trans.inbound, x.2.slot ≠ i.val) →
          ∃ s1 t, Answered who .ok s1 t ∧ exec (.slotSettingsWrite who i w) s = .next t ∧
            (s1.slot i).state = .quiesced ∧ (s1.slot i).drain = none ∧ (s1.slot i).timer = none ∧
            (s1.slot i).lastCause = .drainLimit ∧ (s1.slot i).drainLimit = w.drainLimit ∧ s1.lock i = {} ∧
            (∀ k e, s1.ottEntry k = some e → e.id ≠ i.val) ∧
            (s1.slot i).counters.drainTimeouts = bump r.counters.drainTimeouts ∧
            (s1.event EventKind.slotQuiesced.code).pending = true)))

/-- R124 to R126, R156, R158, R184: returned credits never lift a lane above what was advertised; an undefined
message is counted; the oldest answer and the oldest waiting inbound request are committed for one credit for each 64
bytes of message begun, and wait without them; so is the refusal of a duplicate tag (R141). Credits returned while work
waits go first to the oldest answer, then to the refusal, to the oldest waiting inbound request and to the Delivery
List, one that they do not allow standing back for those after it. That the refusal goes after every answer is the
model's choice (log entry 62), as is that the message of a READ or READ_LOCK carries none of the data its request came
with (log entry 51). -/
def Obligations.LanesCarryMessages : Prop :=
  ∀ (i : Fin 16) (s : State), s.settled → let r := s.slot i
    (∀ n, r.lane = .up → r.waiting = [] → r.delivery = [] →
        (∀ x ∈ s.trans.ott, x.2.id = i.val → x.2.state ≠ .answered) →
        (∀ x ∈ s.trans.inbound, x.2.slot = i.val → x.2.state ≠ .waiting) →
      exec (.laneCreditReturn i n) s = .next (s.setSlot i { r with
        available := min (r.available + n) r.advertised
        counters := { r.counters with
          creditExcess := min (r.counters.creditExcess + (r.available + n - r.advertised)) 4294967295 } })) ∧
    (∀ bytes, ModuleMsg.decode bytes = none → exec (.undefinedLaneMessage i bytes) s = .next (match r.lane with
      | .up => s.setSlot i { r with counters := { r.counters with laneErrors := bump r.counters.laneErrors } }
      | .dormant => s.setSlot i { r with counters := { r.counters with dormantIgnored := bump r.counters.dormantIgnored } }
      | _ => s)) ∧
    (∀ k e a, s.oldestAnswer i = some (k, e) → e.answer = some a → let cost := (16 + a.data.length + 63) / 64
      (∀ x ∈ s.trans.ott, x.2.id = i.val → x.2.state = .answered → e.order ≤ x.2.order) ∧
      (r.lane = .up ∧ cost ≤ r.available → exec (.completionLaneSend i) s = .next ((s.freeOtt k).setSlot i { r with
        committed := r.committed ++ [.completion e.tag a.status.code a.data], available := r.available - cost })) ∧
      (r.lane ≠ .up ∨ (r.available < cost ∧ cost ≤ r.advertised) → exec (.completionLaneSend i) s = .next s)) ∧
    (∀ h e, s.firstWaiting i = some (h, e) →
      let write := e.op = .write ∨ e.op = .writeUnlock
      let data := if write then e.data else []
      let cost := (16 + data.length + 63) / 64
      (∀ x ∈ s.trans.inbound, x.2.slot = i.val → x.2.state = .waiting → e.order ≤ x.2.order) ∧
      (r.lane = .up ∧ cost ≤ r.available →
        exec (.inboundSend i) s = .next ((s.setIn h { e with state := .atModule }).setSlot i { r with
          committed := r.committed ++ [.inbound h e.who.frame e.who.id (decide write) e.length e.address data]
          available := r.available - cost })) ∧
      (r.lane ≠ .up ∨ (r.available < cost ∧ cost ≤ r.advertised) → exec (.inboundSend i) s = .next s)) ∧
    (∀ w rest, s.oldestAnswer i = none → r.waiting = w :: rest → w.refused = true → r.lane = .up → 1 ≤ r.available →
      exec (.completionLaneSend i) s = .next (State.updTrans (s.setSlot i { r with
        waiting := rest, committed := r.committed ++ [.completion w.req.tag Status.badRequest.code []]
        available := r.available - 1 }) (fun x => { x with refusedAtIssue := bump x.refusedAtIssue }))) ∧
    (∀ n, r.lane = .up → ∃ t, exec (.laneCreditReturn i n) s = .next t ∧
      let credits := min (r.available + n) r.advertised
      let first := fun m => ∃ more, (t.slot i).committed = r.committed ++ m :: more
      let noAnswer := ∀ k e, s.oldestAnswer i = some (k, e) → ∃ a, e.answer = some a ∧
        credits < (16 + a.data.length + 63) / 64 ∧ (16 + a.data.length + 63) / 64 ≤ r.advertised
      let noRefusal := s.oldestAnswer i = none → ∀ w ∈ r.waiting.head?, w.refused = false
      let noInbound := ∀ h e, s.firstWaiting i = some (h, e) → credits < e.cost ∧ e.cost ≤ r.advertised
      (∀ k e a, s.oldestAnswer i = some (k, e) → e.answer = some a → (16 + a.data.length + 63) / 64 ≤ credits →
        first (.completion e.tag a.status.code a.data)) ∧
      (∀ w rest, s.oldestAnswer i = none → r.waiting = w :: rest → w.refused = true → 1 ≤ credits →
        first (.completion w.req.tag Status.badRequest.code [])) ∧
      (∀ h e, noAnswer → noRefusal → s.firstWaiting i = some (h, e) → e.cost ≤ credits → first (e.message h)) ∧
      (∀ d rest, noAnswer → noRefusal → noInbound → r.state = .admitted → r.delivery = d :: rest →
        (16 + (s.sectionMessage d).data.length + 63) / 64 ≤ credits → first (.sectionMsg (s.sectionMessage d))))

/-! ## Transactions (chapter 8) -/

/-- R141 to R143, R148: a slot's request, alone at its lane's head, takes a free OTT entry with the fields of its
direct or windowed form and is checked: UNREACHABLE without a number, BAD_REQUEST or WRITE_PROTECTED by its window;
one in form that a port carries is queued there with hop budget 31, where nothing waits for that queue. A request
that already stands at the head fares as one that arrives. No other entry and no slot changes but for a request that
this frame's own CONTROLLER serves, whose effect is its own. What counts as contention for the table is the model's
choice (log entry 15), as are that an offer waits behind older ones (log entry 30) and that a request's data is taken as
received, whatever its length and operation (log entry 51). -/
def Obligations.RequestsAreIssued : Prop :=
  ∀ (i : Fin 16) (r : LaneRequest) (s : State), s.settled → (s.slot i).lane = .up → (s.slot i).waiting = [] →
    s.findOtt i r.tag = none → s.heldBy i < 8 → s.trans.ott.length ≤ 11 → s.trans.granted = [] →
    let w := s.window r.dest
    let dest := if r.windowed = true then w.frame else r.dest
    let target := if r.windowed = true then w.target else r.target
    let address := if r.windowed = true then w.base + r.address else r.address
    let data := if r.windowed = true ∧ r.op = .write then w.swap.apply r.data else r.data
    let usable := r.dest ≤ 63 ∧ w.enabled = true ∧ r.address + r.length ≤ w.size
    let refused := s.topo.frameNumber = none ∨ (r.windowed = true ∧ (¬usable ∨ (w.readOnly = true ∧ r.op = .write)))
    let controller := target = controllerTarget ∧ s.routeTo dest = some .here
    exec (.slotRequestTaken i none) (s.setSlot i { s.slot i with waiting := [⟨r, false⟩] }) =
      exec (.slotRequestTaken i (some r)) s ∧
    ∃ k t, exec (.slotRequestTaken i (some r)) s = .next t ∧ k < 32 ∧ s.ottEntry k = none ∧
      (refused ∨ ¬controller →
        (∀ j, j ≠ k → t.ottEntry j = s.ottEntry j) ∧ (∀ j, t.slot j = s.slot j) ∧ t.trans.issued = bump s.trans.issued) ∧
      (s.topo.frameNumber = none → (t.ottEntry k).bind (·.answer) = some ⟨.unreachable, []⟩ ∧
        t.trans.unreachable = bump s.trans.unreachable ∧ t.trans.refusedAtIssue = bump s.trans.refusedAtIssue) ∧
      (∀ f, s.topo.frameNumber = some f →
        (r.windowed = true ∧ ¬usable → (t.ottEntry k).bind (·.answer) = some ⟨.badRequest, []⟩ ∧
          t.trans.refusedAtIssue = bump s.trans.refusedAtIssue) ∧
        (r.windowed = true ∧ usable ∧ w.readOnly = true ∧ r.op = .write →
          (t.ottEntry k).bind (·.answer) = some ⟨.writeProtected, []⟩ ∧
          t.trans.refusedAtIssue = bump s.trans.refusedAtIssue) ∧
        (∀ p, (r.windowed = true → usable ∧ (w.readOnly = false ∨ r.op = .read)) → (r.op = .read ∨ r.op = .write) →
            dest ≤ 31 → validTarget target = true → 1 ≤ r.length → r.length ≤ 256 →
            s.routeTo dest = some (.port p) → s.isUp p = true → (s.port p).qRequest.length < 16 →
            s.requestWaiting p = false →
          t.port p = { s.port p with qRequest := (s.port p).qRequest ++ [{
            who := ⟨f, i, r.tag⟩, dest := dest, target := target, op := r.op, hop := 31, address := address
            length := r.length, ext := none, data := data }] } ∧
          t.port p.other = s.port p.other ∧
          t.ottEntry k = some {
            id := i, tag := r.tag, dest := dest, target := target, op := r.op, address := address, length := r.length
            data := data, ext := r.ext, window := if r.windowed = true then some r.dest else none
            swap := if r.windowed = true then w.swap else .none
            retry := if r.windowed = true then w.retry else r.retry
            retries := if r.windowed = true then w.retryLimit else if r.retry = true then 3 else 0
            deadline := s.localTime + s.trans.settings.timeout * Config.cyclesPerUs
            via := some (.port p), state := .sent, answer := none, order := s.serial }))

/-- R36, R37, R149 to R151, R157, R162: a request from a cable goes on out of the port of its destination, or, sent to
NEXT, out of the child port, its hop budget one lower; it is held while that queue has no room or others wait for it.
It is answered UNREACHABLE with no hops left or no way but back; for a slot here it joins the Inbound Request List or is
answered NO_TARGET or BUSY, as the slot's lock allows, LOCK_LOST for an unlock that holds no lock; an answer that cannot
go yet leaves it held. A request queue that gains room takes a held request, or an entry of the OTT. The flag by which
the two alternate is the model's choice (log entry 20), as are that an arrival waits behind older ones (log entry 30),
that an entry goes out with the frame number as it then stands, 63 after a release (log entry 39), that a budget above
31 is lowered by one like any other (log entry 60), and that a request to NEXT with no hops left is answered so before
its form is checked (log entry 63). -/
def Obligations.RequestsGoOnOrAreServed : Prop :=
  ∀ (q : PortId) (r : Request) (s : State), s.settled →
    let go := exec (.requestReceived q r) s
    let taken := fun (t : State) => t.updPort q (fun x => x.freeBuffer .request)
    let held := { s.updPort q (fun x => { x with heldRequests := x.heldRequests ++ [⟨s.serial, r⟩] }) with
      serial := s.serial + 1 }
    let forwarded := fun (p : PortId) =>
      go = .next (if s.isUp p = true ∧ (s.port p).qRequest.length < 16 ∧ s.requestWaiting p = false
        then taken (s.updPort p (fun x => { x with qRequest := x.qRequest ++ [{ r with hop := r.hop - 1 }] })) else held)
    let answered := fun (st : Status) (s1 : State) =>
      if s.takes r.who.frame = true then ∃ t, go = .next (taken t) ∧ Answered r.who st s1 t else go = .next held
    let y := s.slot r.target
    let l := s.lock r.target
    let mine := l.holder = some (r.who.frame, r.who.id)
    ((s.port q).state = .up ∧ (s.port q).heldRequests.length < 8 →
      (r.hop = 0 → answered .unreachable (s.updTrans (fun x => { x with unreachable := bump x.unreachable }))) ∧
      (r.hop ≠ 0 ∧ r.dest = nextCode →
        (r.target = controllerTarget ∧ r.op = .write → answered .denied s) ∧
        (r.target ≠ controllerTarget → answered .badRequest s) ∧
        (∀ f, r.target = controllerTarget ∧ r.op = .read ∧ r.address + r.length ≤ 32 ∧ s.topo.frameNumber = some f →
          (s.isChild .p0 = false ∧ s.isChild .p1 = false → answered .noFrame s) ∧
          (∀ p, s.isChild p = true ∧ p ≠ q ∧ ((s.isChild p.other = false ∧ s.topo.root = false) ∨
              (s.topo.root = true ∧ (r.ext.getD ⟨none, 0⟩).branch = (if p = .p0 then 0 else 1))) → forwarded p))) ∧
      (r.hop ≠ 0 ∧ r.dest ≠ nextCode →
        (∀ p, s.routeTo r.dest = some (.port p) → p ≠ q → forwarded p) ∧
        (s.routeTo r.dest = none ∨ s.routeTo r.dest = some (.port q) →
          answered .unreachable (s.updTrans (fun x => { x with unreachable := bump x.unreachable }))) ∧
        (s.routeTo r.dest = some .here → r.target ≤ 15 →
            (r.op = .read ∨ r.op = .write ∨ r.op = .readLock ∨ r.op = .writeUnlock) →
          (y.state ≠ .admitted →
            answered .noTarget (s.updTrans (fun x => { x with noTargetAnswers := bump x.noTargetAnswers }))) ∧
          (y.state = .admitted ∧ (tfree s.trans.inbound 16 = none ∨ 4 ≤ s.inboundCount r.target) →
            answered .busy (s.updTrans (fun x => { x with busyAnswers := bump x.busyAnswers }))) ∧
          (∀ h, y.state = .admitted ∧ tfree s.trans.inbound 16 = some h ∧ s.inboundCount r.target < 4 →
            (r.op = .writeUnlock ∧ ¬(mine ∧ l.releasing = false) →
              answered .lockLost (s.updTrans (fun x => { x with lockLost := bump x.lockLost }))) ∧
            (r.op ≠ .writeUnlock ∧ l.holder.isSome = true ∧ (¬mine ∨ (l.releasing = true ∧ r.op = .readLock)) →
              answered .busy (s.updTrans (fun x => { x with
                busyAnswers := bump x.busyAnswers, lockConflicts := bump x.lockConflicts }))) ∧
            ((l.holder = none ∧ r.op ≠ .writeUnlock) ∨ (mine ∧ l.releasing = false) ∨
                (mine ∧ (r.op = .read ∨ r.op = .write)) → ∃ t, go = .next t ∧
              t.inEntry h = some { who := r.who, slot := r.target, op := r.op, address := r.address, length := r.length
                                   data := r.data, source := .port q, state := .waiting, answer := none
                                   order := s.serial
                                   deadline := s.localTime + s.trans.settings.responseLimit * Config.cyclesPerUs } ∧
              (∀ j, j ≠ h → t.inEntry j = s.inEntry j) ∧
              t.lock r.target = (if r.op = .readLock then { l with
                  holder := some (r.who.frame, r.who.id)
                  expiry := s.localTime + s.trans.settings.lockHold * Config.cyclesPerUs }
                else if r.op = .writeUnlock then { l with releasing := true, expiry := 0, unlockHandle := some h }
                else l) ∧
              (∀ j, j ≠ r.target → t.lock j = s.lock j) ∧ t.slots = s.slots ∧ t.mgmt = s.mgmt))))) ∧
    (∀ p, s.isUp p = true → (s.port p).qRequest.length < 16 →
      (∀ k e, s.oldestHeldOut p = none → s.oldestQueued p = some (k, e) →
        (∀ x ∈ s.trans.ott, x.2.state = .queued → x.2.via = some (.port p) → e.order ≤ x.2.order) ∧
        exec (.transactionQueueTake p .request) s = .next ((s.setOtt k { e with state := .sent }).updPort p (fun x => { x with
          qRequest := x.qRequest ++ [e.request s.frameCode], reqTookHeld := false }))) ∧
      (∀ o h, s.oldestHeldOut p = some (o, h) → ((s.port p).reqTookHeld = false ∨ s.oldestQueued p = none) →
        exec (.transactionQueueTake p .request) s = .next (((s.updPort p (fun x => { x with
          qRequest := x.qRequest ++ [{ h.req with hop := h.req.hop - 1 }] })).updPort o (fun x =>
            { x with heldRequests := x.heldRequests.filter (fun e => e ≠ h) }.freeBuffer .request)).updPort p (fun x =>
              { x with reqTookHeld := true }))))

/-- R149, R151 to R154: a completion for this frame answers its entry, its read data rearranged by the entry's Swap,
or after BUSY puts one with retries left into BACKOFF; one for no entry is late; one for another frame goes on with
one hop less, or is held while that queue has no room or others wait for it; one for an entry ANSWERED already is late. A
deadline retries an entry or answers it TIMEOUT; the end of a backoff issues it again; that the rows of these do
nothing before the time is reached is the model's choice (log entry 2). A completion queue that gains room
takes a held completion, or the oldest answer of the Inbound Request List; a held completion dropped then takes no turn.
The flag by which the two alternate is the model's choice (log entry 20), as are that an offer waits behind older ones
(log entry 30) and that a budget above 31 is lowered by one like any other (log entry 60). -/
def Obligations.CompletionsReachTheirEntries : Prop :=
  ∀ s : State, s.settled →
    let backedOff := fun (k : Nat) (e : OttEntry) => State.updTrans (s.setOtt k { e with
      state := .backoff, retries := e.retries - 1, via := none, deadline := s.localTime + Config.backoffCycles })
      (fun x => { x with retries := bump x.retries })
    let answered := fun (k : Nat) (e : OttEntry) (st : Status) (d : List Byte) => { s.setOtt k { e with
      state := .answered, via := none, order := s.serial, answer := some ⟨st, d⟩ } with serial := s.serial + 1 }
    (∀ (q : PortId) (c : Completion), (s.port q).state = .up → (s.port q).heldCompletions.length < 8 →
      let go := exec (.completionReceived q c) s
      let taken := fun (t : State) => t.updPort q (fun x => x.freeBuffer .completion)
      (s.topo.frameNumber = some c.who.frame →
        (∀ k e, s.findOtt c.who.id c.who.tag = some k → s.ottEntry k = some e → c.who.id ≤ 15 → e.state ≠ .answered →
          let st := Status.received c.status
          (st = .busy ∧ e.retry = true ∧ 0 < e.retries → go = .next (taken (backedOff k e))) ∧
          (¬(st = .busy ∧ e.retry = true ∧ 0 < e.retries) → go = .next (taken (answered k e st
            (if st = .ok ∧ (e.op = .read ∨ e.op = .readLock) then e.swap.apply c.data else []))))) ∧
        (s.findOtt c.who.id c.who.tag = none ∨ (∃ k e, s.findOtt c.who.id c.who.tag = some k ∧
            s.ottEntry k = some e ∧ e.state = .answered) →
          go = .next (taken (s.updTrans (fun x => { x with lateCompletions := bump x.lateCompletions }))))) ∧
      (s.topo.frameNumber ≠ some c.who.frame →
        (∀ p, c.hop ≠ 0 → s.routeTo c.who.frame = some (.port p) → p ≠ q →
          go = .next (if s.takes c.who.frame = true
            then taken (s.updPort p (fun x => { x with qCompletion := x.qCompletion ++ [{ c with hop := c.hop - 1 }] }))
            else { s.updPort q (fun x => { x with heldCompletions := x.heldCompletions ++ [⟨s.serial, c⟩] }) with
              serial := s.serial + 1 })) ∧
        (c.hop = 0 ∨ s.routeTo c.who.frame = none ∨ s.routeTo c.who.frame = some (.port q) →
          go = .next (taken (s.updTrans (fun x => { x with completionsDropped := bump x.completionsDropped })))))) ∧
    (∀ (k : Fin 32) (e : OttEntry), s.ottEntry k = some e → s.localTime < e.deadline →
      exec (.transactionDeadline k) s = .next s ∧ exec (.backoffEnd k) s = .next s) ∧
    (∀ (k : Fin 32) (e : OttEntry), s.ottEntry k = some e → e.deadline ≤ s.localTime →
      ((e.state = .queued ∨ e.state = .sent) ∧ e.retry = true ∧ 0 < e.retries →
        exec (.transactionDeadline k) s = .next (backedOff k e)) ∧
      ((e.state = .queued ∨ e.state = .sent) ∧ (e.retry = false ∨ e.retries = 0) ∧ e.id ≤ 15 →
        exec (.transactionDeadline k) s = .next (State.updTrans (answered k e .timeout [])
          (fun x => { x with timeouts := bump x.timeouts }))) ∧
      (∀ f p, e.state = .backoff → e.dest ≠ nextCode → s.topo.frameNumber = some f →
          s.routeTo e.dest = some (.port p) → s.isUp p = true → (s.port p).qRequest.length < 16 →
          s.requestWaiting p = false →
        exec (.backoffEnd k) s = .next ((s.setOtt k { e with
          state := .sent, via := some (.port p)
          deadline := s.localTime + s.trans.settings.timeout * Config.cyclesPerUs }).updPort p (fun x => { x with
            qRequest := x.qRequest ++ [e.request f] })))) ∧
    (∀ p h e a, s.heldFor p = [] → s.oldestInboundAnswer p = some (h, e) → s.inEntry h = some e → e.answer = some a →
        s.routeTo e.who.frame = some (.port p) → s.accepts e.who.frame = true →
      exec (.transactionQueueTake p .completion) s = .next ((s.updPort p (fun x => { x with
        qCompletion := x.qCompletion ++ [⟨e.who, a.status.code, 31, if a.status = .ok then a.data else []⟩]
        compTookHeld := false })).delIn h)) ∧
    (∀ p q h, s.heldFor p = [.comp q h] → p ≠ q → s.topo.frameNumber ≠ some h.comp.who.frame → h.comp.hop ≠ 0 →
        s.routeTo h.comp.who.frame = some (.port p) → s.accepts h.comp.who.frame = true →
        ((s.port p).compTookHeld = false ∨ s.oldestInboundAnswer p = none) →
      exec (.transactionQueueTake p .completion) s = .next (((s.updPort p (fun x => { x with
        qCompletion := x.qCompletion ++ [{ h.comp with hop := h.comp.hop - 1 }] })).updPort q (fun x =>
          { x with heldCompletions := x.heldCompletions.filter (fun e => e ≠ h) }.freeBuffer .completion)).updPort p (fun x =>
            { x with compTookHeld := true }))) ∧
    (∀ p q h, s.heldFor p = [.comp q h] → s.topo.frameNumber ≠ some h.comp.who.frame → h.comp.hop = 0 →
        ((s.port p).compTookHeld = false ∨ s.oldestInboundAnswer p = none) → h ∈ (s.port q).heldCompletions →
      exec (.transactionQueueTake p .completion) s = .next ((s.updTrans (fun x => { x with
        completionsDropped := bump x.completionsDropped })).updPort q (fun x =>
          { x with heldCompletions := x.heldCompletions.filter (fun e => e ≠ h) }.freeBuffer .completion)))

/-- R158 to R160, R162, R163, R184: a module's reply answers the entry it names with its status and data, or, where it
is no reply to its operation, with BAD_REQUEST and none; the completion carries data where the status is OK, and the
entry keeps its answer while the completion waits; a reply for no such entry is discarded; a Response Deadline answers
TARGET_TIMEOUT; an answered unlock releases the lock, and so does its Expiry once reached, which may complete a drain
(R131). That the row of a Response Deadline does nothing before its time is the model's choice (log entry 2), as is that
an answer waits behind older ones (log entry 30). -/
def Obligations.RepliesAndLocksEnd : Prop :=
  ∀ s : State,
    let answered := fun (h : Nat) (e : InEntry) (st : Status) (d : List Byte) =>
      let u := { s.setIn h { e with state := .answering, answer := some ⟨st, d⟩, order := s.serial } with
        serial := s.serial + 1 }
      if (s.lock e.slot).unlockHandle = some h then u.setLock e.slot {} else u
    (s.settled → ∀ (i : Fin 16) (h code : Nat) (data : List Byte), (s.slot i).lane = .up →
      (∀ e, s.inEntry h = some e → e.state = .atModule → e.slot = i.val →
        let write := e.op = .write ∨ e.op = .writeUnlock
        let good := if write then data = [] ∧ (code = Status.ok.code ∨ code = Status.busy.code)
          else data.length = e.length ∧ code ≤ 17
        let st := if good then Status.received code else .badRequest
        let d := if good then data else []
        (∀ p, e.source = .port p → s.takes e.who.frame = true →
          ∃ t, exec (.moduleReply i h code data) s = .next (t.delIn h) ∧
            sendCompletion false e.who st (if st = .ok then d else []) (answered h e st d) = some t) ∧
        (∀ p, e.source = .port p → s.routeTo e.who.frame = some (.port p) → 16 ≤ (s.port p).qCompletion.length →
          exec (.moduleReply i h code data) s = .next (answered h e st d))) ∧
      (s.inEntry h = none → exec (.moduleReply i h code data) s = .next (s.updTrans (fun x => { x with
        repliesDiscarded := bump x.repliesDiscarded })))) ∧
    (s.settled → ∀ (h : Fin 16) e, s.inEntry h = some e → s.localTime < e.deadline →
      exec (.responseDeadline h) s = .next s) ∧
    (s.settled → ∀ (h : Fin 16) e p, s.inEntry h = some e → e.deadline ≤ s.localTime → e.state ≠ .answering →
        e.source = .port p → s.takes e.who.frame = true →
      ∃ t, exec (.responseDeadline h) s = .next (t.delIn h) ∧ Answered e.who .targetTimeout
        (State.updTrans (answered h e .targetTimeout []) (fun x => { x with targetTimeouts := bump x.targetTimeouts })) t) ∧
    (∀ i : Fin 16, let r := s.slot i
      let expired := raise .lockExpired (State.updTrans (s.setLock i {}) (fun x => { x with lockExpiries := bump x.lockExpiries }))
      (s.settled → exec (.lockExpiry i) s = .next (if (s.lock i).holder.isSome = true ∧ (s.lock i).releasing = false ∧
          (s.lock i).expiry ≤ s.localTime then expired else s)) ∧
      (∀ d, s.routed → (∀ j, j ≠ i.val → (s.slot j).drain = none) → r.state = .extracting → r.drain = some d →
          d.boundaryPassed = true → (∀ x ∈ s.trans.inbound, x.2.slot ≠ i.val) → (∀ x ∈ s.trans.ott, x.2.id ≠ i.val) →
          r.waiting = [] → (s.lock i).holder.isSome = true → (s.lock i).releasing = false → (s.lock i).expiry ≤ s.localTime →
        exec (.lockExpiry i) s = .next (raise .slotQuiesced (expired.setSlot i { r with
          state := .quiesced, powerEnable := false, removal := true, timer := none, drain := none, lane := .off
          advertised := 0, available := 0, committed := [], lastCause := .drainComplete }))))

/-! ## Settings, channels and management (chapters 8 to 10) -/

/-- R36, R144, R147, R174, R175, R177: the Manager's writes of settings, windows, the Event Summary and the Manager
itself, each with its refusals; every write that is a command of its own, within the ranges of its operands, is DENIED
to any other requester, and changes nothing else but the count of these; where the controller is UNNUMBERED it is DENIED
to all, as a request to NEXT, and not counted: the last is the model's choice (log entry 42), as is that the four bits
of Notice Enable above the 28 kinds are dropped (log entry 22). -/
def Obligations.OnlyTheManagerWrites : Prop :=
  ∀ (who : Requester) (s : State), s.accepts who.frame = true →
    (s.obeys who = true →
      (∀ w : TransSettings, ∃ t, exec (.transactionSettingsWrite who w) s = .next t ∧
        if (1 ≤ w.timeout ∧ w.timeout ≤ 4095) ∧ (1 ≤ w.responseLimit ∧ w.responseLimit ≤ 4095) ∧
            (1 ≤ w.lockHold ∧ w.lockHold ≤ 4095)
        then Answered who .ok (s.wrote.updTrans (fun x => { x with settings := w })) t
        else Answered who .badRequest s.wrote t) ∧
      (∀ k w, k ≤ 63 → ∃ t, exec (.windowWrite who k [w]) s = .next t ∧
        (s.trans.guard.covers k = true → Answered who .writeProtected s.wrote t) ∧
        (s.trans.guard.covers k = false ∧ (31 < w.frame ∨ 3 < w.swap ∨ w.base % w.size ≠ 0 ∨ 7 < w.retryLimit ∨
          w.size < 4096 ∨ 2 ^ 30 < w.size ∨ validTarget w.target = false) → Answered who .badRequest s.wrote t) ∧
        (∀ sw n, s.trans.guard.covers k = false ∧ Swap.ofCode w.swap = some sw ∧ w.frame ≤ 31 ∧
            validTarget w.target = true ∧ w.size = 2 ^ n ∧ 12 ≤ n ∧ n ≤ 30 ∧ w.base % w.size = 0 ∧ w.base < 2 ^ 32 ∧
            w.policy ≤ 1 ∧ w.retryLimit ≤ 7 →
          Answered who .ok (s.wrote.setWindow k {
            enabled := w.enabled, frame := w.frame, target := w.target, base := w.base, size := w.size, swap := sw
            readOnly := w.readOnly, retry := w.policy == 1, retryLimit := w.retryLimit }) t)) ∧
      (∀ w : GuardWrite, ∃ t, exec (.windowGuardWrite who w) s = .next t ∧
        if s.trans.guard.locked = true then Answered who .writeProtected s.wrote t
        else if w.low ≤ 63 ∧ w.high ≤ 63 then Answered who .ok
          (s.wrote.updTrans (fun x => { x with guard := ⟨w.low, w.high, w.complement, w.locked⟩ })) t
        else Answered who .badRequest s.wrote t) ∧
      (∀ frame slot, ∃ t, exec (.managerWrite who frame slot) s = .next t ∧
        if frame ≤ 31 ∧ slot ≤ 15 then Answered who .ok (s.wrote.updMgmt (fun m => { m with manager := some (frame, slot) })) t
        else Answered who .badRequest s.wrote t) ∧
      (∀ kinds, ∃ s1 t, exec (.eventSummaryClear who kinds) s = .next t ∧ Answered who .ok s1 t ∧
        s1 = { s.wrote with mgmt := s1.mgmt } ∧ s1.mgmt.writes = bump s.mgmt.writes ∧
        (∀ k, k < 28 → s1.event k = if kinds.getLsbD k = true then {} else s.event k) ∧
        s1.mgmt.attentionSet = (if kinds.getLsbD EventKind.attention.code = true then 0 else s.mgmt.attentionSet) ∧
        s1.mgmt.inFlight = s.mgmt.inFlight.map (fun n =>
          if n.kind < 28 ∧ kinds.getLsbD n.kind = true then { n with stale := true } else n)) ∧
      (∀ enable address, ∃ t, exec (.noticeEnableWrite who enable address) s = .next t ∧
        (address % 16 ≠ 0 → Answered who .badRequest s.wrote t) ∧
        (address % 16 = 0 → ∃ s1, Answered who .ok s1 t ∧ s1 = { s.wrote with mgmt := s1.mgmt } ∧
          s1.mgmt.noticeAddress = address ∧ s1.mgmt.noticeEnable = enable &&& 0x0FFFFFFF ∧
          ∀ k, k < 28 → let e := s.event k
            let n := if enable.getLsbD k = true ∧ e.pending = true ∧ e.notice = .none then NoticeState.awaiting
              else if enable.getLsbD k = false ∧ e.notice = .awaiting then .none else e.notice
            s1.event k = { e with notice := n }))) ∧
    ((s.topo.frameNumber.isSome = true ∧ s.isManager who = false) ∨ s.topo.frameNumber = none →
      ∀ (i : Fin 16) (c : Fin 4) (p : PortId) v f l ts tb te rw bw ww gw cs ss bits set, ∃ t,
      Answered who .denied (if s.topo.frameNumber.isSome = true
        then { s with mgmt := { s.mgmt with deniedWrites := bump s.mgmt.deniedWrites } } else s) t ∧
      (∀ x ∈ [.transactionSettingsWrite who ts, .windowWrite who f ww, .windowGuardWrite who gw, .managerWrite who f l,
          .eventSummaryClear who bits, .noticeEnableWrite who bits f, .rootTrimWrite who v, .rackTimeLoad who f,
          .timebaseSettingsWrite who tb, .triggerMapWrite who l te, .routeTableWrite who f rw, .routeGuardWrite who gw,
          .bindingWrite who f bw, .admitSlot who i, .unpark who i, .clear who i, .channelSetupWrite who c cs,
          .start who c, .pause who c, .resume who c, .abort who c, .rateRequestWrite who p f, .startBurst who p,
          .loopbackFar who p, .loopbackOff who p, .attentionRemovalWrite who set],
        Instr.wf x = true → exec x s = .next t) ∧
      ∀ x ∈ [.eject who i, .park who i, .slotReset who i, .slotSettingsWrite who i ss, .retrain who p, .loopbackNear who p,
          .releaseNumber who, .controllerReset who], Instr.wf x = true → exec x s = .next (finish t))

/-- R178: an attention edge of an ADMITTED slot with Attention Enable joins the slot to the Attention Set, where it may
stand already, and raises ATTENTION; any other edge is ignored. Clearing ATTENTION empties the set; the Manager removes
slots, and a set left empty clears ATTENTION as R177 does, while one left with slots leaves its record alone. -/
def Obligations.AttentionIsTaken : Prop :=
  ∀ (i : Fin 16) (who : Requester) (s : State), let e := s.event EventKind.attention.code
    (∃ t, exec (.attentionEdge i) s = .next t ∧ if (s.slot i).state = .admitted ∧ (s.slot i).attention = true
      then t = { s with mgmt := t.mgmt } ∧
        t.mgmt = { s.mgmt with attentionSet := t.mgmt.attentionSet, summary := t.mgmt.summary } ∧
        (∀ j, t.mgmt.attentionSet.getLsbD j = (s.mgmt.attentionSet.getLsbD j || j == i.val)) ∧
        t.event EventKind.attention.code = {
          pending := true, count := min (e.count + 1) 255
          notice := if e.pending = true then e.notice
            else if s.mgmt.noticeEnable.getLsbD EventKind.attention.code = true then .awaiting else .none } ∧
        (∀ k, k ≠ EventKind.attention.code → t.event k = s.event k)
      else t = s) ∧
    (s.obeys who = true → s.accepts who.frame = true →
      (∀ kinds, kinds.getLsbD EventKind.attention.code = true → ∃ s1 t, exec (.eventSummaryClear who kinds) s = .next t ∧
        Answered who .ok s1 t ∧ s1.mgmt.attentionSet = 0 ∧ s1.event EventKind.attention.code = {}) ∧
      (∀ set, ∃ s1 t, exec (.attentionRemovalWrite who set) s = .next t ∧ Answered who .ok s1 t ∧
        s1 = { s.wrote with mgmt := s1.mgmt } ∧ s1.mgmt.attentionSet = s.mgmt.attentionSet &&& ~~~set ∧
        (∀ k, k ≠ EventKind.attention.code → s1.event k = s.event k) ∧
        (s.mgmt.attentionSet &&& ~~~set = 0 → s1.event EventKind.attention.code = {} ∧
          s1.mgmt.inFlight = s.mgmt.inFlight.map (fun n =>
            if n.kind = EventKind.attention.code then { n with stale := true } else n)) ∧
        (s.mgmt.attentionSet &&& ~~~set ≠ 0 →
          s1.event EventKind.attention.code = e ∧ s1.mgmt.inFlight = s.mgmt.inFlight)))

/-- R165, R167: a channel's setup is written when it is in range and the channel neither RUNNING nor PAUSED; START,
PAUSE, RESUME and ABORT act in the states that take them. -/
def Obligations.ChannelsAreCommanded : Prop :=
  ∀ (who : Requester) (c : Fin 4) (s : State), s.obeys who = true → s.accepts who.frame = true →
    let r := s.channel c
    let busy := r.state = .running ∨ r.state = .paused
    (∀ w : ChannelSetup, ∃ t, exec (.channelSetupWrite who c w) s = .next t ∧
      (busy → Answered who .inUse s.wrote t) ∧
      (¬busy ∧ (31 < w.srcFrame ∨ 31 < w.dstFrame ∨ w.length = 0 ∨ 2 ^ 24 < w.length ∨ 255 < w.pacing ∨ 1 < w.policy ∨
        (w.chunk ≠ 64 ∧ w.chunk ≠ 128 ∧ w.chunk ≠ 256)) → Answered who .badRequest s.wrote t) ∧
      (¬busy ∧ w.srcFrame ≤ 31 ∧ w.dstFrame ≤ 31 ∧ validTarget w.srcTarget = true ∧ validTarget w.dstTarget = true ∧
          1 ≤ w.length ∧ w.length ≤ 2 ^ 24 ∧ (w.chunk = 64 ∨ w.chunk = 128 ∨ w.chunk = 256) ∧ w.pacing ≤ 255 ∧ w.policy ≤ 1 →
        Answered who .ok (s.wrote.setChannel c { r with
          srcFrame := w.srcFrame, srcTarget := w.srcTarget, srcAddr := w.srcAddr, dstFrame := w.dstFrame
          dstTarget := w.dstTarget, dstAddr := w.dstAddr, length := w.length, chunk := w.chunk, pacing := w.pacing
          retry := w.policy == 1 }) t)) ∧
    (∃ t, exec (.start who c) s = .next t ∧ if busy then Answered who .inUse s.wrote t
      else Answered who .ok (s.wrote.setChannel c { r with
        state := .running, remaining := r.length, readOffset := 0, fault := none, starts := bump r.starts }) t) ∧
    (∃ t, exec (.pause who c) s = .next t ∧
      if r.state = .running then Answered who .ok (s.wrote.setChannel c { r with state := .paused }) t
      else if r.state = .paused then Answered who .ok s.wrote t else Answered who .badRequest s.wrote t) ∧
    (∃ t, exec (.resume who c) s = .next t ∧
      if r.state = .paused then Answered who .ok (s.wrote.setChannel c { r with state := .running }) t
      else if r.state = .running then Answered who .ok s.wrote t else Answered who .badRequest s.wrote t) ∧
    (∃ t, exec (.abort who c) s = .next t ∧
      Answered who .ok (s.wrote.setChannel c { r with state := .idle, inFlight := [] }) t)

/-- R168 to R172, R179, 11.4: a RUNNING channel reads its next chunk and writes the oldest one it holds, each by a
request that a port carries under a tag its entries do not use; the last write's OK ends the move, and another status
faults it. The notice engine writes the 16 bytes of the next AWAITING kind to the Manager. Nothing waits for the queue,
and none contends for the table: what that means is the model's choice (log entries 15 and 30), as are that Chunks This
Epoch stays at 255 under FREE pacing (log entry 52) and that an item WRITING keeps its data (log entry 70). The next kind is
the first that is AWAITING in code order after Last Notice Kind, round from the lowest. -/
def Obligations.ChunksAndNoticesAreSent : Prop :=
  ∀ (s : State) (f : Nat) (p : PortId), s.settled → s.topo.frameNumber = some f → s.isUp p = true →
    (s.port p).qRequest.length < 16 → s.requestWaiting p = false → s.trans.ott.length ≤ 11 → s.trans.granted = [] →
    let sent := fun (t : State) (r : Request) => t.port p = { s.port p with qRequest := (s.port p).qRequest ++ [r] } ∧
      t.port p.other = s.port p.other ∧ t.slots = s.slots ∧ t.trans.issued = bump s.trans.issued
    (∀ c : Fin 4, let r := s.channel c
      let len := min r.chunk (r.length - r.readOffset)
      (r.state = .running → r.readOffset < r.length → r.inFlight = [] → (r.pacing = 0 ∨ r.chunksThisEpoch < r.pacing) →
          s.heldBy (16 + c) < 2 → r.srcFrame ≤ 31 → validTarget r.srcTarget = true → 1 ≤ r.chunk → r.chunk ≤ 256 →
          s.routeTo r.srcFrame = some (.port p) →
        ∃ t tag, exec (.chunkReadStart c) s = .next t ∧ s.findOtt (16 + c) tag = none ∧
          sent t { who := ⟨f, 16 + c, tag⟩, dest := r.srcFrame, target := r.srcTarget, op := .read, hop := 31
                   address := (r.srcAddr + r.readOffset) % 2 ^ 32, length := len, ext := none, data := [] } ∧
          t.channel c = { r with
            inFlight := [⟨r.readOffset, len, .reading, tag, []⟩], readOffset := r.readOffset + len
            chunksThisEpoch := min (r.chunksThisEpoch + 1) 255, nextTag := (tag + 1) % 32 }) ∧
      (∀ x, (r.state = .running ∨ r.state = .paused) → r.inFlight = [x] → x.stage = .held →
          s.heldBy (16 + c) < 2 → r.dstFrame ≤ 31 → validTarget r.dstTarget = true → 1 ≤ x.length → x.length ≤ 256 →
          s.routeTo r.dstFrame = some (.port p) →
        ∃ t tag, exec (.chunkWriteStart c) s = .next t ∧ s.findOtt (16 + c) tag = none ∧
          sent t { who := ⟨f, 16 + c, tag⟩, dest := r.dstFrame, target := r.dstTarget, op := .write, hop := 31
                   address := (r.dstAddr + x.offset) % 2 ^ 32, length := x.length, ext := none, data := x.data } ∧
          t.channel c = { r with inFlight := [{ x with stage := .writing, tag := tag }], nextTag := (tag + 1) % 32 }) ∧
      (∀ (q : PortId) (a : Completion) k e x, (s.port q).state = .up → (s.port q).heldCompletions.length < 8 →
          a.who.frame = f → a.who.id = 16 + c.val → s.findOtt a.who.id a.who.tag = some k → s.ottEntry k = some e →
          e.state = .sent → e.retry = false → r.inFlight = [x] → x.stage = .writing → x.tag = a.who.tag →
        ∃ t, exec (.completionReceived q a) s = .next t ∧ t.ottEntry k = none ∧ (t.channel c).inFlight = [] ∧
          (Status.received a.status = .ok → r.remaining = x.length →
            (t.channel c).state = .done ∧ (t.channel c).chunksWritten = bump r.chunksWritten ∧
            (t.event EventKind.channelDone.code).pending = true) ∧
          (Status.received a.status ≠ .ok →
            (t.channel c).state = .faulted ∧ (t.channel c).fault = some ⟨true, Status.received a.status⟩ ∧
            (t.event EventKind.channelFault.code).pending = true))) ∧
    (let after := fun (k : Nat) => (k + 28 - (s.mgmt.lastKind + 1) % 28) % 28
      ∀ k, s.nextNoticeKind = some k ↔ k < 28 ∧ (s.event k).notice = .awaiting ∧
        ∀ j, j < 28 → (s.event j).notice = .awaiting → after k ≤ after j) ∧
    (∀ k m i, s.mgmt.inFlight = none → s.mgmt.manager = some (m, i) → s.nextNoticeKind = some k → s.heldBy 20 = 0 →
        m ≤ 31 → validTarget i = true → s.routeTo m = some (.port p) →
      (s.event k).notice = .awaiting ∧ ∃ t, exec .noticeIssue s = .next t ∧
        sent t { who := ⟨f, 20, s.mgmt.nextTag⟩, dest := m, target := i, op := .write, hop := 31
                 address := s.mgmt.noticeAddress, length := 16, ext := none
                 data := beBytes 1 f ++ beBytes 1 k ++ beBytes 1 (s.event k).count ++ beBytes 5 0 ++
                   beBytes 8 (s.rtu.rackTime.toNat / 2 ^ 32) } ∧
        t.mgmt = { s.mgmt with inFlight := some ⟨k, s.mgmt.nextTag, false⟩, lastKind := k, nextTag := (s.mgmt.nextTag + 1) % 32 })

/-- R36, R39, R40, R100, R117, R161, R175, R181, 11.4: an ASSIGN gives an unnumbered controller its number and its Manager; a
release takes the number away once its completion stands in its queue, and the root refuses it; a controller reset
clears counters, maps and summary and keeps Rack Time, the pool and the lanes' credits; a READ of controller space answers the words of its
region; a WRITE of a field does what its own command does, and one that no region holds is a Bad Request, as is any
other operation. The place of the transaction settings in their region is the model's choice (log entry 13), as is the
answer to an undefined operation (log entry 14) which message of a lane counts as begun at the reset (log entry 41), and that the reset is performed also where its
completion is dropped (log entry 61). -/
def Obligations.NumbersAndResetsAct : Prop :=
  ∀ s : State, s.settled →
    (∀ (q : PortId) who hop expected branch data f, (s.port q).state = .up → (s.port q).heldRequests.length < 8 →
        s.topo.frameNumber = none → hop ≠ 0 → (expected = none ∨ expected = some s.unitId) → data.length = 4 →
        beNat data = f → 1 ≤ f → f ≤ 31 → tfind s.topo.directory f = none → who.frame ≠ f →
        s.routeTo who.frame ≠ some .here → s.takes who.frame = true →
      ∃ t, exec (.assign q who hop ⟨expected, branch⟩ data) s = .next t ∧ t.topo.frameNumber = some f ∧
        tfind t.topo.directory f = some ⟨.here, 0, s.unitId⟩ ∧ t.topo.assignsTaken = bump s.topo.assignsTaken ∧
        t.mgmt = { s.mgmt with manager := some (who.frame, who.id) } ∧ t.trans.ott = s.trans.ott) ∧
    (∀ who, s.obeys who = true → s.accepts who.frame = true →
      (s.topo.root = true → ∃ t, exec (.releaseNumber who) s = .next t ∧ Answered who .badRequest s.wrote t) ∧
      (s.topo.root = false → ∃ t1 t, exec (.releaseNumber who) s = .next t ∧ Answered who .ok s.wrote t1 ∧
        (∀ p, (t.port p).qCompletion = (t1.port p).qCompletion) ∧ t.topo = { s.topo with
        frameNumber := none, directory := s.topo.directory.filter (fun e => e.2.via ≠ .here) } ∧
        t.mgmt.manager = s.mgmt.manager ∧ t.rtu = s.rtu ∧ t.slots = s.slots) ∧
      (∃ t, exec (.controllerReset who) s = .next t ∧ t.router = {} ∧ t.trig = { originSeq := s.trig.originSeq } ∧
        t.topo.frameNumber = s.topo.frameNumber ∧ t.topo.directory = s.topo.directory ∧ t.topo.childMarks = 0 ∧
        t.rtu.rackTime = s.rtu.rackTime ∧ t.rtu.trim = s.rtu.trim ∧
        t.rtu.state = (if s.topo.root = true then .reference else .acquire) ∧ t.rtu.gi = 4 ∧ t.pool = s.pool ∧
        (∀ p, (t.port p).counters = {} ∧ (t.port p).rateRequest = .base) ∧
        (∀ k, (t.channel k).state = .idle ∧ (t.channel k).inFlight = []) ∧
        (∀ k e, k < 32 → t.ottEntry k = some e → e.state = .answered) ∧ (∀ k, t.lock k = {}) ∧
        (∀ k, k < 16 → (t.slot k).auto = true ∧ (t.slot k).counters = {} ∧ (t.slot k).delivery = [] ∧
          (∀ x, .sectionMsg x ∉ (t.slot k).committed.tail) ∧
          ((s.slot k).state ≠ .inserted → (t.slot k).available = (s.slot k).available ∧
            (t.slot k).advertised = (s.slot k).advertised)) ∧
        t.mgmt.manager = s.mgmt.manager ∧ (t.event EventKind.wasReset.code).pending = true ∧
        (∀ k, k < 27 → t.event k = {}))) ∧
    (∀ who, s.accepts who.frame = true →
      (∀ a b c, a < 2 ^ 32 → b < 2 ^ 32 → c < 2 ^ 32 → ∃ t,
        exec (.controllerWrite who 0x164018 (beBytes 4 a ++ beBytes 4 b ++ beBytes 4 c)) s = .next t ∧
        exec (.transactionSettingsWrite who ⟨a, b, c⟩) s = .next t) ∧
      (∀ kinds : BitVec 32, ∃ t, exec (.controllerWrite who 0x0C0074 (beBytes 4 kinds.toNat)) s = .next t ∧
        exec (.eventSummaryClear who kinds) s = .next t) ∧
      (∀ c : Fin 4, ∃ t, exec (.controllerWrite who (0x1C0018 + 128 * c) (beBytes 4 1)) s = .next t ∧
        exec (.start who c) s = .next t) ∧
      (∀ address data, s.topo.frameNumber.isSome = true → regionAt address data.length = none → ∃ t, exec (.controllerWrite who address data) s = .next t ∧
        Answered who .badRequest { s with mgmt := { s.mgmt with badRequests := bump s.mgmt.badRequests } } t)) ∧
    (∀ (q : PortId) (r : Request) g lo, (s.port q).state = .up → (s.port q).heldRequests.length < 8 → r.hop ≠ 0 →
        r.dest ≠ nextCode → s.routeTo r.dest = some .here → s.topo.frameNumber.isSome = true →
        r.target = controllerTarget → s.takes r.who.frame = true →
      (r.op = .read → regionAt r.address r.length = some (g, lo) → r.address % 4 = 0 → r.length % 4 = 0 →
        ∃ t, exec (.requestReceived q r) s = .next (t.updPort q (fun x => x.freeBuffer .request)) ∧
          sendCompletion false r.who .ok (s.readWords g lo (r.length / 4))
            { s with mgmt := { s.mgmt with reads := bump s.mgmt.reads } } = some t) ∧
      (regionAt r.address r.length = none ∨ r.address % 4 ≠ 0 ∨ r.length % 4 ≠ 0 ∨ r.op = .readLock ∨
          r.op = .writeUnlock ∨ r.op = .assign ∨ (∃ k, r.op = .undefined k) →
        ∃ t, exec (.requestReceived q r) s = .next (t.updPort q (fun x => x.freeBuffer .request)) ∧
          Answered r.who .badRequest { s with mgmt := { s.mgmt with badRequests := bump s.mgmt.badRequests } } t))
end

