-- ==== Sys2Proof/Laws/Table.lean ====
section
/-! SUPPORT. Laws/Table.lean: what reading a table gives after a write, and that every table operation
keeps the canonical form. -/

namespace Sys2Proof.Machine

variable {α : Type}

@[simp] theorem tfind_nil (k : Nat) : tfind ([] : List (Nat × α)) k = none := rfl

@[simp] theorem tgetD_nil (d : α) (k : Nat) : tgetD d [] k = d := rfl

/-- A deleted key is not found. -/
theorem tfind_tdel_same (t : List (Nat × α)) (k : Nat) : tfind (tdel t k) k = none := by
  induction t with
  | nil => rfl
  | cons e r ih =>
    obtain ⟨j, v⟩ := e
    by_cases h : j = k
    · simpa [tdel, h] using ih
    · simpa [tdel, tfind, h] using ih

/-- A deletion leaves every other key as it was. -/
theorem tfind_tdel_other (t : List (Nat × α)) {j k : Nat} (h : j ≠ k) : tfind (tdel t k) j = tfind t j := by
  induction t with
  | nil => rfl
  | cons e r ih =>
    obtain ⟨i, v⟩ := e
    by_cases hi : i = k
    · subst hi
      have : tdel ((i, v) :: r) i = tdel r i := by simp [tdel]
      rw [this, ih, tfind, if_neg (fun e => h e.symm)]
    · have : tdel ((i, v) :: r) k = (i, v) :: tdel r k := by simp [tdel, hi]
      rw [this, tfind, tfind, ih]

/-- A key inserted where it is not listed is found. -/
theorem tfind_tins_same (t : List (Nat × α)) (k : Nat) (v : α) (h : tfind t k = none) : tfind (tins k v t) k = some v := by
  induction t with
  | nil => simp [tins, tfind]
  | cons e r ih =>
    obtain ⟨i, w⟩ := e
    have hi : i ≠ k := by
      intro hik
      simp [tfind, hik] at h
    have hr : tfind r k = none := by simpa [tfind, hi] using h
    unfold tins
    split
    · simp [tfind]
    · simp [tfind, hi, ih hr]

/-- An insertion leaves every other key as it was. -/
theorem tfind_tins_other (t : List (Nat × α)) {j k : Nat} (v : α) (h : j ≠ k) : tfind (tins k v t) j = tfind t j := by
  induction t with
  | nil => simp [tins, tfind, Ne.symm h]
  | cons e r ih =>
    obtain ⟨i, w⟩ := e
    unfold tins
    split
    · simp [tfind, Ne.symm h]
    · simp [tfind, ih]

@[simp] theorem tfind_tput_same (t : List (Nat × α)) (k : Nat) (v : α) : tfind (tput t k v) k = some v :=
  tfind_tins_same _ _ _ (tfind_tdel_same t k)

theorem tfind_tput_other (t : List (Nat × α)) {j k : Nat} (v : α) (h : j ≠ k) : tfind (tput t k v) j = tfind t j := by
  rw [tput, tfind_tins_other _ _ h, tfind_tdel_other _ h]

/-- Reading a table after a write. -/
theorem tgetD_tset [DecidableEq α] (d : α) (t : List (Nat × α)) (k : Nat) (v : α) (j : Nat) :
    tgetD d (tset d t k v) j = if j = k then v else tgetD d t j := by
  unfold tset tgetD
  by_cases hv : v = d <;> by_cases hj : j = k
  · subst hj; simp [hv, tfind_tdel_same]
  · simp [hv, hj, tfind_tdel_other _ hj]
  · subst hj; simp [hv]
  · simp [hv, hj, tfind_tput_other _ _ hj]

@[simp] theorem tgetD_tset_same [DecidableEq α] (d : α) (t : List (Nat × α)) (k : Nat) (v : α) :
    tgetD d (tset d t k v) k = v := by simp [tgetD_tset]

theorem tgetD_tset_other [DecidableEq α] (d : α) (t : List (Nat × α)) (v : α) {j k : Nat} (h : j ≠ k) :
    tgetD d (tset d t k v) j = tgetD d t j := by simp [tgetD_tset, h]

/-! ## The canonical form -/

theorem tsorted_iff (t : List (Nat × α)) : tsorted t = true ↔ t.Pairwise (fun a b => a.1 < b.1) := by
  simp [tsorted]

theorem tsorted_nil : tsorted ([] : List (Nat × α)) = true := by simp [tsorted]

theorem tsorted_tdel {t : List (Nat × α)} (k : Nat) (h : tsorted t = true) : tsorted (tdel t k) = true := by
  rw [tsorted_iff] at h ⊢
  exact h.filter _

theorem mem_tins {t : List (Nat × α)} {k : Nat} {v : α} {e : Nat × α} (h : e ∈ tins k v t) : e = (k, v) ∨ e ∈ t := by
  induction t with
  | nil => simpa [tins] using h
  | cons x r ih =>
    unfold tins at h
    split at h
    · simpa using h
    · rcases List.mem_cons.mp h with h | h
      · exact .inr (h ▸ List.mem_cons_self)
      · rcases ih h with h | h
        · exact .inl h
        · exact .inr (List.mem_cons_of_mem _ h)

theorem tsorted_tins {t : List (Nat × α)} {k : Nat} {v : α} (h : tsorted t = true) (hk : ∀ e ∈ t, e.1 ≠ k) :
    tsorted (tins k v t) = true := by
  rw [tsorted_iff] at h ⊢
  induction t with
  | nil => simp [tins]
  | cons x r ih =>
    obtain ⟨hx, hr⟩ := List.pairwise_cons.mp h
    unfold tins
    split
    · rename_i hlt
      refine List.pairwise_cons.mpr ⟨fun e he => ?_, h⟩
      rcases List.mem_cons.mp he with rfl | he
      · exact hlt
      · exact Nat.lt_trans hlt (hx e he)
    · rename_i hge
      refine List.pairwise_cons.mpr ⟨fun e he => ?_, ih hr (fun e he => hk e (List.mem_cons_of_mem _ he))⟩
      rcases mem_tins he with rfl | he
      · exact Nat.lt_of_le_of_ne (Nat.le_of_not_lt hge) (hk x List.mem_cons_self)
      · exact hx e he

theorem mem_tdel {t : List (Nat × α)} {k : Nat} {e : Nat × α} : e ∈ tdel t k ↔ e ∈ t ∧ e.1 ≠ k := by
  simp [tdel]

theorem tsorted_tput {t : List (Nat × α)} (k : Nat) (v : α) (h : tsorted t = true) : tsorted (tput t k v) = true :=
  tsorted_tins (tsorted_tdel k h) (fun _ he => (mem_tdel.mp he).2)

/-- A table write keeps the canonical form. -/
theorem twf_tset [DecidableEq α] {d : α} {t : List (Nat × α)} (k : Nat) (v : α) (h : twf d t = true) :
    twf d (tset d t k v) = true := by
  simp only [twf, Bool.and_eq_true, List.all_eq_true, decide_eq_true_eq] at h ⊢
  obtain ⟨hs, hd⟩ := h
  unfold tset
  split
  · exact ⟨tsorted_tdel k hs, fun e he => hd e (mem_tdel.mp he).1⟩
  · refine ⟨tsorted_tput k v hs, fun e he => ?_⟩
    rcases mem_tins he with rfl | he
    · assumption
    · exact hd e (mem_tdel.mp he).1

end Sys2Proof.Machine
end

