-- ==== Sys2Proof/Laws/State.lean ====
section
/-! SUPPORT. Laws/State.lean: one lemma for each field under each update of the state, and what reading
a record gives after a write of it. -/

namespace Sys2Proof.Machine

variable (s : State)

/-! ## setPort -/

@[simp] theorem State.setPort_localTime (p : PortId) (r : Port) : (s.setPort p r).localTime = s.localTime := by cases p <;> rfl
@[simp] theorem State.setPort_unitId (p : PortId) (r : Port) : (s.setPort p r).unitId = s.unitId := by cases p <;> rfl
@[simp] theorem State.setPort_mgrSlot (p : PortId) (r : Port) : (s.setPort p r).mgrSlot = s.mgrSlot := by cases p <;> rfl
@[simp] theorem State.setPort_topo (p : PortId) (r : Port) : (s.setPort p r).topo = s.topo := by cases p <;> rfl
@[simp] theorem State.setPort_rtu (p : PortId) (r : Port) : (s.setPort p r).rtu = s.rtu := by cases p <;> rfl
@[simp] theorem State.setPort_trig (p : PortId) (r : Port) : (s.setPort p r).trig = s.trig := by cases p <;> rfl
@[simp] theorem State.setPort_router (p : PortId) (r : Port) : (s.setPort p r).router = s.router := by cases p <;> rfl
@[simp] theorem State.setPort_bindings (p : PortId) (r : Port) : (s.setPort p r).bindings = s.bindings := by cases p <;> rfl
@[simp] theorem State.setPort_pool (p : PortId) (r : Port) : (s.setPort p r).pool = s.pool := by cases p <;> rfl
@[simp] theorem State.setPort_slots (p : PortId) (r : Port) : (s.setPort p r).slots = s.slots := by cases p <;> rfl
@[simp] theorem State.setPort_trans (p : PortId) (r : Port) : (s.setPort p r).trans = s.trans := by cases p <;> rfl
@[simp] theorem State.setPort_channels (p : PortId) (r : Port) : (s.setPort p r).channels = s.channels := by cases p <;> rfl
@[simp] theorem State.setPort_mgmt (p : PortId) (r : Port) : (s.setPort p r).mgmt = s.mgmt := by cases p <;> rfl
@[simp] theorem State.setPort_sideband (p : PortId) (r : Port) : (s.setPort p r).sideband = s.sideband := by cases p <;> rfl
@[simp] theorem State.setPort_serial (p : PortId) (r : Port) : (s.setPort p r).serial = s.serial := by cases p <;> rfl
@[simp] theorem State.setPort_pending (p : PortId) (r : Port) : (s.setPort p r).pending = s.pending := by cases p <;> rfl

/-! ## updPort -/

@[simp] theorem State.updPort_localTime (p : PortId) (f : Port → Port) : (s.updPort p f).localTime = s.localTime := by cases p <;> rfl
@[simp] theorem State.updPort_unitId (p : PortId) (f : Port → Port) : (s.updPort p f).unitId = s.unitId := by cases p <;> rfl
@[simp] theorem State.updPort_mgrSlot (p : PortId) (f : Port → Port) : (s.updPort p f).mgrSlot = s.mgrSlot := by cases p <;> rfl
@[simp] theorem State.updPort_topo (p : PortId) (f : Port → Port) : (s.updPort p f).topo = s.topo := by cases p <;> rfl
@[simp] theorem State.updPort_rtu (p : PortId) (f : Port → Port) : (s.updPort p f).rtu = s.rtu := by cases p <;> rfl
@[simp] theorem State.updPort_trig (p : PortId) (f : Port → Port) : (s.updPort p f).trig = s.trig := by cases p <;> rfl
@[simp] theorem State.updPort_router (p : PortId) (f : Port → Port) : (s.updPort p f).router = s.router := by cases p <;> rfl
@[simp] theorem State.updPort_bindings (p : PortId) (f : Port → Port) : (s.updPort p f).bindings = s.bindings := by cases p <;> rfl
@[simp] theorem State.updPort_pool (p : PortId) (f : Port → Port) : (s.updPort p f).pool = s.pool := by cases p <;> rfl
@[simp] theorem State.updPort_slots (p : PortId) (f : Port → Port) : (s.updPort p f).slots = s.slots := by cases p <;> rfl
@[simp] theorem State.updPort_trans (p : PortId) (f : Port → Port) : (s.updPort p f).trans = s.trans := by cases p <;> rfl
@[simp] theorem State.updPort_channels (p : PortId) (f : Port → Port) : (s.updPort p f).channels = s.channels := by cases p <;> rfl
@[simp] theorem State.updPort_mgmt (p : PortId) (f : Port → Port) : (s.updPort p f).mgmt = s.mgmt := by cases p <;> rfl
@[simp] theorem State.updPort_sideband (p : PortId) (f : Port → Port) : (s.updPort p f).sideband = s.sideband := by cases p <;> rfl
@[simp] theorem State.updPort_serial (p : PortId) (f : Port → Port) : (s.updPort p f).serial = s.serial := by cases p <;> rfl
@[simp] theorem State.updPort_pending (p : PortId) (f : Port → Port) : (s.updPort p f).pending = s.pending := by cases p <;> rfl

/-! ## countPort -/

@[simp] theorem State.countPort_localTime (p : PortId) (f : PortCounters → PortCounters) : (s.countPort p f).localTime = s.localTime := by cases p <;> rfl
@[simp] theorem State.countPort_unitId (p : PortId) (f : PortCounters → PortCounters) : (s.countPort p f).unitId = s.unitId := by cases p <;> rfl
@[simp] theorem State.countPort_mgrSlot (p : PortId) (f : PortCounters → PortCounters) : (s.countPort p f).mgrSlot = s.mgrSlot := by cases p <;> rfl
@[simp] theorem State.countPort_topo (p : PortId) (f : PortCounters → PortCounters) : (s.countPort p f).topo = s.topo := by cases p <;> rfl
@[simp] theorem State.countPort_rtu (p : PortId) (f : PortCounters → PortCounters) : (s.countPort p f).rtu = s.rtu := by cases p <;> rfl
@[simp] theorem State.countPort_trig (p : PortId) (f : PortCounters → PortCounters) : (s.countPort p f).trig = s.trig := by cases p <;> rfl
@[simp] theorem State.countPort_router (p : PortId) (f : PortCounters → PortCounters) : (s.countPort p f).router = s.router := by cases p <;> rfl
@[simp] theorem State.countPort_bindings (p : PortId) (f : PortCounters → PortCounters) : (s.countPort p f).bindings = s.bindings := by cases p <;> rfl
@[simp] theorem State.countPort_pool (p : PortId) (f : PortCounters → PortCounters) : (s.countPort p f).pool = s.pool := by cases p <;> rfl
@[simp] theorem State.countPort_slots (p : PortId) (f : PortCounters → PortCounters) : (s.countPort p f).slots = s.slots := by cases p <;> rfl
@[simp] theorem State.countPort_trans (p : PortId) (f : PortCounters → PortCounters) : (s.countPort p f).trans = s.trans := by cases p <;> rfl
@[simp] theorem State.countPort_channels (p : PortId) (f : PortCounters → PortCounters) : (s.countPort p f).channels = s.channels := by cases p <;> rfl
@[simp] theorem State.countPort_mgmt (p : PortId) (f : PortCounters → PortCounters) : (s.countPort p f).mgmt = s.mgmt := by cases p <;> rfl
@[simp] theorem State.countPort_sideband (p : PortId) (f : PortCounters → PortCounters) : (s.countPort p f).sideband = s.sideband := by cases p <;> rfl
@[simp] theorem State.countPort_serial (p : PortId) (f : PortCounters → PortCounters) : (s.countPort p f).serial = s.serial := by cases p <;> rfl
@[simp] theorem State.countPort_pending (p : PortId) (f : PortCounters → PortCounters) : (s.countPort p f).pending = s.pending := by cases p <;> rfl

/-! ## setSlot -/

@[simp] theorem State.setSlot_localTime (i : Nat) (r : Slot) : (s.setSlot i r).localTime = s.localTime := rfl
@[simp] theorem State.setSlot_unitId (i : Nat) (r : Slot) : (s.setSlot i r).unitId = s.unitId := rfl
@[simp] theorem State.setSlot_mgrSlot (i : Nat) (r : Slot) : (s.setSlot i r).mgrSlot = s.mgrSlot := rfl
@[simp] theorem State.setSlot_port0 (i : Nat) (r : Slot) : (s.setSlot i r).port0 = s.port0 := rfl
@[simp] theorem State.setSlot_port1 (i : Nat) (r : Slot) : (s.setSlot i r).port1 = s.port1 := rfl
@[simp] theorem State.setSlot_topo (i : Nat) (r : Slot) : (s.setSlot i r).topo = s.topo := rfl
@[simp] theorem State.setSlot_rtu (i : Nat) (r : Slot) : (s.setSlot i r).rtu = s.rtu := rfl
@[simp] theorem State.setSlot_trig (i : Nat) (r : Slot) : (s.setSlot i r).trig = s.trig := rfl
@[simp] theorem State.setSlot_router (i : Nat) (r : Slot) : (s.setSlot i r).router = s.router := rfl
@[simp] theorem State.setSlot_bindings (i : Nat) (r : Slot) : (s.setSlot i r).bindings = s.bindings := rfl
@[simp] theorem State.setSlot_pool (i : Nat) (r : Slot) : (s.setSlot i r).pool = s.pool := rfl
@[simp] theorem State.setSlot_trans (i : Nat) (r : Slot) : (s.setSlot i r).trans = s.trans := rfl
@[simp] theorem State.setSlot_channels (i : Nat) (r : Slot) : (s.setSlot i r).channels = s.channels := rfl
@[simp] theorem State.setSlot_mgmt (i : Nat) (r : Slot) : (s.setSlot i r).mgmt = s.mgmt := rfl
@[simp] theorem State.setSlot_sideband (i : Nat) (r : Slot) : (s.setSlot i r).sideband = s.sideband := rfl
@[simp] theorem State.setSlot_serial (i : Nat) (r : Slot) : (s.setSlot i r).serial = s.serial := rfl
@[simp] theorem State.setSlot_pending (i : Nat) (r : Slot) : (s.setSlot i r).pending = s.pending := rfl

/-! ## updSlot -/

@[simp] theorem State.updSlot_localTime (i : Nat) (f : Slot → Slot) : (s.updSlot i f).localTime = s.localTime := rfl
@[simp] theorem State.updSlot_unitId (i : Nat) (f : Slot → Slot) : (s.updSlot i f).unitId = s.unitId := rfl
@[simp] theorem State.updSlot_mgrSlot (i : Nat) (f : Slot → Slot) : (s.updSlot i f).mgrSlot = s.mgrSlot := rfl
@[simp] theorem State.updSlot_port0 (i : Nat) (f : Slot → Slot) : (s.updSlot i f).port0 = s.port0 := rfl
@[simp] theorem State.updSlot_port1 (i : Nat) (f : Slot → Slot) : (s.updSlot i f).port1 = s.port1 := rfl
@[simp] theorem State.updSlot_topo (i : Nat) (f : Slot → Slot) : (s.updSlot i f).topo = s.topo := rfl
@[simp] theorem State.updSlot_rtu (i : Nat) (f : Slot → Slot) : (s.updSlot i f).rtu = s.rtu := rfl
@[simp] theorem State.updSlot_trig (i : Nat) (f : Slot → Slot) : (s.updSlot i f).trig = s.trig := rfl
@[simp] theorem State.updSlot_router (i : Nat) (f : Slot → Slot) : (s.updSlot i f).router = s.router := rfl
@[simp] theorem State.updSlot_bindings (i : Nat) (f : Slot → Slot) : (s.updSlot i f).bindings = s.bindings := rfl
@[simp] theorem State.updSlot_pool (i : Nat) (f : Slot → Slot) : (s.updSlot i f).pool = s.pool := rfl
@[simp] theorem State.updSlot_trans (i : Nat) (f : Slot → Slot) : (s.updSlot i f).trans = s.trans := rfl
@[simp] theorem State.updSlot_channels (i : Nat) (f : Slot → Slot) : (s.updSlot i f).channels = s.channels := rfl
@[simp] theorem State.updSlot_mgmt (i : Nat) (f : Slot → Slot) : (s.updSlot i f).mgmt = s.mgmt := rfl
@[simp] theorem State.updSlot_sideband (i : Nat) (f : Slot → Slot) : (s.updSlot i f).sideband = s.sideband := rfl
@[simp] theorem State.updSlot_serial (i : Nat) (f : Slot → Slot) : (s.updSlot i f).serial = s.serial := rfl
@[simp] theorem State.updSlot_pending (i : Nat) (f : Slot → Slot) : (s.updSlot i f).pending = s.pending := rfl

/-! ## countSlot -/

@[simp] theorem State.countSlot_localTime (i : Nat) (f : SlotCounters → SlotCounters) : (s.countSlot i f).localTime = s.localTime := rfl
@[simp] theorem State.countSlot_unitId (i : Nat) (f : SlotCounters → SlotCounters) : (s.countSlot i f).unitId = s.unitId := rfl
@[simp] theorem State.countSlot_mgrSlot (i : Nat) (f : SlotCounters → SlotCounters) : (s.countSlot i f).mgrSlot = s.mgrSlot := rfl
@[simp] theorem State.countSlot_port0 (i : Nat) (f : SlotCounters → SlotCounters) : (s.countSlot i f).port0 = s.port0 := rfl
@[simp] theorem State.countSlot_port1 (i : Nat) (f : SlotCounters → SlotCounters) : (s.countSlot i f).port1 = s.port1 := rfl
@[simp] theorem State.countSlot_topo (i : Nat) (f : SlotCounters → SlotCounters) : (s.countSlot i f).topo = s.topo := rfl
@[simp] theorem State.countSlot_rtu (i : Nat) (f : SlotCounters → SlotCounters) : (s.countSlot i f).rtu = s.rtu := rfl
@[simp] theorem State.countSlot_trig (i : Nat) (f : SlotCounters → SlotCounters) : (s.countSlot i f).trig = s.trig := rfl
@[simp] theorem State.countSlot_router (i : Nat) (f : SlotCounters → SlotCounters) : (s.countSlot i f).router = s.router := rfl
@[simp] theorem State.countSlot_bindings (i : Nat) (f : SlotCounters → SlotCounters) : (s.countSlot i f).bindings = s.bindings := rfl
@[simp] theorem State.countSlot_pool (i : Nat) (f : SlotCounters → SlotCounters) : (s.countSlot i f).pool = s.pool := rfl
@[simp] theorem State.countSlot_trans (i : Nat) (f : SlotCounters → SlotCounters) : (s.countSlot i f).trans = s.trans := rfl
@[simp] theorem State.countSlot_channels (i : Nat) (f : SlotCounters → SlotCounters) : (s.countSlot i f).channels = s.channels := rfl
@[simp] theorem State.countSlot_mgmt (i : Nat) (f : SlotCounters → SlotCounters) : (s.countSlot i f).mgmt = s.mgmt := rfl
@[simp] theorem State.countSlot_sideband (i : Nat) (f : SlotCounters → SlotCounters) : (s.countSlot i f).sideband = s.sideband := rfl
@[simp] theorem State.countSlot_serial (i : Nat) (f : SlotCounters → SlotCounters) : (s.countSlot i f).serial = s.serial := rfl
@[simp] theorem State.countSlot_pending (i : Nat) (f : SlotCounters → SlotCounters) : (s.countSlot i f).pending = s.pending := rfl

/-! ## setBinding -/

@[simp] theorem State.setBinding_localTime (i : Nat) (b : Binding) : (s.setBinding i b).localTime = s.localTime := rfl
@[simp] theorem State.setBinding_unitId (i : Nat) (b : Binding) : (s.setBinding i b).unitId = s.unitId := rfl
@[simp] theorem State.setBinding_mgrSlot (i : Nat) (b : Binding) : (s.setBinding i b).mgrSlot = s.mgrSlot := rfl
@[simp] theorem State.setBinding_port0 (i : Nat) (b : Binding) : (s.setBinding i b).port0 = s.port0 := rfl
@[simp] theorem State.setBinding_port1 (i : Nat) (b : Binding) : (s.setBinding i b).port1 = s.port1 := rfl
@[simp] theorem State.setBinding_topo (i : Nat) (b : Binding) : (s.setBinding i b).topo = s.topo := rfl
@[simp] theorem State.setBinding_rtu (i : Nat) (b : Binding) : (s.setBinding i b).rtu = s.rtu := rfl
@[simp] theorem State.setBinding_trig (i : Nat) (b : Binding) : (s.setBinding i b).trig = s.trig := rfl
@[simp] theorem State.setBinding_router (i : Nat) (b : Binding) : (s.setBinding i b).router = s.router := rfl
@[simp] theorem State.setBinding_pool (i : Nat) (b : Binding) : (s.setBinding i b).pool = s.pool := rfl
@[simp] theorem State.setBinding_slots (i : Nat) (b : Binding) : (s.setBinding i b).slots = s.slots := rfl
@[simp] theorem State.setBinding_trans (i : Nat) (b : Binding) : (s.setBinding i b).trans = s.trans := rfl
@[simp] theorem State.setBinding_channels (i : Nat) (b : Binding) : (s.setBinding i b).channels = s.channels := rfl
@[simp] theorem State.setBinding_mgmt (i : Nat) (b : Binding) : (s.setBinding i b).mgmt = s.mgmt := rfl
@[simp] theorem State.setBinding_sideband (i : Nat) (b : Binding) : (s.setBinding i b).sideband = s.sideband := rfl
@[simp] theorem State.setBinding_serial (i : Nat) (b : Binding) : (s.setBinding i b).serial = s.serial := rfl
@[simp] theorem State.setBinding_pending (i : Nat) (b : Binding) : (s.setBinding i b).pending = s.pending := rfl

/-! ## setRoute -/

@[simp] theorem State.setRoute_localTime (k : Nat) (e : RouteEntry) : (s.setRoute k e).localTime = s.localTime := rfl
@[simp] theorem State.setRoute_unitId (k : Nat) (e : RouteEntry) : (s.setRoute k e).unitId = s.unitId := rfl
@[simp] theorem State.setRoute_mgrSlot (k : Nat) (e : RouteEntry) : (s.setRoute k e).mgrSlot = s.mgrSlot := rfl
@[simp] theorem State.setRoute_port0 (k : Nat) (e : RouteEntry) : (s.setRoute k e).port0 = s.port0 := rfl
@[simp] theorem State.setRoute_port1 (k : Nat) (e : RouteEntry) : (s.setRoute k e).port1 = s.port1 := rfl
@[simp] theorem State.setRoute_topo (k : Nat) (e : RouteEntry) : (s.setRoute k e).topo = s.topo := rfl
@[simp] theorem State.setRoute_rtu (k : Nat) (e : RouteEntry) : (s.setRoute k e).rtu = s.rtu := rfl
@[simp] theorem State.setRoute_trig (k : Nat) (e : RouteEntry) : (s.setRoute k e).trig = s.trig := rfl
@[simp] theorem State.setRoute_bindings (k : Nat) (e : RouteEntry) : (s.setRoute k e).bindings = s.bindings := rfl
@[simp] theorem State.setRoute_pool (k : Nat) (e : RouteEntry) : (s.setRoute k e).pool = s.pool := rfl
@[simp] theorem State.setRoute_slots (k : Nat) (e : RouteEntry) : (s.setRoute k e).slots = s.slots := rfl
@[simp] theorem State.setRoute_trans (k : Nat) (e : RouteEntry) : (s.setRoute k e).trans = s.trans := rfl
@[simp] theorem State.setRoute_channels (k : Nat) (e : RouteEntry) : (s.setRoute k e).channels = s.channels := rfl
@[simp] theorem State.setRoute_mgmt (k : Nat) (e : RouteEntry) : (s.setRoute k e).mgmt = s.mgmt := rfl
@[simp] theorem State.setRoute_sideband (k : Nat) (e : RouteEntry) : (s.setRoute k e).sideband = s.sideband := rfl
@[simp] theorem State.setRoute_serial (k : Nat) (e : RouteEntry) : (s.setRoute k e).serial = s.serial := rfl
@[simp] theorem State.setRoute_pending (k : Nat) (e : RouteEntry) : (s.setRoute k e).pending = s.pending := rfl

/-! ## setChannel -/

@[simp] theorem State.setChannel_localTime (c : Nat) (r : Channel) : (s.setChannel c r).localTime = s.localTime := rfl
@[simp] theorem State.setChannel_unitId (c : Nat) (r : Channel) : (s.setChannel c r).unitId = s.unitId := rfl
@[simp] theorem State.setChannel_mgrSlot (c : Nat) (r : Channel) : (s.setChannel c r).mgrSlot = s.mgrSlot := rfl
@[simp] theorem State.setChannel_port0 (c : Nat) (r : Channel) : (s.setChannel c r).port0 = s.port0 := rfl
@[simp] theorem State.setChannel_port1 (c : Nat) (r : Channel) : (s.setChannel c r).port1 = s.port1 := rfl
@[simp] theorem State.setChannel_topo (c : Nat) (r : Channel) : (s.setChannel c r).topo = s.topo := rfl
@[simp] theorem State.setChannel_rtu (c : Nat) (r : Channel) : (s.setChannel c r).rtu = s.rtu := rfl
@[simp] theorem State.setChannel_trig (c : Nat) (r : Channel) : (s.setChannel c r).trig = s.trig := rfl
@[simp] theorem State.setChannel_router (c : Nat) (r : Channel) : (s.setChannel c r).router = s.router := rfl
@[simp] theorem State.setChannel_bindings (c : Nat) (r : Channel) : (s.setChannel c r).bindings = s.bindings := rfl
@[simp] theorem State.setChannel_pool (c : Nat) (r : Channel) : (s.setChannel c r).pool = s.pool := rfl
@[simp] theorem State.setChannel_slots (c : Nat) (r : Channel) : (s.setChannel c r).slots = s.slots := rfl
@[simp] theorem State.setChannel_trans (c : Nat) (r : Channel) : (s.setChannel c r).trans = s.trans := rfl
@[simp] theorem State.setChannel_mgmt (c : Nat) (r : Channel) : (s.setChannel c r).mgmt = s.mgmt := rfl
@[simp] theorem State.setChannel_sideband (c : Nat) (r : Channel) : (s.setChannel c r).sideband = s.sideband := rfl
@[simp] theorem State.setChannel_serial (c : Nat) (r : Channel) : (s.setChannel c r).serial = s.serial := rfl
@[simp] theorem State.setChannel_pending (c : Nat) (r : Channel) : (s.setChannel c r).pending = s.pending := rfl

/-! ## updTrans -/

@[simp] theorem State.updTrans_localTime (f : Trans → Trans) : (s.updTrans f).localTime = s.localTime := rfl
@[simp] theorem State.updTrans_unitId (f : Trans → Trans) : (s.updTrans f).unitId = s.unitId := rfl
@[simp] theorem State.updTrans_mgrSlot (f : Trans → Trans) : (s.updTrans f).mgrSlot = s.mgrSlot := rfl
@[simp] theorem State.updTrans_port0 (f : Trans → Trans) : (s.updTrans f).port0 = s.port0 := rfl
@[simp] theorem State.updTrans_port1 (f : Trans → Trans) : (s.updTrans f).port1 = s.port1 := rfl
@[simp] theorem State.updTrans_topo (f : Trans → Trans) : (s.updTrans f).topo = s.topo := rfl
@[simp] theorem State.updTrans_rtu (f : Trans → Trans) : (s.updTrans f).rtu = s.rtu := rfl
@[simp] theorem State.updTrans_trig (f : Trans → Trans) : (s.updTrans f).trig = s.trig := rfl
@[simp] theorem State.updTrans_router (f : Trans → Trans) : (s.updTrans f).router = s.router := rfl
@[simp] theorem State.updTrans_bindings (f : Trans → Trans) : (s.updTrans f).bindings = s.bindings := rfl
@[simp] theorem State.updTrans_pool (f : Trans → Trans) : (s.updTrans f).pool = s.pool := rfl
@[simp] theorem State.updTrans_slots (f : Trans → Trans) : (s.updTrans f).slots = s.slots := rfl
@[simp] theorem State.updTrans_channels (f : Trans → Trans) : (s.updTrans f).channels = s.channels := rfl
@[simp] theorem State.updTrans_mgmt (f : Trans → Trans) : (s.updTrans f).mgmt = s.mgmt := rfl
@[simp] theorem State.updTrans_sideband (f : Trans → Trans) : (s.updTrans f).sideband = s.sideband := rfl
@[simp] theorem State.updTrans_serial (f : Trans → Trans) : (s.updTrans f).serial = s.serial := rfl
@[simp] theorem State.updTrans_pending (f : Trans → Trans) : (s.updTrans f).pending = s.pending := rfl

/-! ## setOtt -/

@[simp] theorem State.setOtt_localTime (i : Nat) (e : OttEntry) : (s.setOtt i e).localTime = s.localTime := rfl
@[simp] theorem State.setOtt_unitId (i : Nat) (e : OttEntry) : (s.setOtt i e).unitId = s.unitId := rfl
@[simp] theorem State.setOtt_mgrSlot (i : Nat) (e : OttEntry) : (s.setOtt i e).mgrSlot = s.mgrSlot := rfl
@[simp] theorem State.setOtt_port0 (i : Nat) (e : OttEntry) : (s.setOtt i e).port0 = s.port0 := rfl
@[simp] theorem State.setOtt_port1 (i : Nat) (e : OttEntry) : (s.setOtt i e).port1 = s.port1 := rfl
@[simp] theorem State.setOtt_topo (i : Nat) (e : OttEntry) : (s.setOtt i e).topo = s.topo := rfl
@[simp] theorem State.setOtt_rtu (i : Nat) (e : OttEntry) : (s.setOtt i e).rtu = s.rtu := rfl
@[simp] theorem State.setOtt_trig (i : Nat) (e : OttEntry) : (s.setOtt i e).trig = s.trig := rfl
@[simp] theorem State.setOtt_router (i : Nat) (e : OttEntry) : (s.setOtt i e).router = s.router := rfl
@[simp] theorem State.setOtt_bindings (i : Nat) (e : OttEntry) : (s.setOtt i e).bindings = s.bindings := rfl
@[simp] theorem State.setOtt_pool (i : Nat) (e : OttEntry) : (s.setOtt i e).pool = s.pool := rfl
@[simp] theorem State.setOtt_slots (i : Nat) (e : OttEntry) : (s.setOtt i e).slots = s.slots := rfl
@[simp] theorem State.setOtt_channels (i : Nat) (e : OttEntry) : (s.setOtt i e).channels = s.channels := rfl
@[simp] theorem State.setOtt_mgmt (i : Nat) (e : OttEntry) : (s.setOtt i e).mgmt = s.mgmt := rfl
@[simp] theorem State.setOtt_sideband (i : Nat) (e : OttEntry) : (s.setOtt i e).sideband = s.sideband := rfl
@[simp] theorem State.setOtt_serial (i : Nat) (e : OttEntry) : (s.setOtt i e).serial = s.serial := rfl
@[simp] theorem State.setOtt_pending (i : Nat) (e : OttEntry) : (s.setOtt i e).pending = s.pending := rfl

/-! ## delOtt -/

@[simp] theorem State.delOtt_localTime (i : Nat) : (s.delOtt i).localTime = s.localTime := rfl
@[simp] theorem State.delOtt_unitId (i : Nat) : (s.delOtt i).unitId = s.unitId := rfl
@[simp] theorem State.delOtt_mgrSlot (i : Nat) : (s.delOtt i).mgrSlot = s.mgrSlot := rfl
@[simp] theorem State.delOtt_port0 (i : Nat) : (s.delOtt i).port0 = s.port0 := rfl
@[simp] theorem State.delOtt_port1 (i : Nat) : (s.delOtt i).port1 = s.port1 := rfl
@[simp] theorem State.delOtt_topo (i : Nat) : (s.delOtt i).topo = s.topo := rfl
@[simp] theorem State.delOtt_rtu (i : Nat) : (s.delOtt i).rtu = s.rtu := rfl
@[simp] theorem State.delOtt_trig (i : Nat) : (s.delOtt i).trig = s.trig := rfl
@[simp] theorem State.delOtt_router (i : Nat) : (s.delOtt i).router = s.router := rfl
@[simp] theorem State.delOtt_bindings (i : Nat) : (s.delOtt i).bindings = s.bindings := rfl
@[simp] theorem State.delOtt_pool (i : Nat) : (s.delOtt i).pool = s.pool := rfl
@[simp] theorem State.delOtt_slots (i : Nat) : (s.delOtt i).slots = s.slots := rfl
@[simp] theorem State.delOtt_channels (i : Nat) : (s.delOtt i).channels = s.channels := rfl
@[simp] theorem State.delOtt_mgmt (i : Nat) : (s.delOtt i).mgmt = s.mgmt := rfl
@[simp] theorem State.delOtt_sideband (i : Nat) : (s.delOtt i).sideband = s.sideband := rfl
@[simp] theorem State.delOtt_serial (i : Nat) : (s.delOtt i).serial = s.serial := rfl
@[simp] theorem State.delOtt_pending (i : Nat) : (s.delOtt i).pending = s.pending := rfl

/-! ## setIn -/

@[simp] theorem State.setIn_localTime (h : Nat) (e : InEntry) : (s.setIn h e).localTime = s.localTime := rfl
@[simp] theorem State.setIn_unitId (h : Nat) (e : InEntry) : (s.setIn h e).unitId = s.unitId := rfl
@[simp] theorem State.setIn_mgrSlot (h : Nat) (e : InEntry) : (s.setIn h e).mgrSlot = s.mgrSlot := rfl
@[simp] theorem State.setIn_port0 (h : Nat) (e : InEntry) : (s.setIn h e).port0 = s.port0 := rfl
@[simp] theorem State.setIn_port1 (h : Nat) (e : InEntry) : (s.setIn h e).port1 = s.port1 := rfl
@[simp] theorem State.setIn_topo (h : Nat) (e : InEntry) : (s.setIn h e).topo = s.topo := rfl
@[simp] theorem State.setIn_rtu (h : Nat) (e : InEntry) : (s.setIn h e).rtu = s.rtu := rfl
@[simp] theorem State.setIn_trig (h : Nat) (e : InEntry) : (s.setIn h e).trig = s.trig := rfl
@[simp] theorem State.setIn_router (h : Nat) (e : InEntry) : (s.setIn h e).router = s.router := rfl
@[simp] theorem State.setIn_bindings (h : Nat) (e : InEntry) : (s.setIn h e).bindings = s.bindings := rfl
@[simp] theorem State.setIn_pool (h : Nat) (e : InEntry) : (s.setIn h e).pool = s.pool := rfl
@[simp] theorem State.setIn_slots (h : Nat) (e : InEntry) : (s.setIn h e).slots = s.slots := rfl
@[simp] theorem State.setIn_channels (h : Nat) (e : InEntry) : (s.setIn h e).channels = s.channels := rfl
@[simp] theorem State.setIn_mgmt (h : Nat) (e : InEntry) : (s.setIn h e).mgmt = s.mgmt := rfl
@[simp] theorem State.setIn_sideband (h : Nat) (e : InEntry) : (s.setIn h e).sideband = s.sideband := rfl
@[simp] theorem State.setIn_serial (h : Nat) (e : InEntry) : (s.setIn h e).serial = s.serial := rfl
@[simp] theorem State.setIn_pending (h : Nat) (e : InEntry) : (s.setIn h e).pending = s.pending := rfl

/-! ## delIn -/

@[simp] theorem State.delIn_localTime (h : Nat) : (s.delIn h).localTime = s.localTime := rfl
@[simp] theorem State.delIn_unitId (h : Nat) : (s.delIn h).unitId = s.unitId := rfl
@[simp] theorem State.delIn_mgrSlot (h : Nat) : (s.delIn h).mgrSlot = s.mgrSlot := rfl
@[simp] theorem State.delIn_port0 (h : Nat) : (s.delIn h).port0 = s.port0 := rfl
@[simp] theorem State.delIn_port1 (h : Nat) : (s.delIn h).port1 = s.port1 := rfl
@[simp] theorem State.delIn_topo (h : Nat) : (s.delIn h).topo = s.topo := rfl
@[simp] theorem State.delIn_rtu (h : Nat) : (s.delIn h).rtu = s.rtu := rfl
@[simp] theorem State.delIn_trig (h : Nat) : (s.delIn h).trig = s.trig := rfl
@[simp] theorem State.delIn_router (h : Nat) : (s.delIn h).router = s.router := rfl
@[simp] theorem State.delIn_bindings (h : Nat) : (s.delIn h).bindings = s.bindings := rfl
@[simp] theorem State.delIn_pool (h : Nat) : (s.delIn h).pool = s.pool := rfl
@[simp] theorem State.delIn_slots (h : Nat) : (s.delIn h).slots = s.slots := rfl
@[simp] theorem State.delIn_channels (h : Nat) : (s.delIn h).channels = s.channels := rfl
@[simp] theorem State.delIn_mgmt (h : Nat) : (s.delIn h).mgmt = s.mgmt := rfl
@[simp] theorem State.delIn_sideband (h : Nat) : (s.delIn h).sideband = s.sideband := rfl
@[simp] theorem State.delIn_serial (h : Nat) : (s.delIn h).serial = s.serial := rfl
@[simp] theorem State.delIn_pending (h : Nat) : (s.delIn h).pending = s.pending := rfl

/-! ## setLock -/

@[simp] theorem State.setLock_localTime (i : Nat) (l : Lock) : (s.setLock i l).localTime = s.localTime := rfl
@[simp] theorem State.setLock_unitId (i : Nat) (l : Lock) : (s.setLock i l).unitId = s.unitId := rfl
@[simp] theorem State.setLock_mgrSlot (i : Nat) (l : Lock) : (s.setLock i l).mgrSlot = s.mgrSlot := rfl
@[simp] theorem State.setLock_port0 (i : Nat) (l : Lock) : (s.setLock i l).port0 = s.port0 := rfl
@[simp] theorem State.setLock_port1 (i : Nat) (l : Lock) : (s.setLock i l).port1 = s.port1 := rfl
@[simp] theorem State.setLock_topo (i : Nat) (l : Lock) : (s.setLock i l).topo = s.topo := rfl
@[simp] theorem State.setLock_rtu (i : Nat) (l : Lock) : (s.setLock i l).rtu = s.rtu := rfl
@[simp] theorem State.setLock_trig (i : Nat) (l : Lock) : (s.setLock i l).trig = s.trig := rfl
@[simp] theorem State.setLock_router (i : Nat) (l : Lock) : (s.setLock i l).router = s.router := rfl
@[simp] theorem State.setLock_bindings (i : Nat) (l : Lock) : (s.setLock i l).bindings = s.bindings := rfl
@[simp] theorem State.setLock_pool (i : Nat) (l : Lock) : (s.setLock i l).pool = s.pool := rfl
@[simp] theorem State.setLock_slots (i : Nat) (l : Lock) : (s.setLock i l).slots = s.slots := rfl
@[simp] theorem State.setLock_channels (i : Nat) (l : Lock) : (s.setLock i l).channels = s.channels := rfl
@[simp] theorem State.setLock_mgmt (i : Nat) (l : Lock) : (s.setLock i l).mgmt = s.mgmt := rfl
@[simp] theorem State.setLock_sideband (i : Nat) (l : Lock) : (s.setLock i l).sideband = s.sideband := rfl
@[simp] theorem State.setLock_serial (i : Nat) (l : Lock) : (s.setLock i l).serial = s.serial := rfl
@[simp] theorem State.setLock_pending (i : Nat) (l : Lock) : (s.setLock i l).pending = s.pending := rfl

/-! ## setWindow -/

@[simp] theorem State.setWindow_localTime (i : Nat) (w : Window) : (s.setWindow i w).localTime = s.localTime := rfl
@[simp] theorem State.setWindow_unitId (i : Nat) (w : Window) : (s.setWindow i w).unitId = s.unitId := rfl
@[simp] theorem State.setWindow_mgrSlot (i : Nat) (w : Window) : (s.setWindow i w).mgrSlot = s.mgrSlot := rfl
@[simp] theorem State.setWindow_port0 (i : Nat) (w : Window) : (s.setWindow i w).port0 = s.port0 := rfl
@[simp] theorem State.setWindow_port1 (i : Nat) (w : Window) : (s.setWindow i w).port1 = s.port1 := rfl
@[simp] theorem State.setWindow_topo (i : Nat) (w : Window) : (s.setWindow i w).topo = s.topo := rfl
@[simp] theorem State.setWindow_rtu (i : Nat) (w : Window) : (s.setWindow i w).rtu = s.rtu := rfl
@[simp] theorem State.setWindow_trig (i : Nat) (w : Window) : (s.setWindow i w).trig = s.trig := rfl
@[simp] theorem State.setWindow_router (i : Nat) (w : Window) : (s.setWindow i w).router = s.router := rfl
@[simp] theorem State.setWindow_bindings (i : Nat) (w : Window) : (s.setWindow i w).bindings = s.bindings := rfl
@[simp] theorem State.setWindow_pool (i : Nat) (w : Window) : (s.setWindow i w).pool = s.pool := rfl
@[simp] theorem State.setWindow_slots (i : Nat) (w : Window) : (s.setWindow i w).slots = s.slots := rfl
@[simp] theorem State.setWindow_channels (i : Nat) (w : Window) : (s.setWindow i w).channels = s.channels := rfl
@[simp] theorem State.setWindow_mgmt (i : Nat) (w : Window) : (s.setWindow i w).mgmt = s.mgmt := rfl
@[simp] theorem State.setWindow_sideband (i : Nat) (w : Window) : (s.setWindow i w).sideband = s.sideband := rfl
@[simp] theorem State.setWindow_serial (i : Nat) (w : Window) : (s.setWindow i w).serial = s.serial := rfl
@[simp] theorem State.setWindow_pending (i : Nat) (w : Window) : (s.setWindow i w).pending = s.pending := rfl

/-! ## updTrig -/

@[simp] theorem State.updTrig_localTime (f : TriggerUnit → TriggerUnit) : (s.updTrig f).localTime = s.localTime := rfl
@[simp] theorem State.updTrig_unitId (f : TriggerUnit → TriggerUnit) : (s.updTrig f).unitId = s.unitId := rfl
@[simp] theorem State.updTrig_mgrSlot (f : TriggerUnit → TriggerUnit) : (s.updTrig f).mgrSlot = s.mgrSlot := rfl
@[simp] theorem State.updTrig_port0 (f : TriggerUnit → TriggerUnit) : (s.updTrig f).port0 = s.port0 := rfl
@[simp] theorem State.updTrig_port1 (f : TriggerUnit → TriggerUnit) : (s.updTrig f).port1 = s.port1 := rfl
@[simp] theorem State.updTrig_topo (f : TriggerUnit → TriggerUnit) : (s.updTrig f).topo = s.topo := rfl
@[simp] theorem State.updTrig_rtu (f : TriggerUnit → TriggerUnit) : (s.updTrig f).rtu = s.rtu := rfl
@[simp] theorem State.updTrig_router (f : TriggerUnit → TriggerUnit) : (s.updTrig f).router = s.router := rfl
@[simp] theorem State.updTrig_bindings (f : TriggerUnit → TriggerUnit) : (s.updTrig f).bindings = s.bindings := rfl
@[simp] theorem State.updTrig_pool (f : TriggerUnit → TriggerUnit) : (s.updTrig f).pool = s.pool := rfl
@[simp] theorem State.updTrig_slots (f : TriggerUnit → TriggerUnit) : (s.updTrig f).slots = s.slots := rfl
@[simp] theorem State.updTrig_trans (f : TriggerUnit → TriggerUnit) : (s.updTrig f).trans = s.trans := rfl
@[simp] theorem State.updTrig_channels (f : TriggerUnit → TriggerUnit) : (s.updTrig f).channels = s.channels := rfl
@[simp] theorem State.updTrig_mgmt (f : TriggerUnit → TriggerUnit) : (s.updTrig f).mgmt = s.mgmt := rfl
@[simp] theorem State.updTrig_sideband (f : TriggerUnit → TriggerUnit) : (s.updTrig f).sideband = s.sideband := rfl
@[simp] theorem State.updTrig_serial (f : TriggerUnit → TriggerUnit) : (s.updTrig f).serial = s.serial := rfl
@[simp] theorem State.updTrig_pending (f : TriggerUnit → TriggerUnit) : (s.updTrig f).pending = s.pending := rfl

/-! ## setEvent -/

@[simp] theorem State.setEvent_localTime (k : Nat) (r : EventRecord) : (s.setEvent k r).localTime = s.localTime := rfl
@[simp] theorem State.setEvent_unitId (k : Nat) (r : EventRecord) : (s.setEvent k r).unitId = s.unitId := rfl
@[simp] theorem State.setEvent_mgrSlot (k : Nat) (r : EventRecord) : (s.setEvent k r).mgrSlot = s.mgrSlot := rfl
@[simp] theorem State.setEvent_port0 (k : Nat) (r : EventRecord) : (s.setEvent k r).port0 = s.port0 := rfl
@[simp] theorem State.setEvent_port1 (k : Nat) (r : EventRecord) : (s.setEvent k r).port1 = s.port1 := rfl
@[simp] theorem State.setEvent_topo (k : Nat) (r : EventRecord) : (s.setEvent k r).topo = s.topo := rfl
@[simp] theorem State.setEvent_rtu (k : Nat) (r : EventRecord) : (s.setEvent k r).rtu = s.rtu := rfl
@[simp] theorem State.setEvent_trig (k : Nat) (r : EventRecord) : (s.setEvent k r).trig = s.trig := rfl
@[simp] theorem State.setEvent_router (k : Nat) (r : EventRecord) : (s.setEvent k r).router = s.router := rfl
@[simp] theorem State.setEvent_bindings (k : Nat) (r : EventRecord) : (s.setEvent k r).bindings = s.bindings := rfl
@[simp] theorem State.setEvent_pool (k : Nat) (r : EventRecord) : (s.setEvent k r).pool = s.pool := rfl
@[simp] theorem State.setEvent_slots (k : Nat) (r : EventRecord) : (s.setEvent k r).slots = s.slots := rfl
@[simp] theorem State.setEvent_trans (k : Nat) (r : EventRecord) : (s.setEvent k r).trans = s.trans := rfl
@[simp] theorem State.setEvent_channels (k : Nat) (r : EventRecord) : (s.setEvent k r).channels = s.channels := rfl
@[simp] theorem State.setEvent_sideband (k : Nat) (r : EventRecord) : (s.setEvent k r).sideband = s.sideband := rfl
@[simp] theorem State.setEvent_serial (k : Nat) (r : EventRecord) : (s.setEvent k r).serial = s.serial := rfl
@[simp] theorem State.setEvent_pending (k : Nat) (r : EventRecord) : (s.setEvent k r).pending = s.pending := rfl

/-! ## updMgmt -/

@[simp] theorem State.updMgmt_localTime (f : Mgmt → Mgmt) : (s.updMgmt f).localTime = s.localTime := rfl
@[simp] theorem State.updMgmt_unitId (f : Mgmt → Mgmt) : (s.updMgmt f).unitId = s.unitId := rfl
@[simp] theorem State.updMgmt_mgrSlot (f : Mgmt → Mgmt) : (s.updMgmt f).mgrSlot = s.mgrSlot := rfl
@[simp] theorem State.updMgmt_port0 (f : Mgmt → Mgmt) : (s.updMgmt f).port0 = s.port0 := rfl
@[simp] theorem State.updMgmt_port1 (f : Mgmt → Mgmt) : (s.updMgmt f).port1 = s.port1 := rfl
@[simp] theorem State.updMgmt_topo (f : Mgmt → Mgmt) : (s.updMgmt f).topo = s.topo := rfl
@[simp] theorem State.updMgmt_rtu (f : Mgmt → Mgmt) : (s.updMgmt f).rtu = s.rtu := rfl
@[simp] theorem State.updMgmt_trig (f : Mgmt → Mgmt) : (s.updMgmt f).trig = s.trig := rfl
@[simp] theorem State.updMgmt_router (f : Mgmt → Mgmt) : (s.updMgmt f).router = s.router := rfl
@[simp] theorem State.updMgmt_bindings (f : Mgmt → Mgmt) : (s.updMgmt f).bindings = s.bindings := rfl
@[simp] theorem State.updMgmt_pool (f : Mgmt → Mgmt) : (s.updMgmt f).pool = s.pool := rfl
@[simp] theorem State.updMgmt_slots (f : Mgmt → Mgmt) : (s.updMgmt f).slots = s.slots := rfl
@[simp] theorem State.updMgmt_trans (f : Mgmt → Mgmt) : (s.updMgmt f).trans = s.trans := rfl
@[simp] theorem State.updMgmt_channels (f : Mgmt → Mgmt) : (s.updMgmt f).channels = s.channels := rfl
@[simp] theorem State.updMgmt_sideband (f : Mgmt → Mgmt) : (s.updMgmt f).sideband = s.sideband := rfl
@[simp] theorem State.updMgmt_serial (f : Mgmt → Mgmt) : (s.updMgmt f).serial = s.serial := rfl
@[simp] theorem State.updMgmt_pending (f : Mgmt → Mgmt) : (s.updMgmt f).pending = s.pending := rfl

/-! ## updTopo -/

@[simp] theorem State.updTopo_localTime (f : Topology → Topology) : (s.updTopo f).localTime = s.localTime := rfl
@[simp] theorem State.updTopo_unitId (f : Topology → Topology) : (s.updTopo f).unitId = s.unitId := rfl
@[simp] theorem State.updTopo_mgrSlot (f : Topology → Topology) : (s.updTopo f).mgrSlot = s.mgrSlot := rfl
@[simp] theorem State.updTopo_port0 (f : Topology → Topology) : (s.updTopo f).port0 = s.port0 := rfl
@[simp] theorem State.updTopo_port1 (f : Topology → Topology) : (s.updTopo f).port1 = s.port1 := rfl
@[simp] theorem State.updTopo_rtu (f : Topology → Topology) : (s.updTopo f).rtu = s.rtu := rfl
@[simp] theorem State.updTopo_trig (f : Topology → Topology) : (s.updTopo f).trig = s.trig := rfl
@[simp] theorem State.updTopo_router (f : Topology → Topology) : (s.updTopo f).router = s.router := rfl
@[simp] theorem State.updTopo_bindings (f : Topology → Topology) : (s.updTopo f).bindings = s.bindings := rfl
@[simp] theorem State.updTopo_pool (f : Topology → Topology) : (s.updTopo f).pool = s.pool := rfl
@[simp] theorem State.updTopo_slots (f : Topology → Topology) : (s.updTopo f).slots = s.slots := rfl
@[simp] theorem State.updTopo_trans (f : Topology → Topology) : (s.updTopo f).trans = s.trans := rfl
@[simp] theorem State.updTopo_channels (f : Topology → Topology) : (s.updTopo f).channels = s.channels := rfl
@[simp] theorem State.updTopo_mgmt (f : Topology → Topology) : (s.updTopo f).mgmt = s.mgmt := rfl
@[simp] theorem State.updTopo_sideband (f : Topology → Topology) : (s.updTopo f).sideband = s.sideband := rfl
@[simp] theorem State.updTopo_serial (f : Topology → Topology) : (s.updTopo f).serial = s.serial := rfl
@[simp] theorem State.updTopo_pending (f : Topology → Topology) : (s.updTopo f).pending = s.pending := rfl

/-! ## nextSerial -/

@[simp] theorem State.nextSerial_localTime : (s.nextSerial).localTime = s.localTime := rfl
@[simp] theorem State.nextSerial_unitId : (s.nextSerial).unitId = s.unitId := rfl
@[simp] theorem State.nextSerial_mgrSlot : (s.nextSerial).mgrSlot = s.mgrSlot := rfl
@[simp] theorem State.nextSerial_port0 : (s.nextSerial).port0 = s.port0 := rfl
@[simp] theorem State.nextSerial_port1 : (s.nextSerial).port1 = s.port1 := rfl
@[simp] theorem State.nextSerial_topo : (s.nextSerial).topo = s.topo := rfl
@[simp] theorem State.nextSerial_rtu : (s.nextSerial).rtu = s.rtu := rfl
@[simp] theorem State.nextSerial_trig : (s.nextSerial).trig = s.trig := rfl
@[simp] theorem State.nextSerial_router : (s.nextSerial).router = s.router := rfl
@[simp] theorem State.nextSerial_bindings : (s.nextSerial).bindings = s.bindings := rfl
@[simp] theorem State.nextSerial_pool : (s.nextSerial).pool = s.pool := rfl
@[simp] theorem State.nextSerial_slots : (s.nextSerial).slots = s.slots := rfl
@[simp] theorem State.nextSerial_trans : (s.nextSerial).trans = s.trans := rfl
@[simp] theorem State.nextSerial_channels : (s.nextSerial).channels = s.channels := rfl
@[simp] theorem State.nextSerial_mgmt : (s.nextSerial).mgmt = s.mgmt := rfl
@[simp] theorem State.nextSerial_sideband : (s.nextSerial).sideband = s.sideband := rfl
@[simp] theorem State.nextSerial_pending : (s.nextSerial).pending = s.pending := rfl

/-! ## Ports -/

@[simp] theorem State.port_setPort_same (p : PortId) (r : Port) : (s.setPort p r).port p = r := by cases p <;> rfl

theorem State.port_setPort (p q : PortId) (r : Port) : (s.setPort p r).port q = if q = p then r else s.port q := by
  cases p <;> cases q <;> rfl

@[simp] theorem State.port_setPort_other (p : PortId) (r : Port) : (s.setPort p r).port p.other = s.port p.other := by
  cases p <;> rfl

@[simp] theorem State.port_updPort_same (p : PortId) (f : Port → Port) : (s.updPort p f).port p = f (s.port p) := by
  cases p <;> rfl

theorem State.port_updPort (p q : PortId) (f : Port → Port) :
    (s.updPort p f).port q = if q = p then f (s.port q) else s.port q := by cases p <;> cases q <;> rfl

@[simp] theorem State.setPort_setPort (p : PortId) (r r' : Port) : (s.setPort p r).setPort p r' = s.setPort p r' := by
  cases p <;> rfl

@[simp] theorem State.setPort_port (p : PortId) : s.setPort p (s.port p) = s := by cases p <;> rfl

theorem State.updPort_eq (p : PortId) (f : Port → Port) : s.updPort p f = s.setPort p (f (s.port p)) := rfl

/-! ## Records kept in tables -/

theorem State.slot_setSlot (i j : Nat) (r : Slot) : (s.setSlot i r).slot j = if j = i then r else s.slot j :=
  tgetD_tset _ _ _ _ _

@[simp] theorem State.slot_setSlot_same (i : Nat) (r : Slot) : (s.setSlot i r).slot i = r := by simp [State.slot_setSlot]

@[simp] theorem State.slot_updSlot_same (i : Nat) (f : Slot → Slot) : (s.updSlot i f).slot i = f (s.slot i) := by
  simp [State.updSlot]

theorem State.slot_updSlot (i j : Nat) (f : Slot → Slot) :
    (s.updSlot i f).slot j = if j = i then f (s.slot i) else s.slot j := by simp [State.updSlot, State.slot_setSlot]

theorem State.binding_setBinding (i j : Nat) (b : Binding) :
    (s.setBinding i b).binding j = if j = i then b else s.binding j := tgetD_tset _ _ _ _ _

@[simp] theorem State.binding_setBinding_same (i : Nat) (b : Binding) : (s.setBinding i b).binding i = b := by
  simp [State.binding_setBinding]

theorem State.route_setRoute (k j : Nat) (e : RouteEntry) : (s.setRoute k e).route j = if j = k then e else s.route j :=
  tgetD_tset _ _ _ _ _

@[simp] theorem State.route_setRoute_same (k : Nat) (e : RouteEntry) : (s.setRoute k e).route k = e := by
  simp [State.route_setRoute]

theorem State.channel_setChannel (c d : Nat) (r : Channel) :
    (s.setChannel c r).channel d = if d = c then r else s.channel d := tgetD_tset _ _ _ _ _

@[simp] theorem State.channel_setChannel_same (c : Nat) (r : Channel) : (s.setChannel c r).channel c = r := by
  simp [State.channel_setChannel]

@[simp] theorem State.ottEntry_setOtt_same (i : Nat) (e : OttEntry) : (s.setOtt i e).ottEntry i = some e := by
  simp [State.setOtt, State.ottEntry]

theorem State.ottEntry_setOtt_other {i j : Nat} (e : OttEntry) (h : j ≠ i) : (s.setOtt i e).ottEntry j = s.ottEntry j :=
  tfind_tput_other _ _ h

@[simp] theorem State.ottEntry_delOtt_same (i : Nat) : (s.delOtt i).ottEntry i = none := tfind_tdel_same _ _

theorem State.ottEntry_delOtt_other {i j : Nat} (h : j ≠ i) : (s.delOtt i).ottEntry j = s.ottEntry j :=
  tfind_tdel_other _ h

@[simp] theorem State.inEntry_setIn_same (h : Nat) (e : InEntry) : (s.setIn h e).inEntry h = some e := by
  simp [State.setIn, State.inEntry]

theorem State.inEntry_setIn_other {h j : Nat} (e : InEntry) (hj : j ≠ h) : (s.setIn h e).inEntry j = s.inEntry j :=
  tfind_tput_other _ _ hj

@[simp] theorem State.inEntry_delIn_same (h : Nat) : (s.delIn h).inEntry h = none := tfind_tdel_same _ _

theorem State.lock_setLock (i j : Nat) (l : Lock) : (s.setLock i l).lock j = if j = i then l else s.lock j :=
  tgetD_tset _ _ _ _ _

@[simp] theorem State.lock_setLock_same (i : Nat) (l : Lock) : (s.setLock i l).lock i = l := by
  simp [State.lock_setLock]

theorem State.window_setWindow (i j : Nat) (w : Window) :
    (s.setWindow i w).window j = if j = i then w else s.window j := tgetD_tset _ _ _ _ _

@[simp] theorem State.window_setWindow_same (i : Nat) (w : Window) : (s.setWindow i w).window i = w := by
  simp [State.window_setWindow]

theorem State.event_setEvent (k j : Nat) (r : EventRecord) :
    (s.setEvent k r).event j = if j = k then r else s.event j := tgetD_tset _ _ _ _ _

@[simp] theorem State.event_setEvent_same (k : Nat) (r : EventRecord) : (s.setEvent k r).event k = r := by
  simp [State.event_setEvent]

/-! ## Raising a kind (R177) -/

@[simp] theorem raise_localTime (k : EventKind) : (raise k s).localTime = s.localTime := rfl
@[simp] theorem raise_unitId (k : EventKind) : (raise k s).unitId = s.unitId := rfl
@[simp] theorem raise_mgrSlot (k : EventKind) : (raise k s).mgrSlot = s.mgrSlot := rfl
@[simp] theorem raise_port0 (k : EventKind) : (raise k s).port0 = s.port0 := rfl
@[simp] theorem raise_port1 (k : EventKind) : (raise k s).port1 = s.port1 := rfl
@[simp] theorem raise_topo (k : EventKind) : (raise k s).topo = s.topo := rfl
@[simp] theorem raise_rtu (k : EventKind) : (raise k s).rtu = s.rtu := rfl
@[simp] theorem raise_trig (k : EventKind) : (raise k s).trig = s.trig := rfl
@[simp] theorem raise_router (k : EventKind) : (raise k s).router = s.router := rfl
@[simp] theorem raise_bindings (k : EventKind) : (raise k s).bindings = s.bindings := rfl
@[simp] theorem raise_pool (k : EventKind) : (raise k s).pool = s.pool := rfl
@[simp] theorem raise_slots (k : EventKind) : (raise k s).slots = s.slots := rfl
@[simp] theorem raise_trans (k : EventKind) : (raise k s).trans = s.trans := rfl
@[simp] theorem raise_channels (k : EventKind) : (raise k s).channels = s.channels := rfl
@[simp] theorem raise_sideband (k : EventKind) : (raise k s).sideband = s.sideband := rfl
@[simp] theorem raise_serial (k : EventKind) : (raise k s).serial = s.serial := rfl
@[simp] theorem raise_pending (k : EventKind) : (raise k s).pending = s.pending := rfl

@[simp] theorem raiseIf_localTime (b : Bool) (k : EventKind) : (raiseIf b k s).localTime = s.localTime := by cases b <;> rfl
@[simp] theorem raiseIf_unitId (b : Bool) (k : EventKind) : (raiseIf b k s).unitId = s.unitId := by cases b <;> rfl
@[simp] theorem raiseIf_mgrSlot (b : Bool) (k : EventKind) : (raiseIf b k s).mgrSlot = s.mgrSlot := by cases b <;> rfl
@[simp] theorem raiseIf_port0 (b : Bool) (k : EventKind) : (raiseIf b k s).port0 = s.port0 := by cases b <;> rfl
@[simp] theorem raiseIf_port1 (b : Bool) (k : EventKind) : (raiseIf b k s).port1 = s.port1 := by cases b <;> rfl
@[simp] theorem raiseIf_topo (b : Bool) (k : EventKind) : (raiseIf b k s).topo = s.topo := by cases b <;> rfl
@[simp] theorem raiseIf_rtu (b : Bool) (k : EventKind) : (raiseIf b k s).rtu = s.rtu := by cases b <;> rfl
@[simp] theorem raiseIf_trig (b : Bool) (k : EventKind) : (raiseIf b k s).trig = s.trig := by cases b <;> rfl
@[simp] theorem raiseIf_router (b : Bool) (k : EventKind) : (raiseIf b k s).router = s.router := by cases b <;> rfl
@[simp] theorem raiseIf_bindings (b : Bool) (k : EventKind) : (raiseIf b k s).bindings = s.bindings := by cases b <;> rfl
@[simp] theorem raiseIf_pool (b : Bool) (k : EventKind) : (raiseIf b k s).pool = s.pool := by cases b <;> rfl
@[simp] theorem raiseIf_slots (b : Bool) (k : EventKind) : (raiseIf b k s).slots = s.slots := by cases b <;> rfl
@[simp] theorem raiseIf_trans (b : Bool) (k : EventKind) : (raiseIf b k s).trans = s.trans := by cases b <;> rfl
@[simp] theorem raiseIf_channels (b : Bool) (k : EventKind) : (raiseIf b k s).channels = s.channels := by cases b <;> rfl
@[simp] theorem raiseIf_sideband (b : Bool) (k : EventKind) : (raiseIf b k s).sideband = s.sideband := by cases b <;> rfl
@[simp] theorem raiseIf_serial (b : Bool) (k : EventKind) : (raiseIf b k s).serial = s.serial := by cases b <;> rfl
@[simp] theorem raiseIf_pending (b : Bool) (k : EventKind) : (raiseIf b k s).pending = s.pending := by cases b <;> rfl

@[simp] theorem raiseAll_nil : raiseAll [] s = s := rfl

@[simp] theorem raiseAll_cons (k : EventKind) (ks : List EventKind) : raiseAll (k :: ks) s = raiseAll ks (raise k s) := rfl

@[simp] theorem raiseAll_localTime (ks : List EventKind) : (raiseAll ks s).localTime = s.localTime := by
  induction ks generalizing s with
  | nil => rfl
  | cons k ks ih => simp [ih]

@[simp] theorem raiseAll_unitId (ks : List EventKind) : (raiseAll ks s).unitId = s.unitId := by
  induction ks generalizing s with
  | nil => rfl
  | cons k ks ih => simp [ih]

@[simp] theorem raiseAll_mgrSlot (ks : List EventKind) : (raiseAll ks s).mgrSlot = s.mgrSlot := by
  induction ks generalizing s with
  | nil => rfl
  | cons k ks ih => simp [ih]

@[simp] theorem raiseAll_port0 (ks : List EventKind) : (raiseAll ks s).port0 = s.port0 := by
  induction ks generalizing s with
  | nil => rfl
  | cons k ks ih => simp [ih]

@[simp] theorem raiseAll_port1 (ks : List EventKind) : (raiseAll ks s).port1 = s.port1 := by
  induction ks generalizing s with
  | nil => rfl
  | cons k ks ih => simp [ih]

@[simp] theorem raiseAll_topo (ks : List EventKind) : (raiseAll ks s).topo = s.topo := by
  induction ks generalizing s with
  | nil => rfl
  | cons k ks ih => simp [ih]

@[simp] theorem raiseAll_rtu (ks : List EventKind) : (raiseAll ks s).rtu = s.rtu := by
  induction ks generalizing s with
  | nil => rfl
  | cons k ks ih => simp [ih]

@[simp] theorem raiseAll_trig (ks : List EventKind) : (raiseAll ks s).trig = s.trig := by
  induction ks generalizing s with
  | nil => rfl
  | cons k ks ih => simp [ih]

@[simp] theorem raiseAll_router (ks : List EventKind) : (raiseAll ks s).router = s.router := by
  induction ks generalizing s with
  | nil => rfl
  | cons k ks ih => simp [ih]

@[simp] theorem raiseAll_bindings (ks : List EventKind) : (raiseAll ks s).bindings = s.bindings := by
  induction ks generalizing s with
  | nil => rfl
  | cons k ks ih => simp [ih]

@[simp] theorem raiseAll_pool (ks : List EventKind) : (raiseAll ks s).pool = s.pool := by
  induction ks generalizing s with
  | nil => rfl
  | cons k ks ih => simp [ih]

@[simp] theorem raiseAll_slots (ks : List EventKind) : (raiseAll ks s).slots = s.slots := by
  induction ks generalizing s with
  | nil => rfl
  | cons k ks ih => simp [ih]

@[simp] theorem raiseAll_trans (ks : List EventKind) : (raiseAll ks s).trans = s.trans := by
  induction ks generalizing s with
  | nil => rfl
  | cons k ks ih => simp [ih]

@[simp] theorem raiseAll_channels (ks : List EventKind) : (raiseAll ks s).channels = s.channels := by
  induction ks generalizing s with
  | nil => rfl
  | cons k ks ih => simp [ih]

@[simp] theorem raiseAll_sideband (ks : List EventKind) : (raiseAll ks s).sideband = s.sideband := by
  induction ks generalizing s with
  | nil => rfl
  | cons k ks ih => simp [ih]

@[simp] theorem raiseAll_serial (ks : List EventKind) : (raiseAll ks s).serial = s.serial := by
  induction ks generalizing s with
  | nil => rfl
  | cons k ks ih => simp [ih]

@[simp] theorem raiseAll_pending (ks : List EventKind) : (raiseAll ks s).pending = s.pending := by
  induction ks generalizing s with
  | nil => rfl
  | cons k ks ih => simp [ih]

/-- R177: the record of a kind after it is raised. -/
theorem event_raise (k : EventKind) (j : Nat) :
    (raise k s).event j =
      if j = k.code then (s.event k.code).raise (s.mgmt.noticeEnable.getLsbD k.code) else s.event j := by
  simp [raise, State.event_setEvent]

/-- A time has been reached where local time is not below it. -/
theorem State.reached_iff (t : Nat) : s.reached t = true ↔ t ≤ s.localTime := by simp [State.reached]

end Sys2Proof.Machine
end

