-- ==== Sys2Proof/Laws/Memory.lean ====
section
/-! SUPPORT. Laws/Memory.lean: the Section Pool: a read after a write, and the canonical form that every
pool operation keeps. -/

namespace Sys2Proof.Machine

/-- A byte read after one byte is written. -/
theorem poolRead_poolWrite (m : List Host.Cell) (a : Nat) (b : Byte) (x : Nat) :
    poolRead (poolWrite m a b) x = if x = a then b else poolRead m x := tgetD_tset _ _ _ _ _

@[simp] theorem poolRead_poolWrite_same (m : List Host.Cell) (a : Nat) (b : Byte) : poolRead (poolWrite m a b) a = b := by
  simp [poolRead_poolWrite]

/-- Bytes written in a row leave every byte outside them as it was. -/
theorem poolRead_poolWriteAll_outside (bs : List Byte) (m : List Host.Cell) (a x : Nat) (h : x < a ∨ a + bs.length ≤ x) :
    poolRead (poolWriteAll m a bs) x = poolRead m x := by
  induction bs generalizing m a with
  | nil => rfl
  | cons b bs ih =>
    simp only [List.length_cons] at h
    rw [poolWriteAll, ih _ _ (by omega), poolRead_poolWrite, if_neg (by omega)]

/-- A byte read within bytes written in a row is the byte written there. -/
theorem poolRead_poolWriteAll_inside (bs : List Byte) (m : List Host.Cell) (a k : Nat) (h : k < bs.length) :
    poolRead (poolWriteAll m a bs) (a + k) = bs[k] := by
  induction bs generalizing m a k with
  | nil => simp at h
  | cons b bs ih =>
    cases k with
    | zero => rw [poolWriteAll, poolRead_poolWriteAll_outside _ _ _ _ (by omega)]; simp
    | succ k =>
      have hk : k < bs.length := by simpa using h
      have := ih (poolWrite m a b) (a + 1) k hk
      rw [poolWriteAll, show a + (k + 1) = a + 1 + k by omega, this]
      simp

/-- One byte written keeps the canonical form. -/
theorem poolWrite_wf {m : List Host.Cell} (a : Nat) (b : Byte) (h : Memory.wf m) : Memory.wf (poolWrite m a b) :=
  twf_tset a b h

/-- Bytes written in a row keep the canonical form. -/
theorem poolWriteAll_wf {m : List Host.Cell} (a : Nat) (bs : List Byte) (h : Memory.wf m) :
    Memory.wf (poolWriteAll m a bs) := by
  induction bs generalizing m a with
  | nil => exact h
  | cons b bs ih => exact ih _ (poolWrite_wf a b h)

/-- The pool after reset is in canonical form. -/
theorem reset_pool_wf : Memory.wf State.reset.pool := by decide

end Sys2Proof.Machine
end

