-- ==== Sys2Proof/Laws/PoolFrames.lean ====
section
/-! SUPPORT. Laws/PoolFrames.lean: the operations that leave the Section Pool as it was, and those that keep
its canonical form. One lemma for each operation of the machine. -/

namespace Sys2Proof.Machine

@[simp] theorem State.ite_pool (c : Prop) [Decidable c] (a b : State) : (if c then a else b).pool = if c then a.pool else b.pool := by
  split <;> rfl

theorem foldl_pool {α : Type} (f : State → α → State) (h : ∀ u a, (f u a).pool = u.pool) (l : List α) (s : State) :
    (l.foldl f s).pool = s.pool := by
  induction l generalizing s with
  | nil => rfl
  | cons a l ih => rw [List.foldl_cons, ih, h]
@[simp] theorem clearKind_pool (s : State) (k : Nat) : (clearKind s k).pool = s.pool := by
  unfold clearKind; simp
@[simp] theorem clearKinds_pool (set : BitVec 32) (s : State) : (clearKinds set s).pool = s.pool := by
  unfold clearKinds; simp [foldl_pool]
@[simp] theorem State.applyRtu_pool (s : State) (x : RtuStep) : (State.applyRtu s x).pool = s.pool := by
  unfold State.applyRtu; simp
@[simp] theorem recommitPort_pool (s : State) (p : PortId) : (recommitPort s p).pool = s.pool := by
  unfold recommitPort; simp
@[simp] theorem recommit_pool (s : State) : (recommit s).pool = s.pool := by
  unfold recommit; simp
@[simp] theorem sendHello_pool (s : State) (p : PortId) : (sendHello s p).pool = s.pool := by
  unfold sendHello; simp
@[simp] theorem helloUpPorts_pool (s : State) : (helloUpPorts s).pool = s.pool := by
  unfold helloUpPorts; simp [foldl_pool]
@[simp] theorem announceExcept_pool (except : Option PortId) (a : Announce) (s : State) : (announceExcept except a s).pool = s.pool := by
  unfold announceExcept; simp [foldl_pool]
@[simp] theorem sendAnnounce_pool (s : State) : (sendAnnounce s).pool = s.pool := by
  unfold sendAnnounce; split <;> simp
@[simp] theorem purgePort_pool (p : PortId) (s : State) : (purgePort p s).pool = s.pool := by
  rfl
@[simp] theorem purgeLost_pool (before s : State) : (purgeLost before s).pool = s.pool := by
  unfold purgeLost; simp [foldl_pool]
@[simp] theorem treeChange_pool (before s : State) : (treeChange before s).pool = s.pool := by
  unfold treeChange; simp
@[simp] theorem rootwardChange_pool (new : Option PortId) (s : State) : (rootwardChange new s).pool = s.pool := by
  unfold rootwardChange; simp
@[simp] theorem rootwardLost_pool (p : PortId) (s : State) : (rootwardLost p s).pool = s.pool := by
  unfold rootwardLost; simp
@[simp] theorem dropStaleRootward_pool (s : State) : (dropStaleRootward s).pool = s.pool := by
  unfold dropStaleRootward; (repeat' split) <;> simp
@[simp] theorem chooseRootward_pool (s : State) : (chooseRootward s).pool = s.pool := by
  unfold chooseRootward; (repeat' split) <;> simp
@[simp] theorem topologyBoundary_pool (s : State) : (topologyBoundary s).pool = s.pool := by
  unfold topologyBoundary; simp
@[simp] theorem recordMark_pool (p : PortId) (m : Mark) (s : State) : (recordMark p m s).pool = s.pool := by
  rfl
@[simp] theorem acceptMark_pool (p : PortId) (m : Mark) (s : State) : (acceptMark p m s).pool = s.pool := by
  unfold acceptMark; split <;> simp
@[simp] theorem forwardAnnounce_pool (p : PortId) (a : Announce) (s : State) : (forwardAnnounce p a s).pool = s.pool := by
  unfold forwardAnnounce; simp
@[simp] theorem acceptAnnounce_pool (p : PortId) (a : Announce) (s : State) : (acceptAnnounce p a s).pool = s.pool := by
  unfold acceptAnnounce; simp
@[simp] theorem faultChannel_pool (c : Nat) (destination : Bool) (st : Status) (s : State) : (faultChannel c destination st s).pool = s.pool := by
  rfl
@[simp] theorem chunkRead_pool (c : Nat) (item : Chunk) (data : List Byte) (s : State) : (chunkRead c item data s).pool = s.pool := by
  rfl
@[simp] theorem chunkWritten_pool (c : Nat) (item : Chunk) (s : State) : (chunkWritten c item s).pool = s.pool := by
  unfold chunkWritten; simp
@[simp] theorem channelAnswer_pool (c tag : Nat) (st : Status) (data : List Byte) (s : State) : (channelAnswer c tag st data s).pool = s.pool := by
  unfold channelAnswer; dsimp only; split <;> simp
@[simp] theorem settleNotice_pool (k : Nat) (n : NoticeState) (s : State) : (settleNotice k n s).pool = s.pool := by
  unfold settleNotice; simp
@[simp] theorem noticeAnswer_pool (tag : Nat) (st : Status) (s : State) : (noticeAnswer tag st s).pool = s.pool := by
  unfold noticeAnswer; split <;> simp
@[simp] theorem State.giveOne_pool (s : State) : s.giveOne.pool = s.pool := by
  unfold State.giveOne; split <;> simp
@[simp] theorem State.give_pool (n : Nat) (s : State) : (State.give n s).pool = s.pool := by
  induction n generalizing s with
  | zero => rfl
  | succ n ih => simp [State.give, ih]
@[simp] theorem State.regrant_pool (s : State) : s.regrant.pool = s.pool := by
  unfold State.regrant; simp
@[simp] theorem State.noteFreed_pool (s t : State) : (s.noteFreed t).pool = t.pool := by
  unfold State.noteFreed; split <;> simp
@[simp] theorem State.freeOtt_pool (s : State) (i : Nat) : (s.freeOtt i).pool = s.pool := by
  unfold State.freeOtt; simp
@[simp] theorem answerEntry_pool (i : Nat) (st : Status) (data : List Byte) (s : State) : (answerEntry i st data s).pool = s.pool := by
  unfold answerEntry; split <;> simp
@[simp] theorem enterBackoff_pool (i : Nat) (e : OttEntry) (s : State) : (enterBackoff i e s).pool = s.pool := by
  rfl
@[simp] theorem completionHere_pool (id tag : Nat) (st : Status) (data : List Byte) (s : State) : (completionHere id tag st data s).pool = s.pool := by
  unfold completionHere; (repeat' split) <;> simp
theorem sendCompletion_pool {direct : Bool} {who : Requester} {st : Status} {data : List Byte} {s t : State}
    (h : sendCompletion direct who st data s = some t) : t.pool = s.pool := by
  unfold sendCompletion at h
  (repeat' split at h) <;> first | (cases h; done) | (cases h; simp)

theorem takeInbound_pool {k : Nat} {s t : State} (h : takeInbound k s = some t) : t.pool = s.pool := by
  unfold takeInbound at h
  (repeat' split at h)
  · cases h
  · simp only [Option.map_eq_some_iff] at h
    obtain ⟨u, hu, rfl⟩ := h
    simpa using sendCompletion_pool hu
  · cases h

@[simp] theorem releaseLock_pool (i : Nat) (s : State) : (releaseLock i s).pool = s.pool := by
  rfl
@[simp] theorem offerInbound_pool (before : State) (h : Nat) (s : State) : (offerInbound before h s).pool = s.pool := by
  unfold offerInbound
  cases hx : takeInbound h s with
  | none => rfl
  | some t => simp [takeInbound_pool hx]

@[simp] theorem answerInbound_pool (h : Nat) (st : Status) (data : List Byte) (s : State) : (answerInbound h st data s).pool = s.pool := by
  unfold answerInbound; split <;> simp
@[simp] theorem answerSlotInbound_pool (slot : Nat) (p : InState → Bool) (st : Status) (s : State) : (answerSlotInbound slot p st s).pool = s.pool := by
  unfold answerSlotInbound; simp [foldl_pool]
@[simp] theorem dropSlotEntries_pool (slot : Nat) (s : State) : (dropSlotEntries slot s).pool = s.pool := by
  unfold dropSlotEntries; simp
@[simp] theorem clearLane_pool (slot : Nat) (s : State) : (clearLane slot s).pool = s.pool := by
  rfl
@[simp] theorem departureCleanup_pool (slot : Nat) (st : Status) (s : State) : (departureCleanup slot st s).pool = s.pool := by
  unfold departureCleanup; simp
@[simp] theorem entryLinkDown_pool (p : PortId) (s : State) (i : Nat) : (entryLinkDown p s i).pool = s.pool := by
  unfold entryLinkDown; (repeat' split) <;> simp
@[simp] theorem ottLinkDown_pool (p : PortId) (s : State) : (ottLinkDown p s).pool = s.pool := by
  unfold ottLinkDown; simp [foldl_pool]
@[simp] theorem linkDown_pool (p : PortId) (s : State) : (linkDown p s).pool = s.pool := by
  unfold linkDown; simp
@[simp] theorem leaveFor_pool (p : PortId) (enter : Port → Port) (s : State) : (leaveFor p enter s).pool = s.pool := by
  unfold leaveFor; simp
@[simp] theorem enterTraining_pool (p : PortId) (s : State) : (enterTraining p s).pool = s.pool := by
  unfold enterTraining; simp
@[simp] theorem enterAbsent_pool (p : PortId) (s : State) : (enterAbsent p s).pool = s.pool := by
  unfold enterAbsent; simp
@[simp] theorem enterLoopback_pool (p : PortId) (form : LoopForm) (s : State) : (enterLoopback p form s).pool = s.pool := by
  unfold enterLoopback; simp
@[simp] theorem leaveLoopback_pool (p : PortId) (s : State) : (leaveLoopback p s).pool = s.pool := by
  unfold leaveLoopback; simp
@[simp] theorem countRetrain_pool (p : PortId) (s : State) : (countRetrain p s).pool = s.pool := by
  unfold countRetrain; simp
@[simp] theorem bumpRetrains_pool (p : PortId) (s : State) : (bumpRetrains p s).pool = s.pool := by
  unfold bumpRetrains; simp
@[simp] theorem retrainBad_pool (p : PortId) (s : State) : (retrainBad p s).pool = s.pool := by
  unfold retrainBad; simp
@[simp] theorem symbolLockLoss_pool (p : PortId) (s : State) : (symbolLockLoss p s).pool = s.pool := by
  unfold symbolLockLoss; simp
@[simp] theorem offerEcho_pool (p : PortId) (s : State) : (offerEcho p s).pool = s.pool := by
  unfold offerEcho; simp
@[simp] theorem beginBurst_pool (p : PortId) (s : State) : (beginBurst p s).pool = s.pool := by
  unfold beginBurst; simp
@[simp] theorem scheduleBurst_pool (p : PortId) (s : State) : (scheduleBurst p s).pool = s.pool := by
  unfold scheduleBurst; simp
@[simp] theorem enterUp_pool (p : PortId) (s : State) : (enterUp p s).pool = s.pool := by
  unfold enterUp; simp
@[simp] theorem settleDelay_pool (p : PortId) (result : Option Nat) (s : State) : (settleDelay p result s).pool = s.pool := by
  unfold settleDelay; split <;> simp
@[simp] theorem endBurst_pool (p : PortId) (s : State) : (endBurst p s).pool = s.pool := by
  unfold endBurst; dsimp only; (repeat' split) <;> simp
@[simp] theorem acceptEchoReply_pool (p : PortId) (n t2 t3 : Nat) (s : State) : (acceptEchoReply p n t2 t3 s).pool = s.pool := by
  unfold acceptEchoReply; dsimp only; (repeat' split) <;> simp
@[simp] theorem discardEarly_pool (p : PortId) (c : ParcelClass) (s : State) : (discardEarly p c s).pool = s.pool := by
  unfold discardEarly; simp
@[simp] theorem loopbackGood_pool (p : PortId) (echo : Option Nat) (s : State) : (loopbackGood p echo s).pool = s.pool := by
  unfold loopbackGood; simp
@[simp] theorem sendBack_pool (p : PortId) (bytes : List Byte) (s : State) : (sendBack p bytes s).pool = s.pool := by
  unfold sendBack; simp
@[simp] theorem inLoopback_pool (p : PortId) (echo : Option Nat) (x : Parcel) (s : State) : (inLoopback p echo x s).pool = s.pool := by
  unfold inLoopback; simp
@[simp] theorem byState_pool (p : PortId) (c : ParcelClass) (x : Parcel) (take : State → State) (s : State) (htake : ∀ u : State, (take u).pool = u.pool) : (byState p c x take s).pool = s.pool := by
  unfold byState; (repeat' split) <;> simp_all
@[simp] theorem completePairing_pool (p : PortId) (h : Hello) (s : State) : (completePairing p h s).pool = s.pool := by
  unfold completePairing; simp
@[simp] theorem helloPairing_pool (p : PortId) (h : Hello) (s : State) : (helloPairing p h s).pool = s.pool := by
  unfold helloPairing; simp
@[simp] theorem helloUpdate_pool (p : PortId) (h : Hello) (s : State) : (helloUpdate p h s).pool = s.pool := by
  unfold helloUpdate; simp
@[simp] theorem acceptHello_pool (p : PortId) (h : Hello) (s : State) : (acceptHello p h s).pool = s.pool := by
  unfold acceptHello; dsimp only; split <;> simp
@[simp] theorem acceptEcho_pool (p : PortId) (n : Nat) (s : State) : (acceptEcho p n s).pool = s.pool := by
  unfold acceptEcho; dsimp only; split <;> simp
@[simp] theorem acceptCredit_pool (p : PortId) (a b c : Nat) (s : State) : (acceptCredit p a b c s).pool = s.pool := by
  unfold acceptCredit; simp
@[simp] theorem overflow_pool (p : PortId) (s : State) : (overflow p s).pool = s.pool := by
  unfold overflow; simp
@[simp] theorem dropBuffer_pool (p : PortId) (k : ParcelClass) (s : State) : (dropBuffer p k s).pool = s.pool := by
  unfold dropBuffer; simp
@[simp] theorem badParcel_pool (p : PortId) (f : ParcelFault) (c : Option ParcelClass) (s : State) : (badParcel p f c s).pool = s.pool := by
  unfold badParcel; split <;> simp
@[simp] theorem changeRate_pool (p : PortId) (x : Rate) (s : State) : (changeRate p x s).pool = s.pool := by
  unfold changeRate; simp
@[simp] theorem sendTiming_pool (p : PortId) (i : TimingItem) (rest : List TimingItem) (s : State) : (sendTiming p i rest s).pool = s.pool := by
  unfold sendTiming; split <;> simp
@[simp] theorem sendLink_pool (p : PortId) (i : LinkItem) (rest : List LinkItem) (s : State) : (sendLink p i rest s).pool = s.pool := by
  unfold sendLink; split <;> simp
@[simp] theorem transmit_pool (p : PortId) (s : State) : (transmit p s).pool = s.pool := by
  unfold transmit; dsimp only; (repeat' split) <;> simp
@[simp] theorem startBurstCommand_pool (p : PortId) (s : State) : (startBurstCommand p s).pool = s.pool := by
  unfold startBurstCommand; simp
@[simp] theorem retrainCommand_pool (p : PortId) (s : State) : (retrainCommand p s).pool = s.pool := by
  unfold retrainCommand; simp
@[simp] theorem nearCommand_pool (p : PortId) (s : State) : (nearCommand p s).pool = s.pool := by
  unfold nearCommand; simp
@[simp] theorem farCommand_pool (p : PortId) (s : State) : (farCommand p s).pool = s.pool := by
  unfold farCommand; simp
@[simp] theorem offCommand_pool (p : PortId) (s : State) : (offCommand p s).pool = s.pool := by
  unfold offCommand; dsimp only; (repeat' split) <;> simp
@[simp] theorem fireLine_pool (line : Nat) (s : State) : (fireLine line s).pool = s.pool := by
  rfl
@[simp] theorem fireUntimed_pool (line : Nat) (s : State) : (fireUntimed line s).pool = s.pool := by
  rfl
@[simp] theorem fireLate_pool (line : Nat) (s : State) : (fireLate line s).pool = s.pool := by
  rfl
@[simp] theorem fireHead_pool (s : State) : (fireHead s).pool = s.pool := by
  unfold fireHead; simp [foldl_pool]
@[simp] theorem fireSteppedOver_pool (s : State) : (fireSteppedOver s).pool = s.pool := by
  unfold fireSteppedOver; simp [foldl_pool]
@[simp] theorem addSeen_pool (line origin seq : Nat) (s : State) : (addSeen line origin seq s).pool = s.pool := by
  rfl
@[simp] theorem ageSeen_pool (s : State) : (ageSeen s).pool = s.pool := by
  rfl
@[simp] theorem offerTrigger_pool (x : PendingTrigger) (s : State) : (offerTrigger x s).pool = s.pool := by
  unfold offerTrigger; (repeat' split) <;> rfl
@[simp] theorem sendTrigger_pool (except : Option PortId) (t : Trigger) (s : State) : (sendTrigger except t s).pool = s.pool := by
  unfold sendTrigger; simp [foldl_pool]
@[simp] theorem originate_pool (line : Nat) (s : State) : (originate line s).pool = s.pool := by
  rfl
@[simp] theorem originateTimed_pool (line : Nat) (s : State) : (originateTimed line s).pool = s.pool := by
  unfold originateTimed; simp
@[simp] theorem originateUntimed_pool (line : Nat) (s : State) : (originateUntimed line s).pool = s.pool := by
  unfold originateUntimed; simp
@[simp] theorem edgeFromSlot_pool (slot line : Nat) (s : State) : (edgeFromSlot slot line s).pool = s.pool := by
  unfold edgeFromSlot; simp
@[simp] theorem localTrigger_pool (t : Trigger) (s : State) : (localTrigger t s).pool = s.pool := by
  unfold localTrigger; simp
@[simp] theorem acceptTrigger_pool (p : PortId) (t : Trigger) (s : State) : (acceptTrigger p t s).pool = s.pool := by
  unfold acceptTrigger; simp
@[simp] theorem writeTriggerEntry_pool (line : Nat) (e : TriggerEntry) (s : State) : (writeTriggerEntry line e s).2.pool = s.pool := by
  unfold writeTriggerEntry; split <;> rfl
@[simp] theorem sendParcelTo_pool (p : StreamParcel) (s : State) (i : Nat) : (sendParcelTo p s i).pool = s.pool := by
  unfold sendParcelTo; simp
@[simp] theorem sendParcel_pool (sinks : SlotSet) (p : StreamParcel) (s : State) : (sendParcel sinks p s).pool = s.pool := by
  unfold sendParcel; simp [foldl_pool]
@[simp] theorem beginDelivery_pool (b i : Nat) (s : State) (slot : Nat) : (beginDelivery b i s slot).pool = s.pool := by
  unfold beginDelivery; split <;> rfl
@[simp] theorem beginDeliveries_pool (b i : Nat) (s : State) : (beginDeliveries b i s).pool = s.pool := by
  unfold beginDeliveries; simp [foldl_pool]
@[simp] theorem dropDeliveries_pool (b : Nat) (s : State) : (dropDeliveries b s).pool = s.pool := by
  unfold dropDeliveries; exact foldl_pool _ (fun _ _ => by simp) _ _

@[simp] theorem endDelivery_pool (b i : Nat) (s : State) (slot : Nat) : (endDelivery b i s slot).pool = s.pool := by
  unfold endDelivery; simp
@[simp] theorem rotateBinding_pool (n : Nat) (untimed : Bool) (b : Nat) (s : State) : (rotateBinding n untimed b s).pool = s.pool := by
  unfold rotateBinding; simp [foldl_pool]
@[simp] theorem restartBinding_pool (n : Nat) (untimed : Bool) (b : Nat) (s : State) : (restartBinding n untimed b s).pool = s.pool := by
  unfold restartBinding; dsimp only; rw [beginDeliveries_pool, State.setBinding_pool, dropDeliveries_pool]

@[simp] theorem deliveryBoundary_pool (restart : Bool) (s : State) : (deliveryBoundary restart s).pool = s.pool := by
  unfold deliveryBoundary; simp [foldl_pool]
@[simp] theorem sendSegment_pool (slot : Nat) (s : State) : (sendSegment slot s).pool = s.pool := by
  unfold sendSegment; split <;> simp
theorem writeEach_pool {α : Type} (f : Nat → α → State → Status × State)
    (hf : ∀ i w (u : State), (f i w u).2.pool = u.pool) (ws : List α) (i : Nat) (s : State) : (writeEach f i ws s).2.pool = s.pool := by
  induction ws generalizing i s with
  | nil => rfl
  | cons w ws ih =>
    unfold writeEach
    have h := hf i w s
    split
    · rename_i s1 hx; rw [hx] at h; rw [ih]; exact h
    · exact h

@[simp] theorem writeBinding_pool (b : Nat) (w : BindingWrite) (s : State) : (writeBinding b w s).2.pool = s.pool := by
  have h : (if (s.binding b).enabled then dropDeliveries b s else s).pool = s.pool := by split <;> simp only [dropDeliveries_pool]
  unfold writeBinding; dsimp only
  split
  · rfl
  · split
    · rfl
    · split
      · rfl
      · split
        · rfl
        · rw [State.setBinding_pool]; exact h

@[simp] theorem offerCopy_pool (tag : Nat) (x : StreamParcel) (s : State) (p : PortId) : (offerCopy tag x s p).pool = s.pool := by
  unfold offerCopy; simp
@[simp] theorem forwardStream_pool (src : Option PortId) (x : StreamParcel) (s : State) : (forwardStream src x s).pool = s.pool := by
  unfold forwardStream; simp [foldl_pool]
@[simp] theorem countUnrouted_pool (src : Option PortId) (s : State) : (countUnrouted src s).pool = s.pool := by
  unfold countUnrouted; split <;> rfl
@[simp] theorem State.setPacker_pool (s : State) (tag : Nat) (k : Packer) : (State.setPacker s tag k).pool = s.pool := by
  rfl
@[simp] theorem noteAdmitted_pool (slot : Nat) (s : State) : (noteAdmitted slot s).pool = s.pool := by
  rfl
@[simp] theorem settleCommitted_pool (old new : RouteEntry) (s : State) (p : PortId) : (settleCommitted old new s p).pool = s.pool := by
  rfl
@[simp] theorem writeRoute_pool (tag : Nat) (w : RouteWrite) (s : State) : (writeRoute tag w s).2.pool = s.pool := by
  unfold writeRoute; dsimp only; (repeat' split) <;> simp [foldl_pool]
@[simp] theorem writeRouteGuard_pool (w : GuardWrite) (s : State) : (writeRouteGuard w s).2.pool = s.pool := by
  rfl
@[simp] theorem enterPowering_pool (i : Nat) (c : Cause) (s : State) : (enterPowering i c s).pool = s.pool := by
  rfl
@[simp] theorem enterInserted_pool (i : Nat) (c : Cause) (s : State) : (enterInserted i c s).pool = s.pool := by
  unfold enterInserted; simp
@[simp] theorem enterEmpty_pool (i : Nat) (c : Cause) (s : State) : (enterEmpty i c s).pool = s.pool := by
  rfl
@[simp] theorem enterFaulted_pool (i : Nat) (c : Cause) (s : State) : (enterFaulted i c s).pool = s.pool := by
  rfl
@[simp] theorem enterQuiesced_pool (i : Nat) (c : Cause) (s : State) : (enterQuiesced i c s).pool = s.pool := by
  rfl
@[simp] theorem quiesceEarly_pool (i : Nat) (c : Cause) (s : State) : (quiesceEarly i c s).pool = s.pool := by
  unfold quiesceEarly; simp
@[simp] theorem settleDrain_pool (s : State) (i : Nat) : (settleDrain s i).pool = s.pool := by
  unfold settleDrain; dsimp only; split <;> simp
@[simp] theorem settleDrains_pool (s : State) : (settleDrains s).pool = s.pool := by
  unfold settleDrains; simp [foldl_pool]
@[simp] theorem passBoundary_pool (s : State) (i : Nat) : (passBoundary s i).pool = s.pool := by
  rfl
@[simp] theorem enterExtracting_pool (i : Nat) (c : Cause) (s : State) : (enterExtracting i c s).pool = s.pool := by
  unfold enterExtracting; simp
@[simp] theorem presenceShown_pool (i : Nat) (s : State) : (presenceShown i s).pool = s.pool := by
  rfl
@[simp] theorem debounceDone_pool (i : Nat) (s : State) : (debounceDone i s).pool = s.pool := by
  unfold debounceDone; simp
@[simp] theorem surpriseRemoval_pool (i : Nat) (s : State) : (surpriseRemoval i s).pool = s.pool := by
  unfold surpriseRemoval; simp
@[simp] theorem presenceGone_pool (i : Nat) (s : State) : (presenceGone i s).pool = s.pool := by
  unfold presenceGone; split <;> simp
@[simp] theorem powerShown_pool (i : Nat) (s : State) : (powerShown i s).pool = s.pool := by
  rfl
@[simp] theorem powerFault_pool (i : Nat) (s : State) : (powerFault i s).pool = s.pool := by
  rfl
@[simp] theorem powerGone_pool (i : Nat) (s : State) : (powerGone i s).pool = s.pool := by
  unfold powerGone; dsimp only; split <;> simp
@[simp] theorem powerExpired_pool (i : Nat) (s : State) : (powerExpired i s).pool = s.pool := by
  unfold powerExpired; simp
@[simp] theorem drainExpired_pool (i : Nat) (s : State) : (drainExpired i s).pool = s.pool := by
  unfold drainExpired; simp
@[simp] theorem laneAdvertised_pool (i credits : Nat) (s : State) : (laneAdvertised i credits s).pool = s.pool := by
  unfold laneAdvertised; simp
@[simp] theorem laneGone_pool (i : Nat) (s : State) : (laneGone i s).pool = s.pool := by
  unfold laneGone; dsimp only; (repeat' split) <;> simp
@[simp] theorem handleOpens_pool (i : Nat) (s : State) : (handleOpens i s).pool = s.pool := by
  unfold handleOpens; split <;> simp
@[simp] theorem handleCloses_pool (i : Nat) (s : State) : (handleCloses i s).pool = s.pool := by
  unfold handleCloses; simp
@[simp] theorem fromModule_pool (i : Nat) (take : State → State) (s : State) (htake : ∀ u : State, (take u).pool = u.pool) : (fromModule i take s).pool = s.pool := by
  unfold fromModule; (repeat' split) <;> simp_all
@[simp] theorem laneError_pool (i : Nat) (s : State) : (laneError i s).pool = s.pool := by
  rfl
theorem commitCompletion_pool {i : Nat} {s t : State} (h : commitCompletion i s = some t) : t.pool = s.pool := by
  unfold commitCompletion at h; dsimp only at h
  (repeat' split at h) <;> first | (cases h; done) | (cases h; simp)

theorem commitInbound_pool {i : Nat} {s t : State} (h : commitInbound i s = some t) : t.pool = s.pool := by
  unfold commitInbound at h; dsimp only at h
  (repeat' split at h) <;> first | (cases h; done) | (cases h; simp)

theorem commitSegment_pool {i : Nat} {s t : State} (h : commitSegment i s = some t) : t.pool = s.pool := by
  unfold commitSegment at h
  split at h
  · cases h; simp
  · cases h

theorem arbitrateLane_pool {i : Nat} {s t : State} (h : arbitrateLane i s = some t) : t.pool = s.pool := by
  unfold arbitrateLane at h
  split at h
  · rename_i u hu; cases h; exact commitCompletion_pool hu
  · split at h
    · rename_i u hu; cases h; exact commitInbound_pool hu
    · exact commitSegment_pool h

@[simp] theorem serveLane_pool (i n : Nat) (s : State) : (serveLane i n s).pool = s.pool := by
  induction n generalizing s with
  | zero => rfl
  | succ n ih =>
    unfold serveLane
    split
    · rename_i t h; rw [ih, arbitrateLane_pool h]
    · rfl

@[simp] theorem creditsReturned_pool (i count : Nat) (s : State) : (creditsReturned i count s).pool = s.pool := by
  unfold creditsReturned; simp

@[simp] theorem admitCommand_pool (i : Nat) (s : State) : (admitCommand i s).2.pool = s.pool := by
  unfold admitCommand; split <;> rfl
@[simp] theorem ejectCommand_pool (i : Nat) (s : State) : (ejectCommand i s).2.pool = s.pool := by
  unfold ejectCommand; split <;> simp
@[simp] theorem parkSlot_pool (i : Nat) (s : State) : (parkSlot i s).pool = s.pool := by
  unfold parkSlot; simp
@[simp] theorem parkCommand_pool (i : Nat) (s : State) : (parkCommand i s).2.pool = s.pool := by
  unfold parkCommand; (repeat' split) <;> simp
@[simp] theorem unparkCommand_pool (i : Nat) (s : State) : (unparkCommand i s).2.pool = s.pool := by
  unfold unparkCommand; split <;> rfl
@[simp] theorem clearCommand_pool (i : Nat) (s : State) : (clearCommand i s).2.pool = s.pool := by
  unfold clearCommand; split <;> simp
@[simp] theorem resetSlot_pool (i : Nat) (s : State) : (resetSlot i s).pool = s.pool := by
  unfold resetSlot; simp
@[simp] theorem slotResetCommand_pool (i : Nat) (s : State) : (slotResetCommand i s).2.pool = s.pool := by
  unfold slotResetCommand; split <;> simp
@[simp] theorem slotCommand_pool (i code : Nat) (s : State) : (slotCommand i code s).2.pool = s.pool := by
  unfold slotCommand; split <;> simp
@[simp] theorem expireSlotTimers_pool (i : Nat) (s : State) : (expireSlotTimers i s).pool = s.pool := by
  unfold expireSlotTimers; simp
@[simp] theorem powerInserted_pool (s : State) (i : Nat) : (powerInserted s i).pool = s.pool := by
  unfold powerInserted; simp
@[simp] theorem writeSlotSettings_pool (i : Nat) (w : SlotSettings) (s : State) : (writeSlotSettings i w s).2.pool = s.pool := by
  unfold writeSlotSettings; split <;> simp
@[simp] theorem attentionRaised_pool (i : Nat) (s : State) : (attentionRaised i s).pool = s.pool := by
  unfold attentionRaised; simp
@[simp] theorem removeAttention_pool (set : SlotSet) (s : State) : (removeAttention set s).pool = s.pool := by
  unfold removeAttention; simp
@[simp] theorem writeRootTrim_pool (v : Int) (s : State) : (writeRootTrim v s).2.pool = s.pool := by
  unfold writeRootTrim; split <;> rfl
@[simp] theorem writeLoad_pool (v : Nat) (s : State) : (writeLoad v s).2.pool = s.pool := by
  unfold writeLoad; split <;> rfl
@[simp] theorem writeTimebase_pool (w : TimebaseSettings) (s : State) : (writeTimebase w s).2.pool = s.pool := by
  unfold writeTimebase; split <;> rfl
@[simp] theorem writeTransSettings_pool (w : TransSettings) (s : State) : (writeTransSettings w s).2.pool = s.pool := by
  unfold writeTransSettings; split <;> rfl
@[simp] theorem writeWindow_pool (i : Nat) (w : WindowWrite) (s : State) : (writeWindow i w s).2.pool = s.pool := by
  unfold writeWindow; (repeat' split) <;> rfl
@[simp] theorem writeWindowGuard_pool (w : GuardWrite) (s : State) : (writeWindowGuard w s).2.pool = s.pool := by
  rfl
@[simp] theorem writeChannel_pool (c : Nat) (w : ChannelSetup) (s : State) : (writeChannel c w s).2.pool = s.pool := by
  unfold writeChannel; dsimp only; (repeat' split) <;> simp
@[simp] theorem startCommand_pool (c : Nat) (s : State) : (startCommand c s).2.pool = s.pool := by
  unfold startCommand; dsimp only; split <;> simp
@[simp] theorem pauseCommand_pool (c : Nat) (s : State) : (pauseCommand c s).2.pool = s.pool := by
  unfold pauseCommand; dsimp only; split <;> simp
@[simp] theorem resumeCommand_pool (c : Nat) (s : State) : (resumeCommand c s).2.pool = s.pool := by
  unfold resumeCommand; dsimp only; split <;> simp
@[simp] theorem abortCommand_pool (c : Nat) (s : State) : (abortCommand c s).2.pool = s.pool := by
  rfl
@[simp] theorem channelCommand_pool (c code : Nat) (s : State) : (channelCommand c code s).2.pool = s.pool := by
  unfold channelCommand; split <;> simp
@[simp] theorem writeManager_pool (frame slot : Nat) (s : State) : (writeManager frame slot s).2.pool = s.pool := by
  unfold writeManager; split <;> rfl
@[simp] theorem writeClear_pool (set : BitVec 32) (s : State) : (writeClear set s).2.pool = s.pool := by
  unfold writeClear; simp
@[simp] theorem enableKind_pool (enable : BitVec 32) (s : State) (k : Nat) : (enableKind enable s k).pool = s.pool := by
  rfl
@[simp] theorem writeNotice_pool (enable : BitVec 32) (address : Nat) (s : State) : (writeNotice enable address s).2.pool = s.pool := by
  unfold writeNotice; split <;> simp [foldl_pool]
@[simp] theorem writeRemoval_pool (set : SlotSet) (s : State) : (writeRemoval set s).2.pool = s.pool := by
  unfold writeRemoval; simp
@[simp] theorem writeRate_pool (p : PortId) (v : Nat) (s : State) : (writeRate p v s).2.pool = s.pool := by
  unfold writeRate; split <;> simp
@[simp] theorem portCommand_pool (p : PortId) (code : Nat) (s : State) : (portCommand p code s).2.pool = s.pool := by
  unfold portCommand; split <;> simp
@[simp] theorem abortEntry_pool (s : State) (i : Nat) : (abortEntry s i).pool = s.pool := by
  unfold abortEntry; split <;> simp
@[simp] theorem resetTrans_pool (s : State) : (resetTrans s).pool = s.pool := by
  unfold resetTrans; simp [foldl_pool]
@[simp] theorem resetUnits_pool (s : State) : (resetUnits s).pool = s.pool := by
  rfl
@[simp] theorem controllerResetAct_pool (s : State) : (controllerResetAct s).pool = s.pool := by
  unfold controllerResetAct; simp [foldl_pool]
@[simp] theorem releaseAct_pool (s : State) : (releaseAct s).pool = s.pool := by
  unfold releaseAct; simp
@[simp] theorem controllerCommand_pool (code : Nat) (s : State) : (controllerCommand code s).2.pool = s.pool := by
  unfold controllerCommand; (repeat' split) <;> rfl
@[simp] theorem writeField_pool (f : Field) (ws : List Nat) (s : State) : (writeField f ws s).2.pool = s.pool := by
  unfold writeField; dsimp only; (repeat' split) <;> simp
theorem writeFields_pool (lo : Nat) (ws : List Nat) (fs : List (Nat × Field)) (s : State) :
    (writeFields lo ws fs s).2.pool = s.pool := by
  induction fs generalizing s with
  | nil => rfl
  | cons x fs ih =>
    obtain ⟨k, f⟩ := x
    unfold writeFields
    have h := writeField_pool f ((ws.drop (k - lo)).take f.size) s
    split
    · rename_i s1 hx; rw [hx] at h; rw [ih]; exact h
    · exact h

@[simp] theorem writeRegion_pool (r : Region) (lo : Nat) (ws : List Nat) (s : State) : (writeRegion r lo ws s).2.pool = s.pool := by
  unfold writeRegion; dsimp only
  split
  · rfl
  · split
    · rfl
    · exact writeFields_pool _ _ _ _

@[simp] theorem applyPost_pool (p : Post) (s : State) : (applyPost p s).pool = s.pool := by
  unfold applyPost; split <;> simp
@[simp] theorem serveBad_pool (s : State) : (serveBad s).state.pool = s.pool := by unfold serveBad; simp

@[simp] theorem serveDenied_pool (s : State) : (serveDenied s).state.pool = s.pool := by unfold serveDenied; simp

theorem serveWrite_pool (who : Requester) (op : State → Status × State) (post : Status → Post) (s : State)
    (hop : ∀ u : State, (op u).2.pool = u.pool) : (serveWrite who op post s).state.pool = s.pool := by
  unfold serveWrite
  split
  · simp [hop]
  · simp

theorem serveController_pool (who : Requester) (op : Op) (address length : Nat) (data : List Byte) (s : State) :
    (serveController who op address length data s).state.pool = s.pool := by
  unfold serveController
  (repeat' split) <;> first | (simp; done) | exact serveWrite_pool _ _ _ _ (fun u => writeRegion_pool _ _ _ u)

theorem serveNumbered_pool {x : Served} {s : State} (h : x.state.pool = s.pool) : (serveNumbered x s).state.pool = s.pool := by
  unfold serveNumbered; split <;> simp [h]

theorem completeServed_pool {direct : Bool} {who : Requester} {x : Served} {t : State}
    (h : completeServed direct who x = some t) : t.pool = x.state.pool := by
  unfold completeServed at h
  simp only [Option.map_eq_some_iff] at h
  obtain ⟨u, hu, rfl⟩ := h
  simpa using sendCompletion_pool hu

@[simp] theorem managerCommand_pool (who : Requester) (op : State → Status × State) (post : Status → Post) (s : State)
    (hop : ∀ u : State, (op u).2.pool = u.pool) : (managerCommand who op post s).pool = s.pool := by
  unfold managerCommand
  cases hx : completeServed false who (serveNumbered (serveWrite who op post s) s) with
  | none => rfl
  | some t => rw [Option.getD_some, completeServed_pool hx]; exact serveNumbered_pool (serveWrite_pool who op post s hop)

@[simp] theorem countAnswer_pool (st : Status) (s : State) : (countAnswer st s).pool = s.pool := by
  unfold countAnswer; simp
@[simp] theorem pushRequest_pool (p : PortId) (r : Request) (s : State) : (pushRequest p r s).pool = s.pool := by
  unfold pushRequest; simp
@[simp] theorem joinInbound_pool (src : Via) (r : Request) (h : Nat) (s : State) : (joinInbound src r h s).pool = s.pool := by
  rfl
theorem serveSlot_pool {src : Via} {r : Request} {s t : State} (h : serveSlot src r s = some t) : t.pool = s.pool := by
  unfold serveSlot at h; dsimp only at h
  (repeat' split at h) <;> first
    | (rw [sendCompletion_pool h]; simp)
    | (cases h; simp)

theorem targetSide_pool {src : Via} {r : Request} {s t : State} (h : targetSide src r s = some t) : t.pool = s.pool := by
  unfold targetSide at h
  split at h
  · rw [completeServed_pool h]; exact serveController_pool _ _ _ _ _ s
  · split at h
    · exact sendCompletion_pool h
    · exact serveSlot_pool h

theorem takeNumber_pool {r : Request} {s t : State} (h : takeNumber r s = some t) : t.pool = s.pool := by
  unfold takeNumber at h; dsimp only at h
  simp only [Option.map_eq_some_iff] at h
  obtain ⟨u, hu, rfl⟩ := h
  simpa using sendCompletion_pool hu

theorem examineRequest_pool {p : PortId} {r : Request} {s t : State} (h : examineRequest p r s = some t) : t.pool = s.pool := by
  unfold examineRequest at h
  split at h
  · split at h
    · cases h; simp
    · cases h
  · exact targetSide_pool h
  · exact takeNumber_pool h
  · rw [sendCompletion_pool h]; simp

theorem examineCompletion_pool {p : PortId} {c : Completion} {s t : State} (h : examineCompletion p c s = some t) :
    t.pool = s.pool := by
  unfold examineCompletion at h; dsimp only at h
  (repeat' split at h) <;> first | (cases h; done) | (cases h; simp)

@[simp] theorem holdRequest_pool (p : PortId) (r : Request) (s : State) : (holdRequest p r s).pool = s.pool := by
  unfold holdRequest; simp
@[simp] theorem holdCompletion_pool (p : PortId) (c : Completion) (s : State) : (holdCompletion p c s).pool = s.pool := by
  unfold holdCompletion; simp
@[simp] theorem arriveRequest_pool (p : PortId) (r : Request) (s : State) : (arriveRequest p r s).pool = s.pool := by
  unfold arriveRequest
  split
  · simp
  · split
    · rename_i t h; split <;> simp [examineRequest_pool h]
    · simp

@[simp] theorem arriveCompletion_pool (p : PortId) (c : Completion) (s : State) : (arriveCompletion p c s).pool = s.pool := by
  unfold arriveCompletion
  split
  · simp
  · split
    · rename_i t h; split <;> simp [examineCompletion_pool h]
    · simp

@[simp] theorem routeEntry_pool (i : Nat) (s : State) : (routeEntry i s).pool = s.pool := by
  unfold routeEntry; (try dsimp only)
  split
  · rfl
  · rename_i e _
    split
    · split <;> simp
    · cases hx : targetSide .here (e.request s.frameCode) (s.setOtt i { e with state := .sent, via := some .here }) with
      | none => simp
      | some t => simpa using targetSide_pool hx
    · simp
    · simp

@[simp] theorem rerouteEntry_pool (s : State) (i : Nat) : (rerouteEntry s i).pool = s.pool := by
  unfold rerouteEntry; split <;> simp
@[simp] theorem rerouteAll_pool (n : Nat) (s : State) : (rerouteAll n s).pool = s.pool := by
  induction n generalizing s with
  | zero => rfl
  | succ n ih => unfold rerouteAll; split <;> simp [ih, foldl_pool]
@[simp] theorem finish_pool (s : State) : (finish s).pool = s.pool := by
  unfold finish; simp
@[simp] theorem takeEntry_pool (arb : Trans) (k : Nat) (e : OttEntry) (w : Option Status) (s : State) : (takeEntry arb k e w s).pool = s.pool := by
  unfold takeEntry; dsimp only; split <;> simp
@[simp] theorem refuseHead_pool (i : Nat) (s : State) : (refuseHead i s).pool = s.pool := by
  unfold refuseHead; dsimp only
  split
  · generalize hs : s.updSlot i _ = s1
    have h0 : s1.pool = s.pool := by rw [← hs]; simp
    cases hx : commitCompletion i s1 with
    | none => simpa using h0
    | some t => simpa [h0] using commitCompletion_pool hx
  · simp

@[simp] theorem takeHead_pool (i : Nat) (s : State) : (takeHead i s).pool = s.pool := by
  unfold takeHead; dsimp only; (repeat' split) <;> simp
@[simp] theorem slotRequest_pool (i : Nat) (arriving : Option LaneRequest) (s : State) : (slotRequest i arriving s).pool = s.pool := by
  unfold slotRequest; split <;> simp
@[simp] theorem startRead_pool (c : Nat) (s : State) : (startRead c s).pool = s.pool := by
  unfold startRead; (repeat' split) <;> simp
@[simp] theorem startWrite_pool (c : Nat) (s : State) : (startWrite c s).pool = s.pool := by
  unfold startWrite; split <;> simp
@[simp] theorem issueNotice_pool (s : State) : (issueNotice s).pool = s.pool := by
  unfold issueNotice; split <;> simp
@[simp] theorem releaseRequest_pool (x : HeldReq) (s : State) : (releaseRequest x s).pool = s.pool := by
  unfold releaseRequest; simp
theorem retryRequest_pool {x : HeldReq} {s t : State} (h : retryRequest x s = some t) : t.pool = s.pool := by
  unfold retryRequest at h
  simp only [Option.map_eq_some_iff] at h
  obtain ⟨u, hu, rfl⟩ := h
  simpa using examineRequest_pool hu

@[simp] theorem sendQueued_pool (p : PortId) (k : Nat) (e : OttEntry) (s : State) : (sendQueued p k e s).pool = s.pool := by
  unfold sendQueued; simp
@[simp] theorem takeRequestRoom_pool (p : PortId) (s : State) : (takeRequestRoom p s).pool = s.pool := by
  have held : ∀ x : HeldReq, (((retryRequest x s).map (fun s => s.updPort p (fun r => { r with reqTookHeld := true }))).getD s).pool = s.pool := by
    intro x
    cases hx : retryRequest x s with
    | none => rfl
    | some t => simpa using retryRequest_pool hx
  unfold takeRequestRoom; dsimp only
  split
  · rfl
  · split
    · split
      · simp
      · exact held _
    · exact held _
    · simp
    · rfl

@[simp] theorem releaseCompletion_pool (q : PortId) (h : HeldCompletion) (s : State) : (releaseCompletion q h s).pool = s.pool := by
  unfold releaseCompletion; simp
theorem retryHeld_pool {x : HeldAny} {s t : State} (h : retryHeld x s = some t) : t.pool = s.pool := by
  cases x with
  | req r => exact retryRequest_pool h
  | comp q k =>
    simp only [retryHeld, Option.map_eq_some_iff] at h
    obtain ⟨u, hu, rfl⟩ := h
    simpa using examineCompletion_pool hu

@[simp] theorem markTaken_pool (p : PortId) (held : Bool) (s t : State) : (markTaken p held s t).pool = t.pool := by
  unfold markTaken; split <;> simp
@[simp] theorem takeCompletionRoom_pool (p : PortId) (s : State) : (takeCompletionRoom p s).pool = s.pool := by
  have held : ∀ t, ((((s.heldFor p).insertionSort (fun a b => a.order ≤ b.order)).findSome? (fun x => retryHeld x s)).map
      (markTaken p true s)) = some t → t.pool = s.pool := by
    intro t h
    simp only [Option.map_eq_some_iff] at h
    obtain ⟨u, hu, rfl⟩ := h
    obtain ⟨x, _, hx⟩ := List.exists_of_findSome?_eq_some hu
    simpa using retryHeld_pool hx
  have own : ∀ t, ((s.oldestInboundAnswer p).bind (fun x => (takeInbound x.1 s).map
      (markTaken p false s))) = some t → t.pool = s.pool := by
    intro t h
    simp only [Option.bind_eq_some_iff, Option.map_eq_some_iff] at h
    obtain ⟨x, _, u, hu, rfl⟩ := h
    simpa using takeInbound_pool hu
  unfold takeCompletionRoom; dsimp only
  split <;>
  · cases hh : (List.findSome? _ _).map _ <;> cases ho : (s.oldestInboundAnswer p).bind _ <;>
      simp <;> first | exact held _ hh | exact own _ ho

@[simp] theorem entryExpires_pool (i : Nat) (s : State) : (entryExpires i s).pool = s.pool := by
  unfold entryExpires; split <;> simp
@[simp] theorem backoffOver_pool (i : Nat) (s : State) : (backoffOver i s).pool = s.pool := by
  unfold backoffOver; split <;> simp
@[simp] theorem responseExpires_pool (h : Nat) (s : State) : (responseExpires h s).pool = s.pool := by
  unfold responseExpires; split <;> simp
@[simp] theorem replyArrives_pool (slot h code : Nat) (data : List Byte) (s : State) : (replyArrives slot h code data s).pool = s.pool := by
  unfold replyArrives; split <;> simp
@[simp] theorem lockExpires_pool (i : Nat) (s : State) : (lockExpires i s).pool = s.pool := by
  unfold lockExpires; simp
@[simp] theorem rootMarks_pool (s : State) : (rootMarks s).pool = s.pool := by
  unfold rootMarks; simp [foldl_pool]
@[simp] theorem triggerBoundary_pool (discontinuous : Bool) (s : State) : (triggerBoundary discontinuous s).pool = s.pool := by
  unfold triggerBoundary; simp
@[simp] theorem channelsBoundary_pool (s : State) : (channelsBoundary s).pool = s.pool := by
  rfl
@[simp] theorem receiveMark_pool (p : PortId) (m : Mark) (s : State) : (receiveMark p m s).pool = s.pool := by
  unfold receiveMark; simp
@[simp] theorem receiveEchoReply_pool (p : PortId) (n t2 t3 : Nat) (s : State) : (receiveEchoReply p n t2 t3 s).pool = s.pool := by
  unfold receiveEchoReply; simp
@[simp] theorem receiveTrigger_pool (p : PortId) (t : Trigger) (s : State) : (receiveTrigger p t s).pool = s.pool := by
  unfold receiveTrigger; simp
@[simp] theorem receiveAnnounce_pool (p : PortId) (a : Announce) (s : State) : (receiveAnnounce p a s).pool = s.pool := by
  unfold receiveAnnounce; simp
@[simp] theorem receiveCredit_pool (p : PortId) (a b c : Nat) (s : State) : (receiveCredit p a b c s).pool = s.pool := by
  unfold receiveCredit; simp
@[simp] theorem receiveRequest_pool (p : PortId) (r : Request) (s : State) : (receiveRequest p r s).pool = s.pool := by
  unfold receiveRequest; simp
@[simp] theorem leaveLoop_pool (p : PortId) (bytes : List Byte) (s : State) : (leaveLoop p bytes s).pool = s.pool := by
  unfold leaveLoop; simp
@[simp] theorem receiveCompletion_pool (p : PortId) (c : Completion) (s : State) : (receiveCompletion p c s).pool = s.pool := by
  unfold receiveCompletion; simp
@[simp] theorem managed_pool (who : Requester) (op : State → Status × State) (s : State) (hop : ∀ u : State, (op u).2.pool = u.pool) : (managed who op s).pool = s.pool := by
  unfold managed; simp_all
@[simp] theorem senseShown_pool (p : PortId) (s : State) : (senseShown p s).pool = s.pool := by
  unfold senseShown; simp
@[simp] theorem senseGone_pool (p : PortId) (s : State) : (senseGone p s).pool = s.pool := by
  unfold senseGone; dsimp only; split <;> simp
@[simp] theorem lockGained_pool (p : PortId) (s : State) : (lockGained p s).pool = s.pool := by
  unfold lockGained; simp
@[simp] theorem helloTick_pool (p : PortId) (s : State) : (helloTick p s).pool = s.pool := by
  unfold helloTick; simp
@[simp] theorem pairingLapses_pool (p : PortId) (s : State) : (pairingLapses p s).pool = s.pool := by
  unfold pairingLapses; simp
@[simp] theorem echoTick_pool (p : PortId) (s : State) : (echoTick p s).pool = s.pool := by
  unfold echoTick; split <;> simp
@[simp] theorem silenceOver_pool (p : PortId) (s : State) : (silenceOver p s).pool = s.pool := by
  unfold silenceOver; simp
@[simp] theorem ageOutSeen_pool (s : State) : (ageOutSeen s).pool = s.pool := by
  unfold ageOutSeen; simp
@[simp] theorem queueTake_pool (p : PortId) (q : TxClass) (s : State) : (queueTake p q s).pool = s.pool := by
  unfold queueTake; split <;> simp
@[simp] theorem spaceWrite_pool (who : Requester) (address : Nat) (data : List Byte) (s : State) :
    (spaceWrite who address data s).pool = s.pool := by
  unfold spaceWrite
  cases hx : completeServed false who (serveNumbered (serveController who .write address data.length data s) s) with
  | none => rfl
  | some t => rw [Option.getD_some, completeServed_pool hx]; exact serveNumbered_pool (serveController_pool who _ _ _ _ s)

/-! ## The operations that write the pool -/

/-- The pool stays in canonical form where it stays as it was. -/
theorem wf_of_pool_eq {s t : State} (h : t.pool = s.pool) (hs : Memory.wf s.pool) : Memory.wf t.pool := by
  rw [h]; exact hs

theorem placeIn_wf (b i : Nat) (p : StreamParcel) (s : State) (hs : Memory.wf s.pool) : Memory.wf (placeIn b i p s).pool := by
  unfold placeIn; dsimp only
  split
  · exact hs
  · split
    · exact hs
    · exact poolWriteAll_wf _ _ hs

theorem placeParcel_wf (b : Nat) (p : StreamParcel) (s : State) (hs : Memory.wf s.pool) : Memory.wf (placeParcel b p s).pool := by
  unfold placeParcel; dsimp only
  (repeat' split) <;> first | exact placeIn_wf _ _ _ _ hs | exact hs

theorem handOver_wf (e : RouteEntry) (x : StreamParcel) (s : State) (hs : Memory.wf s.pool) : Memory.wf (handOver e x s).pool := by
  unfold handOver; dsimp only
  have h : Memory.wf (sendParcel e.sinks x s).pool := wf_of_pool_eq (sendParcel_pool _ _ _) hs
  split
  · exact placeParcel_wf _ _ _ h
  · exact h

theorem takeStream_wf (src : Option PortId) (x : StreamParcel) (s : State) (hs : Memory.wf s.pool) :
    Memory.wf (takeStream src x s).pool := by
  unfold takeStream; dsimp only
  (repeat' split) <;> first
    | exact handOver_wf _ _ _ (wf_of_pool_eq (by simp) hs)
    | exact wf_of_pool_eq (by simp) hs

theorem cutFull_wf (tag : Nat) (k : Packer) (s : State) (hs : Memory.wf s.pool) : Memory.wf (cutFull tag k s).pool :=
  takeStream_wf _ _ _ (wf_of_pool_eq (by simp) hs)

theorem takeBurst_wf (i tag : Nat) (data : List Byte) (s : State) (hs : Memory.wf s.pool) :
    Memory.wf (takeBurst i tag data s).pool := by
  unfold takeBurst
  split
  · exact hs
  · dsimp only
    split
    · exact cutFull_wf _ _ _ hs
    · exact hs

theorem burstArrives_wf (i tag : Nat) (data : List Byte) (s : State) (hs : Memory.wf s.pool) :
    Memory.wf (burstArrives i tag data s).pool := by
  unfold burstArrives
  split
  · exact hs
  · exact takeBurst_wf _ _ _ _ hs

theorem closePacker_wf (s : State) (tag : Nat) (hs : Memory.wf s.pool) : Memory.wf (closePacker s tag).pool := by
  unfold closePacker
  (repeat' split) <;> first | exact hs | exact takeStream_wf _ _ _ hs

theorem closePackers_wf (s : State) (hs : Memory.wf s.pool) : Memory.wf (closePackers s).pool := by
  unfold closePackers
  generalize s.router.table.map (·.1) = l
  induction l generalizing s with
  | nil => exact hs
  | cons a l ih => exact ih _ (closePacker_wf _ _ hs)

@[simp] theorem reopenPacker_pool (s : State) (tag : Nat) : (reopenPacker s tag).pool = s.pool := by
  unfold reopenPacker; split <;> simp

@[simp] theorem reopenPackers_pool (s : State) : (reopenPackers s).pool = s.pool :=
  foldl_pool _ (fun u a => reopenPacker_pool u a) _ _

theorem boundaryEvent_wf (discontinuous restart : Bool) (s : State) (hs : Memory.wf s.pool) :
    Memory.wf (boundaryEvent discontinuous restart s).pool := by
  unfold boundaryEvent; dsimp only
  simp only [scheduleBurst_pool, rootMarks_pool, channelsBoundary_pool, foldl_pool _ (fun u a => passBoundary_pool u a),
    deliveryBoundary_pool, reopenPackers_pool]
  exact wf_of_pool_eq (by simp) hs

theorem epochBoundary_wf (s : State) (hs : Memory.wf s.pool) : Memory.wf (epochBoundary s).pool :=
  boundaryEvent_wf _ _ _ (wf_of_pool_eq (by simp) (closePackers_wf s hs))

/-- What becomes of a parcel by the port's state keeps the form where taking it does. -/
theorem byState_wf (p : PortId) (c : ParcelClass) (x : Parcel) (take : State → State) (s : State)
    (h : Memory.wf s.pool → Memory.wf (take s).pool) (hs : Memory.wf s.pool) : Memory.wf (byState p c x take s).pool := by
  unfold byState
  (repeat' split) <;> first | exact h hs | exact hs | exact wf_of_pool_eq (by simp) hs

theorem receiveStream_wf (p : PortId) (x : StreamParcel) (s : State) (hs : Memory.wf s.pool) :
    Memory.wf (receiveStream p x s).pool :=
  byState_wf _ _ _ _ _ (fun h => wf_of_pool_eq (State.updPort_pool _ _ _) (takeStream_wf _ _ _ h)) hs

theorem receiveParcel_wf (p : PortId) (x : Parcel) (s : State) (hs : Memory.wf s.pool) : Memory.wf (receiveParcel p x s).pool := by
  unfold receiveParcel
  split <;> first | exact receiveStream_wf _ _ _ hs | exact wf_of_pool_eq (by simp) hs

theorem receiveBytes_wf (p : PortId) (bytes : List Byte) (s : State) (hs : Memory.wf s.pool) :
    Memory.wf (receiveBytes p bytes s).pool := by
  unfold receiveBytes
  (repeat' split) <;> first | exact receiveParcel_wf _ _ _ hs | exact hs | exact wf_of_pool_eq (by simp) hs

theorem loopbackReturn_wf (p : PortId) (bytes : List Byte) (s : State) (hs : Memory.wf s.pool) :
    Memory.wf (loopbackReturn p bytes s).pool := by
  unfold loopbackReturn
  split
  · exact receiveBytes_wf _ _ _ (wf_of_pool_eq (leaveLoop_pool _ _ _) hs)
  · exact hs

/-- What arrives from a module keeps the form where taking it does. -/
theorem fromModule_wf (i : Nat) (take : State → State) (s : State) (h : Memory.wf s.pool → Memory.wf (take s).pool)
    (hs : Memory.wf s.pool) : Memory.wf (fromModule i take s).pool := by
  unfold fromModule
  split <;> first | exact h hs | exact hs

theorem receiveLaneBytes_wf (i : Nat) (bytes : List Byte) (s : State) (hs : Memory.wf s.pool) :
    Memory.wf (receiveLaneBytes i bytes s).pool := by
  refine fromModule_wf _ _ _ (fun h => ?_) hs
  split <;> first | exact burstArrives_wf _ _ _ _ h | exact wf_of_pool_eq (by simp) h

end Sys2Proof.Machine
end

