-- ==== Sys2Proof/Laws/StillFrames.lean ====
section
/-! SUPPORT. Laws/StillFrames.lean: what no act of any unit changes: the Unit Identifier, the queue of
commands, local time and the sampled straps. One lemma for each operation of the machine. -/

namespace Sys2Proof.Machine
def State.still (s : State) : Nat × List Instr × Nat × Nat := (s.unitId, s.pending, s.localTime, s.mgrSlot)

@[simp] theorem State.still_mk (lt uid mg p0 p1 topo rtu trig router bi pool sl tr ch m sb se pe) :
    State.still ⟨lt, uid, mg, p0, p1, topo, rtu, trig, router, bi, pool, sl, tr, ch, m, sb, se, pe⟩ = (uid, pe, lt, mg) := rfl

@[simp] theorem State.still_fold (u : State) : (u.unitId, u.pending, u.localTime, u.mgrSlot) = u.still := rfl

@[simp] theorem State.ite_still (c : Prop) [Decidable c] (a b : State) : (if c then a else b).still = if c then a.still else b.still := by
  split <;> rfl

theorem foldl_still {α : Type} (f : State → α → State) (h : ∀ u a, (f u a).still = u.still) (l : List α) (s : State) :
    (l.foldl f s).still = s.still := by
  induction l generalizing s with
  | nil => rfl
  | cons a l ih => rw [List.foldl_cons, ih, h]

@[simp] theorem State.setPort_still (s : State) (p : PortId) (r : Port) : (s.setPort p r).still = s.still := by cases p <;> rfl
@[simp] theorem State.updPort_still (s : State) (p : PortId) (f : Port → Port) : (s.updPort p f).still = s.still := by cases p <;> rfl
@[simp] theorem State.countPort_still (s : State) (p : PortId) (f : PortCounters → PortCounters) : (s.countPort p f).still = s.still := by cases p <;> rfl
@[simp] theorem State.setSlot_still (s : State) (i : Nat) (r : Slot) : (s.setSlot i r).still = s.still := by rfl
@[simp] theorem State.updSlot_still (s : State) (i : Nat) (f : Slot → Slot) : (s.updSlot i f).still = s.still := by rfl
@[simp] theorem State.countSlot_still (s : State) (i : Nat) (f : SlotCounters → SlotCounters) : (s.countSlot i f).still = s.still := by rfl
@[simp] theorem State.setBinding_still (s : State) (i : Nat) (b : Binding) : (s.setBinding i b).still = s.still := by rfl
@[simp] theorem State.setRoute_still (s : State) (k : Nat) (e : RouteEntry) : (s.setRoute k e).still = s.still := by rfl
@[simp] theorem State.setChannel_still (s : State) (c : Nat) (r : Channel) : (s.setChannel c r).still = s.still := by rfl
@[simp] theorem State.updTrans_still (s : State) (f : Trans → Trans) : (s.updTrans f).still = s.still := by rfl
@[simp] theorem State.setOtt_still (s : State) (i : Nat) (e : OttEntry) : (s.setOtt i e).still = s.still := by rfl
@[simp] theorem State.delOtt_still (s : State) (i : Nat) : (s.delOtt i).still = s.still := by rfl
@[simp] theorem State.setIn_still (s : State) (h : Nat) (e : InEntry) : (s.setIn h e).still = s.still := by rfl
@[simp] theorem State.delIn_still (s : State) (h : Nat) : (s.delIn h).still = s.still := by rfl
@[simp] theorem State.setLock_still (s : State) (i : Nat) (l : Lock) : (s.setLock i l).still = s.still := by rfl
@[simp] theorem State.setWindow_still (s : State) (i : Nat) (w : Window) : (s.setWindow i w).still = s.still := by rfl
@[simp] theorem State.updTrig_still (s : State) (f : TriggerUnit → TriggerUnit) : (s.updTrig f).still = s.still := by rfl
@[simp] theorem State.setEvent_still (s : State) (k : Nat) (r : EventRecord) : (s.setEvent k r).still = s.still := by rfl
@[simp] theorem State.updMgmt_still (s : State) (f : Mgmt → Mgmt) : (s.updMgmt f).still = s.still := by rfl
@[simp] theorem State.updTopo_still (s : State) (f : Topology → Topology) : (s.updTopo f).still = s.still := by rfl
@[simp] theorem State.nextSerial_still (s : State)  : (s.nextSerial ).still = s.still := by rfl
@[simp] theorem raise_still (k : EventKind) (s : State) : (raise k s).still = s.still := rfl
@[simp] theorem raiseIf_still (b : Bool) (k : EventKind) (s : State) : (raiseIf b k s).still = s.still := by cases b <;> rfl
@[simp] theorem raiseAll_still (ks : List EventKind) (s : State) : (raiseAll ks s).still = s.still :=
  foldl_still (fun s k => raise k s) (fun _ _ => rfl) _ _
@[simp] theorem clearKind_still (s : State) (k : Nat) : (clearKind s k).still = s.still := by
  unfold clearKind; simp
@[simp] theorem clearKinds_still (set : BitVec 32) (s : State) : (clearKinds set s).still = s.still := by
  unfold clearKinds; simp [foldl_still]
@[simp] theorem State.applyRtu_still (s : State) (x : RtuStep) : (State.applyRtu s x).still = s.still := by
  unfold State.applyRtu; simp
@[simp] theorem recommitPort_still (s : State) (p : PortId) : (recommitPort s p).still = s.still := by
  unfold recommitPort; simp
@[simp] theorem recommit_still (s : State) : (recommit s).still = s.still := by
  unfold recommit; simp
@[simp] theorem sendHello_still (s : State) (p : PortId) : (sendHello s p).still = s.still := by
  unfold sendHello; simp
@[simp] theorem helloUpPorts_still (s : State) : (helloUpPorts s).still = s.still := by
  unfold helloUpPorts; simp [foldl_still]
@[simp] theorem announceExcept_still (except : Option PortId) (a : Announce) (s : State) : (announceExcept except a s).still = s.still := by
  unfold announceExcept; simp [foldl_still]
@[simp] theorem sendAnnounce_still (s : State) : (sendAnnounce s).still = s.still := by
  unfold sendAnnounce; split <;> simp
@[simp] theorem purgePort_still (p : PortId) (s : State) : (purgePort p s).still = s.still := by
  rfl
@[simp] theorem purgeLost_still (before s : State) : (purgeLost before s).still = s.still := by
  unfold purgeLost; simp [foldl_still]
@[simp] theorem treeChange_still (before s : State) : (treeChange before s).still = s.still := by
  unfold treeChange; simp
@[simp] theorem rootwardChange_still (new : Option PortId) (s : State) : (rootwardChange new s).still = s.still := by
  unfold rootwardChange; simp
@[simp] theorem rootwardLost_still (p : PortId) (s : State) : (rootwardLost p s).still = s.still := by
  unfold rootwardLost; simp
@[simp] theorem dropStaleRootward_still (s : State) : (dropStaleRootward s).still = s.still := by
  unfold dropStaleRootward; (repeat' split) <;> simp
@[simp] theorem chooseRootward_still (s : State) : (chooseRootward s).still = s.still := by
  unfold chooseRootward; (repeat' split) <;> simp
@[simp] theorem topologyBoundary_still (s : State) : (topologyBoundary s).still = s.still := by
  unfold topologyBoundary; simp
@[simp] theorem recordMark_still (p : PortId) (m : Mark) (s : State) : (recordMark p m s).still = s.still := by
  rfl
@[simp] theorem acceptMark_still (p : PortId) (m : Mark) (s : State) : (acceptMark p m s).still = s.still := by
  unfold acceptMark; split <;> simp
@[simp] theorem forwardAnnounce_still (p : PortId) (a : Announce) (s : State) : (forwardAnnounce p a s).still = s.still := by
  unfold forwardAnnounce; simp
@[simp] theorem acceptAnnounce_still (p : PortId) (a : Announce) (s : State) : (acceptAnnounce p a s).still = s.still := by
  unfold acceptAnnounce; simp
@[simp] theorem faultChannel_still (c : Nat) (destination : Bool) (st : Status) (s : State) : (faultChannel c destination st s).still = s.still := by
  rfl
@[simp] theorem chunkRead_still (c : Nat) (item : Chunk) (data : List Byte) (s : State) : (chunkRead c item data s).still = s.still := by
  rfl
@[simp] theorem chunkWritten_still (c : Nat) (item : Chunk) (s : State) : (chunkWritten c item s).still = s.still := by
  unfold chunkWritten; simp
@[simp] theorem channelAnswer_still (c tag : Nat) (st : Status) (data : List Byte) (s : State) : (channelAnswer c tag st data s).still = s.still := by
  unfold channelAnswer; dsimp only; split <;> simp
@[simp] theorem settleNotice_still (k : Nat) (n : NoticeState) (s : State) : (settleNotice k n s).still = s.still := by
  unfold settleNotice; simp
@[simp] theorem noticeAnswer_still (tag : Nat) (st : Status) (s : State) : (noticeAnswer tag st s).still = s.still := by
  unfold noticeAnswer; split <;> simp
@[simp] theorem State.giveOne_still (s : State) : s.giveOne.still = s.still := by
  unfold State.giveOne; split <;> simp
@[simp] theorem State.give_still (n : Nat) (s : State) : (State.give n s).still = s.still := by
  induction n generalizing s with
  | zero => rfl
  | succ n ih => simp [State.give, ih]
@[simp] theorem State.regrant_still (s : State) : s.regrant.still = s.still := by
  unfold State.regrant; simp
@[simp] theorem State.noteFreed_still (s t : State) : (s.noteFreed t).still = t.still := by
  unfold State.noteFreed; split <;> simp
@[simp] theorem State.freeOtt_still (s : State) (i : Nat) : (s.freeOtt i).still = s.still := by
  unfold State.freeOtt; simp
@[simp] theorem answerEntry_still (i : Nat) (st : Status) (data : List Byte) (s : State) : (answerEntry i st data s).still = s.still := by
  unfold answerEntry; split <;> simp
@[simp] theorem enterBackoff_still (i : Nat) (e : OttEntry) (s : State) : (enterBackoff i e s).still = s.still := by
  rfl
@[simp] theorem completionHere_still (id tag : Nat) (st : Status) (data : List Byte) (s : State) : (completionHere id tag st data s).still = s.still := by
  unfold completionHere; (repeat' split) <;> simp
theorem sendCompletion_still {direct : Bool} {who : Requester} {st : Status} {data : List Byte} {s t : State}
    (h : sendCompletion direct who st data s = some t) : t.still = s.still := by
  unfold sendCompletion at h
  (repeat' split at h) <;> first | (cases h; done) | (cases h; simp)

theorem takeInbound_still {k : Nat} {s t : State} (h : takeInbound k s = some t) : t.still = s.still := by
  unfold takeInbound at h
  (repeat' split at h)
  · cases h
  · simp only [Option.map_eq_some_iff] at h
    obtain ⟨u, hu, rfl⟩ := h
    simpa using sendCompletion_still hu
  · cases h

@[simp] theorem releaseLock_still (i : Nat) (s : State) : (releaseLock i s).still = s.still := by
  rfl
@[simp] theorem offerInbound_still (before : State) (h : Nat) (s : State) : (offerInbound before h s).still = s.still := by
  unfold offerInbound
  cases hx : takeInbound h s with
  | none => rfl
  | some t => simp [takeInbound_still hx]

@[simp] theorem answerInbound_still (h : Nat) (st : Status) (data : List Byte) (s : State) : (answerInbound h st data s).still = s.still := by
  unfold answerInbound; split <;> simp
@[simp] theorem answerSlotInbound_still (slot : Nat) (p : InState → Bool) (st : Status) (s : State) : (answerSlotInbound slot p st s).still = s.still := by
  unfold answerSlotInbound; simp [foldl_still]
@[simp] theorem dropSlotEntries_still (slot : Nat) (s : State) : (dropSlotEntries slot s).still = s.still := by
  unfold dropSlotEntries; simp
@[simp] theorem clearLane_still (slot : Nat) (s : State) : (clearLane slot s).still = s.still := by
  rfl
@[simp] theorem departureCleanup_still (slot : Nat) (st : Status) (s : State) : (departureCleanup slot st s).still = s.still := by
  unfold departureCleanup; simp
@[simp] theorem entryLinkDown_still (p : PortId) (s : State) (i : Nat) : (entryLinkDown p s i).still = s.still := by
  unfold entryLinkDown; (repeat' split) <;> simp
@[simp] theorem ottLinkDown_still (p : PortId) (s : State) : (ottLinkDown p s).still = s.still := by
  unfold ottLinkDown; simp [foldl_still]
@[simp] theorem linkDown_still (p : PortId) (s : State) : (linkDown p s).still = s.still := by
  unfold linkDown; simp
@[simp] theorem leaveFor_still (p : PortId) (enter : Port → Port) (s : State) : (leaveFor p enter s).still = s.still := by
  unfold leaveFor; simp
@[simp] theorem enterTraining_still (p : PortId) (s : State) : (enterTraining p s).still = s.still := by
  unfold enterTraining; simp
@[simp] theorem enterAbsent_still (p : PortId) (s : State) : (enterAbsent p s).still = s.still := by
  unfold enterAbsent; simp
@[simp] theorem enterLoopback_still (p : PortId) (form : LoopForm) (s : State) : (enterLoopback p form s).still = s.still := by
  unfold enterLoopback; simp
@[simp] theorem leaveLoopback_still (p : PortId) (s : State) : (leaveLoopback p s).still = s.still := by
  unfold leaveLoopback; simp
@[simp] theorem countRetrain_still (p : PortId) (s : State) : (countRetrain p s).still = s.still := by
  unfold countRetrain; simp
@[simp] theorem bumpRetrains_still (p : PortId) (s : State) : (bumpRetrains p s).still = s.still := by
  unfold bumpRetrains; simp
@[simp] theorem retrainBad_still (p : PortId) (s : State) : (retrainBad p s).still = s.still := by
  unfold retrainBad; simp
@[simp] theorem symbolLockLoss_still (p : PortId) (s : State) : (symbolLockLoss p s).still = s.still := by
  unfold symbolLockLoss; simp
@[simp] theorem offerEcho_still (p : PortId) (s : State) : (offerEcho p s).still = s.still := by
  unfold offerEcho; simp
@[simp] theorem beginBurst_still (p : PortId) (s : State) : (beginBurst p s).still = s.still := by
  unfold beginBurst; simp
@[simp] theorem scheduleBurst_still (p : PortId) (s : State) : (scheduleBurst p s).still = s.still := by
  unfold scheduleBurst; simp
@[simp] theorem enterUp_still (p : PortId) (s : State) : (enterUp p s).still = s.still := by
  unfold enterUp; simp
@[simp] theorem settleDelay_still (p : PortId) (result : Option Nat) (s : State) : (settleDelay p result s).still = s.still := by
  unfold settleDelay; split <;> simp
@[simp] theorem endBurst_still (p : PortId) (s : State) : (endBurst p s).still = s.still := by
  unfold endBurst; dsimp only; (repeat' split) <;> simp
@[simp] theorem acceptEchoReply_still (p : PortId) (n t2 t3 : Nat) (s : State) : (acceptEchoReply p n t2 t3 s).still = s.still := by
  unfold acceptEchoReply; dsimp only; (repeat' split) <;> simp
@[simp] theorem discardEarly_still (p : PortId) (c : ParcelClass) (s : State) : (discardEarly p c s).still = s.still := by
  unfold discardEarly; simp
@[simp] theorem loopbackGood_still (p : PortId) (echo : Option Nat) (s : State) : (loopbackGood p echo s).still = s.still := by
  unfold loopbackGood; simp
@[simp] theorem sendBack_still (p : PortId) (bytes : List Byte) (s : State) : (sendBack p bytes s).still = s.still := by
  unfold sendBack; simp
@[simp] theorem inLoopback_still (p : PortId) (echo : Option Nat) (x : Parcel) (s : State) : (inLoopback p echo x s).still = s.still := by
  unfold inLoopback; simp
@[simp] theorem byState_still (p : PortId) (c : ParcelClass) (x : Parcel) (take : State → State) (s : State) (htake : ∀ u : State, (take u).still = u.still) : (byState p c x take s).still = s.still := by
  unfold byState; (repeat' split) <;> simp_all
@[simp] theorem completePairing_still (p : PortId) (h : Hello) (s : State) : (completePairing p h s).still = s.still := by
  unfold completePairing; simp
@[simp] theorem helloPairing_still (p : PortId) (h : Hello) (s : State) : (helloPairing p h s).still = s.still := by
  unfold helloPairing; simp
@[simp] theorem helloUpdate_still (p : PortId) (h : Hello) (s : State) : (helloUpdate p h s).still = s.still := by
  unfold helloUpdate; simp
@[simp] theorem acceptHello_still (p : PortId) (h : Hello) (s : State) : (acceptHello p h s).still = s.still := by
  unfold acceptHello; dsimp only; split <;> simp
@[simp] theorem acceptEcho_still (p : PortId) (n : Nat) (s : State) : (acceptEcho p n s).still = s.still := by
  unfold acceptEcho; dsimp only; split <;> simp
@[simp] theorem acceptCredit_still (p : PortId) (a b c : Nat) (s : State) : (acceptCredit p a b c s).still = s.still := by
  unfold acceptCredit; simp
@[simp] theorem overflow_still (p : PortId) (s : State) : (overflow p s).still = s.still := by
  unfold overflow; simp
@[simp] theorem dropBuffer_still (p : PortId) (k : ParcelClass) (s : State) : (dropBuffer p k s).still = s.still := by
  unfold dropBuffer; simp
@[simp] theorem badParcel_still (p : PortId) (f : ParcelFault) (c : Option ParcelClass) (s : State) : (badParcel p f c s).still = s.still := by
  unfold badParcel; split <;> simp
@[simp] theorem changeRate_still (p : PortId) (x : Rate) (s : State) : (changeRate p x s).still = s.still := by
  unfold changeRate; simp
@[simp] theorem sendTiming_still (p : PortId) (i : TimingItem) (rest : List TimingItem) (s : State) : (sendTiming p i rest s).still = s.still := by
  unfold sendTiming; split <;> simp
@[simp] theorem sendLink_still (p : PortId) (i : LinkItem) (rest : List LinkItem) (s : State) : (sendLink p i rest s).still = s.still := by
  unfold sendLink; split <;> simp
@[simp] theorem transmit_still (p : PortId) (s : State) : (transmit p s).still = s.still := by
  unfold transmit; dsimp only; (repeat' split) <;> simp
@[simp] theorem startBurstCommand_still (p : PortId) (s : State) : (startBurstCommand p s).still = s.still := by
  unfold startBurstCommand; simp
@[simp] theorem retrainCommand_still (p : PortId) (s : State) : (retrainCommand p s).still = s.still := by
  unfold retrainCommand; simp
@[simp] theorem nearCommand_still (p : PortId) (s : State) : (nearCommand p s).still = s.still := by
  unfold nearCommand; simp
@[simp] theorem farCommand_still (p : PortId) (s : State) : (farCommand p s).still = s.still := by
  unfold farCommand; simp
@[simp] theorem offCommand_still (p : PortId) (s : State) : (offCommand p s).still = s.still := by
  unfold offCommand; dsimp only; (repeat' split) <;> simp
@[simp] theorem fireLine_still (line : Nat) (s : State) : (fireLine line s).still = s.still := by
  rfl
@[simp] theorem fireUntimed_still (line : Nat) (s : State) : (fireUntimed line s).still = s.still := by
  rfl
@[simp] theorem fireLate_still (line : Nat) (s : State) : (fireLate line s).still = s.still := by
  rfl
@[simp] theorem fireHead_still (s : State) : (fireHead s).still = s.still := by
  unfold fireHead; simp [foldl_still]
@[simp] theorem fireSteppedOver_still (s : State) : (fireSteppedOver s).still = s.still := by
  unfold fireSteppedOver; simp [foldl_still]
@[simp] theorem addSeen_still (line origin seq : Nat) (s : State) : (addSeen line origin seq s).still = s.still := by
  rfl
@[simp] theorem ageSeen_still (s : State) : (ageSeen s).still = s.still := by
  rfl
@[simp] theorem offerTrigger_still (x : PendingTrigger) (s : State) : (offerTrigger x s).still = s.still := by
  unfold offerTrigger; split <;> simp
@[simp] theorem sendTrigger_still (except : Option PortId) (t : Trigger) (s : State) : (sendTrigger except t s).still = s.still := by
  unfold sendTrigger; simp [foldl_still]
@[simp] theorem originate_still (line : Nat) (s : State) : (originate line s).still = s.still := by
  rfl
@[simp] theorem originateTimed_still (line : Nat) (s : State) : (originateTimed line s).still = s.still := by
  unfold originateTimed; simp
@[simp] theorem originateUntimed_still (line : Nat) (s : State) : (originateUntimed line s).still = s.still := by
  unfold originateUntimed; simp
@[simp] theorem edgeFromSlot_still (slot line : Nat) (s : State) : (edgeFromSlot slot line s).still = s.still := by
  unfold edgeFromSlot; simp
@[simp] theorem localTrigger_still (t : Trigger) (s : State) : (localTrigger t s).still = s.still := by
  unfold localTrigger; simp
@[simp] theorem acceptTrigger_still (p : PortId) (t : Trigger) (s : State) : (acceptTrigger p t s).still = s.still := by
  unfold acceptTrigger; simp
@[simp] theorem writeTriggerEntry_still (line : Nat) (e : TriggerEntry) (s : State) : (writeTriggerEntry line e s).2.still = s.still := by
  unfold writeTriggerEntry; split <;> rfl
@[simp] theorem placeIn_still (b i : Nat) (p : StreamParcel) (s : State) : (placeIn b i p s).still = s.still := by
  unfold placeIn; simp
@[simp] theorem placeParcel_still (b : Nat) (p : StreamParcel) (s : State) : (placeParcel b p s).still = s.still := by
  unfold placeParcel; simp
@[simp] theorem sendParcelTo_still (p : StreamParcel) (s : State) (i : Nat) : (sendParcelTo p s i).still = s.still := by
  unfold sendParcelTo; simp
@[simp] theorem sendParcel_still (sinks : SlotSet) (p : StreamParcel) (s : State) : (sendParcel sinks p s).still = s.still := by
  unfold sendParcel; simp [foldl_still]
@[simp] theorem beginDelivery_still (b i : Nat) (s : State) (slot : Nat) : (beginDelivery b i s slot).still = s.still := by
  unfold beginDelivery; split <;> rfl
@[simp] theorem beginDeliveries_still (b i : Nat) (s : State) : (beginDeliveries b i s).still = s.still := by
  unfold beginDeliveries; simp [foldl_still]
@[simp] theorem dropDeliveries_still (b : Nat) (s : State) : (dropDeliveries b s).still = s.still := by
  unfold dropDeliveries; exact foldl_still _ (fun _ _ => by simp) _ _

@[simp] theorem endDelivery_still (b i : Nat) (s : State) (slot : Nat) : (endDelivery b i s slot).still = s.still := by
  unfold endDelivery; simp
@[simp] theorem rotateBinding_still (n : Nat) (untimed : Bool) (b : Nat) (s : State) : (rotateBinding n untimed b s).still = s.still := by
  unfold rotateBinding; simp [foldl_still]
@[simp] theorem restartBinding_still (n : Nat) (untimed : Bool) (b : Nat) (s : State) : (restartBinding n untimed b s).still = s.still := by
  unfold restartBinding; simp
@[simp] theorem deliveryBoundary_still (restart : Bool) (s : State) : (deliveryBoundary restart s).still = s.still := by
  unfold deliveryBoundary; simp [foldl_still]
@[simp] theorem sendSegment_still (slot : Nat) (s : State) : (sendSegment slot s).still = s.still := by
  unfold sendSegment; split <;> simp
theorem writeEach_still {α : Type} (f : Nat → α → State → Status × State)
    (hf : ∀ i w (u : State), (f i w u).2.still = u.still) (ws : List α) (i : Nat) (s : State) : (writeEach f i ws s).2.still = s.still := by
  induction ws generalizing i s with
  | nil => rfl
  | cons w ws ih =>
    unfold writeEach
    have h := hf i w s
    split
    · rename_i s1 hx; rw [hx] at h; rw [ih]; exact h
    · exact h

@[simp] theorem writeBinding_still (b : Nat) (w : BindingWrite) (s : State) : (writeBinding b w s).2.still = s.still := by
  unfold writeBinding; dsimp only; (repeat' split) <;> simp
@[simp] theorem offerCopy_still (tag : Nat) (x : StreamParcel) (s : State) (p : PortId) : (offerCopy tag x s p).still = s.still := by
  unfold offerCopy; simp
@[simp] theorem forwardStream_still (src : Option PortId) (x : StreamParcel) (s : State) : (forwardStream src x s).still = s.still := by
  unfold forwardStream; simp [foldl_still]
@[simp] theorem handOver_still (e : RouteEntry) (x : StreamParcel) (s : State) : (handOver e x s).still = s.still := by
  unfold handOver; split <;> simp
@[simp] theorem countUnrouted_still (src : Option PortId) (s : State) : (countUnrouted src s).still = s.still := by
  unfold countUnrouted; split <;> rfl
@[simp] theorem takeStream_still (src : Option PortId) (x : StreamParcel) (s : State) : (takeStream src x s).still = s.still := by
  unfold takeStream; simp
@[simp] theorem State.setPacker_still (s : State) (tag : Nat) (k : Packer) : (State.setPacker s tag k).still = s.still := by
  rfl
@[simp] theorem cutFull_still (tag : Nat) (k : Packer) (s : State) : (cutFull tag k s).still = s.still := by
  unfold cutFull; simp
@[simp] theorem takeBurst_still (slot tag : Nat) (data : List Byte) (s : State) : (takeBurst slot tag data s).still = s.still := by
  unfold takeBurst; split <;> simp
@[simp] theorem closePacker_still (s : State) (tag : Nat) : (closePacker s tag).still = s.still := by
  unfold closePacker; (repeat' split) <;> simp
@[simp] theorem closePackers_still (s : State) : (closePackers s).still = s.still := by
  unfold closePackers; simp [foldl_still]
@[simp] theorem reopenPacker_still (s : State) (tag : Nat) : (reopenPacker s tag).still = s.still := by
  unfold reopenPacker; split <;> simp
@[simp] theorem reopenPackers_still (s : State) : (reopenPackers s).still = s.still := by
  unfold reopenPackers; simp [foldl_still]
@[simp] theorem noteAdmitted_still (slot : Nat) (s : State) : (noteAdmitted slot s).still = s.still := by
  rfl
@[simp] theorem settleCommitted_still (old new : RouteEntry) (s : State) (p : PortId) : (settleCommitted old new s p).still = s.still := by
  rfl
@[simp] theorem writeRoute_still (tag : Nat) (w : RouteWrite) (s : State) : (writeRoute tag w s).2.still = s.still := by
  unfold writeRoute; dsimp only; (repeat' split) <;> simp [foldl_still]
@[simp] theorem writeRouteGuard_still (w : GuardWrite) (s : State) : (writeRouteGuard w s).2.still = s.still := by
  rfl
@[simp] theorem enterPowering_still (i : Nat) (c : Cause) (s : State) : (enterPowering i c s).still = s.still := by
  rfl
@[simp] theorem enterInserted_still (i : Nat) (c : Cause) (s : State) : (enterInserted i c s).still = s.still := by
  unfold enterInserted; simp
@[simp] theorem enterEmpty_still (i : Nat) (c : Cause) (s : State) : (enterEmpty i c s).still = s.still := by
  rfl
@[simp] theorem enterFaulted_still (i : Nat) (c : Cause) (s : State) : (enterFaulted i c s).still = s.still := by
  rfl
@[simp] theorem enterQuiesced_still (i : Nat) (c : Cause) (s : State) : (enterQuiesced i c s).still = s.still := by
  rfl
@[simp] theorem quiesceEarly_still (i : Nat) (c : Cause) (s : State) : (quiesceEarly i c s).still = s.still := by
  unfold quiesceEarly; simp
@[simp] theorem settleDrain_still (s : State) (i : Nat) : (settleDrain s i).still = s.still := by
  unfold settleDrain; dsimp only; split <;> simp
@[simp] theorem settleDrains_still (s : State) : (settleDrains s).still = s.still := by
  unfold settleDrains; simp [foldl_still]
@[simp] theorem passBoundary_still (s : State) (i : Nat) : (passBoundary s i).still = s.still := by
  rfl
@[simp] theorem enterExtracting_still (i : Nat) (c : Cause) (s : State) : (enterExtracting i c s).still = s.still := by
  unfold enterExtracting; simp
@[simp] theorem presenceShown_still (i : Nat) (s : State) : (presenceShown i s).still = s.still := by
  rfl
@[simp] theorem debounceDone_still (i : Nat) (s : State) : (debounceDone i s).still = s.still := by
  unfold debounceDone; simp
@[simp] theorem surpriseRemoval_still (i : Nat) (s : State) : (surpriseRemoval i s).still = s.still := by
  unfold surpriseRemoval; simp
@[simp] theorem presenceGone_still (i : Nat) (s : State) : (presenceGone i s).still = s.still := by
  unfold presenceGone; split <;> simp
@[simp] theorem powerShown_still (i : Nat) (s : State) : (powerShown i s).still = s.still := by
  rfl
@[simp] theorem powerFault_still (i : Nat) (s : State) : (powerFault i s).still = s.still := by
  rfl
@[simp] theorem powerGone_still (i : Nat) (s : State) : (powerGone i s).still = s.still := by
  unfold powerGone; dsimp only; split <;> simp
@[simp] theorem powerExpired_still (i : Nat) (s : State) : (powerExpired i s).still = s.still := by
  unfold powerExpired; simp
@[simp] theorem drainExpired_still (i : Nat) (s : State) : (drainExpired i s).still = s.still := by
  unfold drainExpired; simp
@[simp] theorem laneAdvertised_still (i credits : Nat) (s : State) : (laneAdvertised i credits s).still = s.still := by
  unfold laneAdvertised; simp
@[simp] theorem laneGone_still (i : Nat) (s : State) : (laneGone i s).still = s.still := by
  unfold laneGone; dsimp only; (repeat' split) <;> simp
@[simp] theorem handleOpens_still (i : Nat) (s : State) : (handleOpens i s).still = s.still := by
  unfold handleOpens; split <;> simp
@[simp] theorem handleCloses_still (i : Nat) (s : State) : (handleCloses i s).still = s.still := by
  unfold handleCloses; simp
@[simp] theorem fromModule_still (i : Nat) (take : State → State) (s : State) (htake : ∀ u : State, (take u).still = u.still) : (fromModule i take s).still = s.still := by
  unfold fromModule; (repeat' split) <;> simp_all
@[simp] theorem laneError_still (i : Nat) (s : State) : (laneError i s).still = s.still := by
  rfl
theorem commitCompletion_still {i : Nat} {s t : State} (h : commitCompletion i s = some t) : t.still = s.still := by
  unfold commitCompletion at h; dsimp only at h
  (repeat' split at h) <;> first | (cases h; done) | (cases h; simp)

theorem commitInbound_still {i : Nat} {s t : State} (h : commitInbound i s = some t) : t.still = s.still := by
  unfold commitInbound at h; dsimp only at h
  (repeat' split at h) <;> first | (cases h; done) | (cases h; simp)

theorem commitSegment_still {i : Nat} {s t : State} (h : commitSegment i s = some t) : t.still = s.still := by
  unfold commitSegment at h
  split at h
  · cases h; simp
  · cases h

theorem arbitrateLane_still {i : Nat} {s t : State} (h : arbitrateLane i s = some t) : t.still = s.still := by
  unfold arbitrateLane at h
  split at h
  · rename_i u hu; cases h; exact commitCompletion_still hu
  · split at h
    · rename_i u hu; cases h; exact commitInbound_still hu
    · exact commitSegment_still h

@[simp] theorem serveLane_still (i n : Nat) (s : State) : (serveLane i n s).still = s.still := by
  induction n generalizing s with
  | zero => rfl
  | succ n ih =>
    unfold serveLane
    split
    · rename_i t h; rw [ih, arbitrateLane_still h]
    · rfl

@[simp] theorem burstArrives_still (i tag : Nat) (data : List Byte) (s : State) : (burstArrives i tag data s).still = s.still := by
  unfold burstArrives; simp
@[simp] theorem creditsReturned_still (i count : Nat) (s : State) : (creditsReturned i count s).still = s.still := by
  unfold creditsReturned; simp

@[simp] theorem admitCommand_still (i : Nat) (s : State) : (admitCommand i s).2.still = s.still := by
  unfold admitCommand; split <;> rfl
@[simp] theorem ejectCommand_still (i : Nat) (s : State) : (ejectCommand i s).2.still = s.still := by
  unfold ejectCommand; split <;> simp
@[simp] theorem parkSlot_still (i : Nat) (s : State) : (parkSlot i s).still = s.still := by
  unfold parkSlot; simp
@[simp] theorem parkCommand_still (i : Nat) (s : State) : (parkCommand i s).2.still = s.still := by
  unfold parkCommand; (repeat' split) <;> simp
@[simp] theorem unparkCommand_still (i : Nat) (s : State) : (unparkCommand i s).2.still = s.still := by
  unfold unparkCommand; split <;> rfl
@[simp] theorem clearCommand_still (i : Nat) (s : State) : (clearCommand i s).2.still = s.still := by
  unfold clearCommand; split <;> simp
@[simp] theorem resetSlot_still (i : Nat) (s : State) : (resetSlot i s).still = s.still := by
  unfold resetSlot; simp
@[simp] theorem slotResetCommand_still (i : Nat) (s : State) : (slotResetCommand i s).2.still = s.still := by
  unfold slotResetCommand; split <;> simp
@[simp] theorem slotCommand_still (i code : Nat) (s : State) : (slotCommand i code s).2.still = s.still := by
  unfold slotCommand; split <;> simp
@[simp] theorem expireSlotTimers_still (i : Nat) (s : State) : (expireSlotTimers i s).still = s.still := by
  unfold expireSlotTimers; simp
@[simp] theorem powerInserted_still (s : State) (i : Nat) : (powerInserted s i).still = s.still := by
  unfold powerInserted; simp
@[simp] theorem writeSlotSettings_still (i : Nat) (w : SlotSettings) (s : State) : (writeSlotSettings i w s).2.still = s.still := by
  unfold writeSlotSettings; split <;> simp
@[simp] theorem attentionRaised_still (i : Nat) (s : State) : (attentionRaised i s).still = s.still := by
  unfold attentionRaised; simp
@[simp] theorem removeAttention_still (set : SlotSet) (s : State) : (removeAttention set s).still = s.still := by
  unfold removeAttention; simp
@[simp] theorem writeRootTrim_still (v : Int) (s : State) : (writeRootTrim v s).2.still = s.still := by
  unfold writeRootTrim; split <;> rfl
@[simp] theorem writeLoad_still (v : Nat) (s : State) : (writeLoad v s).2.still = s.still := by
  unfold writeLoad; split <;> rfl
@[simp] theorem writeTimebase_still (w : TimebaseSettings) (s : State) : (writeTimebase w s).2.still = s.still := by
  unfold writeTimebase; split <;> rfl
@[simp] theorem writeTransSettings_still (w : TransSettings) (s : State) : (writeTransSettings w s).2.still = s.still := by
  unfold writeTransSettings; split <;> rfl
@[simp] theorem writeWindow_still (i : Nat) (w : WindowWrite) (s : State) : (writeWindow i w s).2.still = s.still := by
  unfold writeWindow; (repeat' split) <;> rfl
@[simp] theorem writeWindowGuard_still (w : GuardWrite) (s : State) : (writeWindowGuard w s).2.still = s.still := by
  rfl
@[simp] theorem writeChannel_still (c : Nat) (w : ChannelSetup) (s : State) : (writeChannel c w s).2.still = s.still := by
  unfold writeChannel; dsimp only; (repeat' split) <;> simp
@[simp] theorem startCommand_still (c : Nat) (s : State) : (startCommand c s).2.still = s.still := by
  unfold startCommand; dsimp only; split <;> simp
@[simp] theorem pauseCommand_still (c : Nat) (s : State) : (pauseCommand c s).2.still = s.still := by
  unfold pauseCommand; dsimp only; split <;> simp
@[simp] theorem resumeCommand_still (c : Nat) (s : State) : (resumeCommand c s).2.still = s.still := by
  unfold resumeCommand; dsimp only; split <;> simp
@[simp] theorem abortCommand_still (c : Nat) (s : State) : (abortCommand c s).2.still = s.still := by
  rfl
@[simp] theorem channelCommand_still (c code : Nat) (s : State) : (channelCommand c code s).2.still = s.still := by
  unfold channelCommand; split <;> simp
@[simp] theorem writeManager_still (frame slot : Nat) (s : State) : (writeManager frame slot s).2.still = s.still := by
  unfold writeManager; split <;> rfl
@[simp] theorem writeClear_still (set : BitVec 32) (s : State) : (writeClear set s).2.still = s.still := by
  unfold writeClear; simp
@[simp] theorem enableKind_still (enable : BitVec 32) (s : State) (k : Nat) : (enableKind enable s k).still = s.still := by
  rfl
@[simp] theorem writeNotice_still (enable : BitVec 32) (address : Nat) (s : State) : (writeNotice enable address s).2.still = s.still := by
  unfold writeNotice; split <;> simp [foldl_still]
@[simp] theorem writeRemoval_still (set : SlotSet) (s : State) : (writeRemoval set s).2.still = s.still := by
  unfold writeRemoval; simp
@[simp] theorem writeRate_still (p : PortId) (v : Nat) (s : State) : (writeRate p v s).2.still = s.still := by
  unfold writeRate; split <;> simp
@[simp] theorem portCommand_still (p : PortId) (code : Nat) (s : State) : (portCommand p code s).2.still = s.still := by
  unfold portCommand; split <;> simp
@[simp] theorem abortEntry_still (s : State) (i : Nat) : (abortEntry s i).still = s.still := by
  unfold abortEntry; split <;> simp
@[simp] theorem resetTrans_still (s : State) : (resetTrans s).still = s.still := by
  unfold resetTrans; simp [foldl_still]
@[simp] theorem resetUnits_still (s : State) : (resetUnits s).still = s.still := by
  rfl
@[simp] theorem controllerResetAct_still (s : State) : (controllerResetAct s).still = s.still := by
  unfold controllerResetAct; simp [foldl_still]
@[simp] theorem releaseAct_still (s : State) : (releaseAct s).still = s.still := by
  unfold releaseAct; simp
@[simp] theorem controllerCommand_still (code : Nat) (s : State) : (controllerCommand code s).2.still = s.still := by
  unfold controllerCommand; (repeat' split) <;> rfl
@[simp] theorem writeField_still (f : Field) (ws : List Nat) (s : State) : (writeField f ws s).2.still = s.still := by
  unfold writeField; dsimp only; (repeat' split) <;> simp
theorem writeFields_still (lo : Nat) (ws : List Nat) (fs : List (Nat × Field)) (s : State) :
    (writeFields lo ws fs s).2.still = s.still := by
  induction fs generalizing s with
  | nil => rfl
  | cons x fs ih =>
    obtain ⟨k, f⟩ := x
    unfold writeFields
    have h := writeField_still f ((ws.drop (k - lo)).take f.size) s
    split
    · rename_i s1 hx; rw [hx] at h; rw [ih]; exact h
    · exact h

@[simp] theorem writeRegion_still (r : Region) (lo : Nat) (ws : List Nat) (s : State) : (writeRegion r lo ws s).2.still = s.still := by
  unfold writeRegion; dsimp only
  split
  · rfl
  · split
    · rfl
    · exact writeFields_still _ _ _ _

@[simp] theorem applyPost_still (p : Post) (s : State) : (applyPost p s).still = s.still := by
  unfold applyPost; split <;> simp
@[simp] theorem serveBad_still (s : State) : (serveBad s).state.still = s.still := by unfold serveBad; simp

@[simp] theorem serveDenied_still (s : State) : (serveDenied s).state.still = s.still := by unfold serveDenied; simp

theorem serveWrite_still (who : Requester) (op : State → Status × State) (post : Status → Post) (s : State)
    (hop : ∀ u : State, (op u).2.still = u.still) : (serveWrite who op post s).state.still = s.still := by
  unfold serveWrite
  split
  · simp [hop]
  · simp

theorem serveController_still (who : Requester) (op : Op) (address length : Nat) (data : List Byte) (s : State) :
    (serveController who op address length data s).state.still = s.still := by
  unfold serveController
  (repeat' split) <;> first | (simp; done) | exact serveWrite_still _ _ _ _ (fun u => writeRegion_still _ _ _ u)

theorem serveNumbered_still {x : Served} {s : State} (h : x.state.still = s.still) : (serveNumbered x s).state.still = s.still := by
  unfold serveNumbered; split <;> simp [h]

theorem completeServed_still {direct : Bool} {who : Requester} {x : Served} {t : State}
    (h : completeServed direct who x = some t) : t.still = x.state.still := by
  unfold completeServed at h
  simp only [Option.map_eq_some_iff] at h
  obtain ⟨u, hu, rfl⟩ := h
  simpa using sendCompletion_still hu

@[simp] theorem managerCommand_still (who : Requester) (op : State → Status × State) (post : Status → Post) (s : State)
    (hop : ∀ u : State, (op u).2.still = u.still) : (managerCommand who op post s).still = s.still := by
  unfold managerCommand
  cases hx : completeServed false who (serveNumbered (serveWrite who op post s) s) with
  | none => rfl
  | some t => rw [Option.getD_some, completeServed_still hx]; exact serveNumbered_still (serveWrite_still who op post s hop)

@[simp] theorem countAnswer_still (st : Status) (s : State) : (countAnswer st s).still = s.still := by
  unfold countAnswer; simp
@[simp] theorem pushRequest_still (p : PortId) (r : Request) (s : State) : (pushRequest p r s).still = s.still := by
  unfold pushRequest; simp
@[simp] theorem joinInbound_still (src : Via) (r : Request) (h : Nat) (s : State) : (joinInbound src r h s).still = s.still := by
  rfl
theorem serveSlot_still {src : Via} {r : Request} {s t : State} (h : serveSlot src r s = some t) : t.still = s.still := by
  unfold serveSlot at h; dsimp only at h
  (repeat' split at h) <;> first
    | (rw [sendCompletion_still h]; simp; done)
    | (cases h; simp)

theorem targetSide_still {src : Via} {r : Request} {s t : State} (h : targetSide src r s = some t) : t.still = s.still := by
  unfold targetSide at h
  split at h
  · rw [completeServed_still h]; exact serveController_still _ _ _ _ _ s
  · split at h
    · exact sendCompletion_still h
    · exact serveSlot_still h

theorem takeNumber_still {r : Request} {s t : State} (h : takeNumber r s = some t) : t.still = s.still := by
  unfold takeNumber at h; dsimp only at h
  simp only [Option.map_eq_some_iff] at h
  obtain ⟨u, hu, rfl⟩ := h
  simpa using sendCompletion_still hu

theorem examineRequest_still {p : PortId} {r : Request} {s t : State} (h : examineRequest p r s = some t) : t.still = s.still := by
  unfold examineRequest at h
  split at h
  · split at h
    · cases h; simp
    · cases h
  · exact targetSide_still h
  · exact takeNumber_still h
  · rw [sendCompletion_still h]; simp

theorem examineCompletion_still {p : PortId} {c : Completion} {s t : State} (h : examineCompletion p c s = some t) :
    t.still = s.still := by
  unfold examineCompletion at h; dsimp only at h
  (repeat' split at h) <;> first | (cases h; done) | (cases h; simp)

@[simp] theorem holdRequest_still (p : PortId) (r : Request) (s : State) : (holdRequest p r s).still = s.still := by
  unfold holdRequest; simp
@[simp] theorem holdCompletion_still (p : PortId) (c : Completion) (s : State) : (holdCompletion p c s).still = s.still := by
  unfold holdCompletion; simp
@[simp] theorem arriveRequest_still (p : PortId) (r : Request) (s : State) : (arriveRequest p r s).still = s.still := by
  unfold arriveRequest
  split
  · simp
  · split
    · rename_i t h; split <;> simp [examineRequest_still h]
    · simp

@[simp] theorem arriveCompletion_still (p : PortId) (c : Completion) (s : State) : (arriveCompletion p c s).still = s.still := by
  unfold arriveCompletion
  split
  · simp
  · split
    · rename_i t h; split <;> simp [examineCompletion_still h]
    · simp

@[simp] theorem routeEntry_still (i : Nat) (s : State) : (routeEntry i s).still = s.still := by
  unfold routeEntry; (try dsimp only)
  split
  · rfl
  · rename_i e _
    split
    · split <;> simp
    · cases hx : targetSide .here (e.request s.frameCode) (s.setOtt i { e with state := .sent, via := some .here }) with
      | none => simp
      | some t => simpa using targetSide_still hx
    · simp
    · simp

@[simp] theorem rerouteEntry_still (s : State) (i : Nat) : (rerouteEntry s i).still = s.still := by
  unfold rerouteEntry; split <;> simp
@[simp] theorem rerouteAll_still (n : Nat) (s : State) : (rerouteAll n s).still = s.still := by
  induction n generalizing s with
  | zero => rfl
  | succ n ih => unfold rerouteAll; split <;> simp [ih, foldl_still]
@[simp] theorem finish_still (s : State) : (finish s).still = s.still := by
  unfold finish; simp
@[simp] theorem takeEntry_still (arb : Trans) (k : Nat) (e : OttEntry) (w : Option Status) (s : State) : (takeEntry arb k e w s).still = s.still := by
  unfold takeEntry; dsimp only; split <;> simp
@[simp] theorem refuseHead_still (i : Nat) (s : State) : (refuseHead i s).still = s.still := by
  unfold refuseHead; dsimp only
  split
  · generalize hs : s.updSlot i _ = s1
    have h0 : s1.still = s.still := by rw [← hs]; simp
    cases hx : commitCompletion i s1 with
    | none => simpa using h0
    | some t => simpa [h0] using commitCompletion_still hx
  · simp

@[simp] theorem takeHead_still (i : Nat) (s : State) : (takeHead i s).still = s.still := by
  unfold takeHead; dsimp only; (repeat' split) <;> simp
@[simp] theorem slotRequest_still (i : Nat) (arriving : Option LaneRequest) (s : State) : (slotRequest i arriving s).still = s.still := by
  unfold slotRequest; split <;> simp
@[simp] theorem startRead_still (c : Nat) (s : State) : (startRead c s).still = s.still := by
  unfold startRead; (repeat' split) <;> simp
@[simp] theorem startWrite_still (c : Nat) (s : State) : (startWrite c s).still = s.still := by
  unfold startWrite; split <;> simp
@[simp] theorem issueNotice_still (s : State) : (issueNotice s).still = s.still := by
  unfold issueNotice; split <;> simp
@[simp] theorem releaseRequest_still (x : HeldReq) (s : State) : (releaseRequest x s).still = s.still := by
  unfold releaseRequest; simp
theorem retryRequest_still {x : HeldReq} {s t : State} (h : retryRequest x s = some t) : t.still = s.still := by
  unfold retryRequest at h
  simp only [Option.map_eq_some_iff] at h
  obtain ⟨u, hu, rfl⟩ := h
  simpa using examineRequest_still hu

@[simp] theorem sendQueued_still (p : PortId) (k : Nat) (e : OttEntry) (s : State) : (sendQueued p k e s).still = s.still := by
  unfold sendQueued; simp
@[simp] theorem takeRequestRoom_still (p : PortId) (s : State) : (takeRequestRoom p s).still = s.still := by
  have held : ∀ x : HeldReq, (((retryRequest x s).map (fun s => s.updPort p (fun r => { r with reqTookHeld := true }))).getD s).still = s.still := by
    intro x
    cases hx : retryRequest x s with
    | none => rfl
    | some t => simpa using retryRequest_still hx
  unfold takeRequestRoom; dsimp only
  split
  · rfl
  · split
    · split
      · simp
      · exact held _
    · exact held _
    · simp
    · rfl

@[simp] theorem releaseCompletion_still (q : PortId) (h : HeldCompletion) (s : State) : (releaseCompletion q h s).still = s.still := by
  unfold releaseCompletion; simp
theorem retryHeld_still {x : HeldAny} {s t : State} (h : retryHeld x s = some t) : t.still = s.still := by
  cases x with
  | req r => exact retryRequest_still h
  | comp q k =>
    simp only [retryHeld, Option.map_eq_some_iff] at h
    obtain ⟨u, hu, rfl⟩ := h
    simpa using examineCompletion_still hu

@[simp] theorem markTaken_still (p : PortId) (held : Bool) (s t : State) : (markTaken p held s t).still = t.still := by
  unfold markTaken; split <;> simp
@[simp] theorem takeCompletionRoom_still (p : PortId) (s : State) : (takeCompletionRoom p s).still = s.still := by
  have held : ∀ t, ((((s.heldFor p).insertionSort (fun a b => a.order ≤ b.order)).findSome? (fun x => retryHeld x s)).map
      (markTaken p true s)) = some t → t.still = s.still := by
    intro t h
    simp only [Option.map_eq_some_iff] at h
    obtain ⟨u, hu, rfl⟩ := h
    obtain ⟨x, _, hx⟩ := List.exists_of_findSome?_eq_some hu
    simpa using retryHeld_still hx
  have own : ∀ t, ((s.oldestInboundAnswer p).bind (fun x => (takeInbound x.1 s).map
      (markTaken p false s))) = some t → t.still = s.still := by
    intro t h
    simp only [Option.bind_eq_some_iff, Option.map_eq_some_iff] at h
    obtain ⟨x, _, u, hu, rfl⟩ := h
    simpa using takeInbound_still hu
  unfold takeCompletionRoom; dsimp only
  split <;>
  · cases hh : (List.findSome? _ _).map _ <;> cases ho : (s.oldestInboundAnswer p).bind _ <;>
      simp <;> first | exact held _ hh | exact own _ ho

@[simp] theorem entryExpires_still (i : Nat) (s : State) : (entryExpires i s).still = s.still := by
  unfold entryExpires; split <;> simp
@[simp] theorem backoffOver_still (i : Nat) (s : State) : (backoffOver i s).still = s.still := by
  unfold backoffOver; split <;> simp
@[simp] theorem responseExpires_still (h : Nat) (s : State) : (responseExpires h s).still = s.still := by
  unfold responseExpires; split <;> simp
@[simp] theorem replyArrives_still (slot h code : Nat) (data : List Byte) (s : State) : (replyArrives slot h code data s).still = s.still := by
  unfold replyArrives; split <;> simp
@[simp] theorem lockExpires_still (i : Nat) (s : State) : (lockExpires i s).still = s.still := by
  unfold lockExpires; simp
@[simp] theorem rootMarks_still (s : State) : (rootMarks s).still = s.still := by
  unfold rootMarks; simp [foldl_still]
@[simp] theorem triggerBoundary_still (discontinuous : Bool) (s : State) : (triggerBoundary discontinuous s).still = s.still := by
  unfold triggerBoundary; simp
@[simp] theorem channelsBoundary_still (s : State) : (channelsBoundary s).still = s.still := by
  rfl
@[simp] theorem boundaryEvent_still (discontinuous restart : Bool) (s : State) : (boundaryEvent discontinuous restart s).still = s.still := by
  unfold boundaryEvent; simp [foldl_still]
@[simp] theorem epochBoundary_still (s : State) : (epochBoundary s).still = s.still := by
  unfold epochBoundary; simp
@[simp] theorem receiveStream_still (p : PortId) (x : StreamParcel) (s : State) : (receiveStream p x s).still = s.still := by
  unfold receiveStream; simp
@[simp] theorem receiveMark_still (p : PortId) (m : Mark) (s : State) : (receiveMark p m s).still = s.still := by
  unfold receiveMark; simp
@[simp] theorem receiveEchoReply_still (p : PortId) (n t2 t3 : Nat) (s : State) : (receiveEchoReply p n t2 t3 s).still = s.still := by
  unfold receiveEchoReply; simp
@[simp] theorem receiveTrigger_still (p : PortId) (t : Trigger) (s : State) : (receiveTrigger p t s).still = s.still := by
  unfold receiveTrigger; simp
@[simp] theorem receiveAnnounce_still (p : PortId) (a : Announce) (s : State) : (receiveAnnounce p a s).still = s.still := by
  unfold receiveAnnounce; simp
@[simp] theorem receiveCredit_still (p : PortId) (a b c : Nat) (s : State) : (receiveCredit p a b c s).still = s.still := by
  unfold receiveCredit; simp
@[simp] theorem receiveRequest_still (p : PortId) (r : Request) (s : State) : (receiveRequest p r s).still = s.still := by
  unfold receiveRequest; simp
@[simp] theorem receiveCompletion_still (p : PortId) (c : Completion) (s : State) : (receiveCompletion p c s).still = s.still := by
  unfold receiveCompletion; simp
@[simp] theorem receiveParcel_still (p : PortId) (x : Parcel) (s : State) : (receiveParcel p x s).still = s.still := by
  unfold receiveParcel; split <;> simp
@[simp] theorem receiveBytes_still (p : PortId) (bytes : List Byte) (s : State) : (receiveBytes p bytes s).still = s.still := by
  unfold receiveBytes; (repeat' split) <;> simp
@[simp] theorem leaveLoop_still (p : PortId) (bytes : List Byte) (s : State) : (leaveLoop p bytes s).still = s.still := by
  unfold leaveLoop; simp
@[simp] theorem loopbackReturn_still (p : PortId) (bytes : List Byte) (s : State) : (loopbackReturn p bytes s).still = s.still := by
  unfold loopbackReturn; simp
@[simp] theorem receiveLaneBytes_still (i : Nat) (bytes : List Byte) (s : State) : (receiveLaneBytes i bytes s).still = s.still := by
  unfold receiveLaneBytes; split <;> simp
@[simp] theorem managed_still (who : Requester) (op : State → Status × State) (s : State) (hop : ∀ u : State, (op u).2.still = u.still) : (managed who op s).still = s.still := by
  unfold managed; simp_all
@[simp] theorem senseShown_still (p : PortId) (s : State) : (senseShown p s).still = s.still := by
  unfold senseShown; simp
@[simp] theorem senseGone_still (p : PortId) (s : State) : (senseGone p s).still = s.still := by
  unfold senseGone; dsimp only; split <;> simp
@[simp] theorem lockGained_still (p : PortId) (s : State) : (lockGained p s).still = s.still := by
  unfold lockGained; simp
@[simp] theorem helloTick_still (p : PortId) (s : State) : (helloTick p s).still = s.still := by
  unfold helloTick; simp
@[simp] theorem pairingLapses_still (p : PortId) (s : State) : (pairingLapses p s).still = s.still := by
  unfold pairingLapses; simp
@[simp] theorem echoTick_still (p : PortId) (s : State) : (echoTick p s).still = s.still := by
  unfold echoTick; split <;> simp
@[simp] theorem silenceOver_still (p : PortId) (s : State) : (silenceOver p s).still = s.still := by
  unfold silenceOver; simp
@[simp] theorem ageOutSeen_still (s : State) : (ageOutSeen s).still = s.still := by
  unfold ageOutSeen; simp
@[simp] theorem queueTake_still (p : PortId) (q : TxClass) (s : State) : (queueTake p q s).still = s.still := by
  unfold queueTake; split <;> simp
@[simp] theorem spaceWrite_still (who : Requester) (address : Nat) (data : List Byte) (s : State) :
    (spaceWrite who address data s).still = s.still := by
  unfold spaceWrite
  cases hx : completeServed false who (serveNumbered (serveController who .write address data.length data s) s) with
  | none => rfl
  | some t => rw [Option.getD_some, completeServed_still hx]; exact serveNumbered_still (serveController_still who _ _ _ _ s)

end Sys2Proof.Machine
end

