-- ==== Sys2Proof/Laws/Units.lean ====
section
/-! SUPPORT. Laws/Units.lean: one lemma for each operation that several commands share, which says what it
can do, so that later proofs cite it and need not unfold it. -/

namespace Sys2Proof.Machine

/-! ## Records replaced twice -/

theorem tdel_tins_same {α : Type} (t : List (Nat × α)) (k : Nat) (v : α) (h : ∀ e ∈ t, e.1 ≠ k) :
    tdel (tins k v t) k = tdel t k := by
  induction t with
  | nil => simp [tins, tdel]
  | cons e r ih =>
    have hr := ih (fun x hx => h x (List.mem_cons_of_mem _ hx))
    unfold tins
    split
    · simp [tdel]
    · simp only [tdel, List.filter_cons] at hr ⊢
      rw [hr]

theorem tdel_tdel {α : Type} (t : List (Nat × α)) (k : Nat) : tdel (tdel t k) k = tdel t k := by simp [tdel]

theorem tdel_tput {α : Type} (t : List (Nat × α)) (k : Nat) (v : α) : tdel (tput t k v) k = tdel t k := by
  unfold tput
  rw [tdel_tins_same _ _ _ (by simp [tdel]), tdel_tdel]

/-- A key written twice holds the last value, and the first leaves no trace. -/
@[simp] theorem tput_tput {α : Type} (t : List (Nat × α)) (k : Nat) (v w : α) : tput (tput t k v) k w = tput t k w := by
  show tins k w (tdel (tput t k v) k) = tput t k w
  rw [tdel_tput]; rfl

@[simp] theorem tset_tset {α : Type} [DecidableEq α] (d : α) (t : List (Nat × α)) (k : Nat) (v w : α) :
    tset d (tset d t k v) k w = tset d t k w := by
  have hd : tdel (tset d t k v) k = tdel t k := by
    unfold tset
    split
    · exact tdel_tdel t k
    · exact tdel_tput t k v
  unfold tset tput
  have := hd
  unfold tset tput at this
  rw [this]

variable (s : State)

@[simp] theorem State.setSlot_setSlot (i : Nat) (a b : Slot) : (s.setSlot i a).setSlot i b = s.setSlot i b := by
  simp [State.setSlot]

@[simp] theorem State.setOtt_setOtt (i : Nat) (a b : OttEntry) : (s.setOtt i a).setOtt i b = s.setOtt i b := by
  simp [State.setOtt]

@[simp] theorem State.setIn_setIn (i : Nat) (a b : InEntry) : (s.setIn i a).setIn i b = s.setIn i b := by
  simp [State.setIn]

@[simp] theorem State.setEvent_setEvent (k : Nat) (a b : EventRecord) : (s.setEvent k a).setEvent k b = s.setEvent k b := by
  simp [State.setEvent]

@[simp] theorem State.setBinding_setBinding (i : Nat) (a b : Binding) :
    (s.setBinding i a).setBinding i b = s.setBinding i b := by simp [State.setBinding]

@[simp] theorem State.setChannel_setChannel (i : Nat) (a b : Channel) :
    (s.setChannel i a).setChannel i b = s.setChannel i b := by simp [State.setChannel]

@[simp] theorem State.setRoute_setRoute (i : Nat) (a b : RouteEntry) : (s.setRoute i a).setRoute i b = s.setRoute i b := by
  simp [State.setRoute]

/-! ## Events (R177) -/

/-- R177: a raised kind is pending, counted up to 255, and no other kind moves. -/
theorem raise_event (k : EventKind) (j : Nat) :
    (raise k s).event j = if j = k.code then (s.event k.code).raise (s.mgmt.noticeEnable.getLsbD k.code) else s.event j := by
  unfold raise State.setEvent State.event
  simp [tgetD_tset]

theorem raise_setSlot (k : EventKind) (i : Nat) (r : Slot) : raise k (s.setSlot i r) = (raise k s).setSlot i r := rfl

theorem raise_setPort (k : EventKind) (p : PortId) (r : Port) : raise k (s.setPort p r) = (raise k s).setPort p r := by
  cases p <;> rfl

theorem raise_slot (k : EventKind) (i : Nat) : (raise k s).slot i = s.slot i := rfl

/-! ## Completions (R151) and writes (R175) -/

/-- R151: a completion for a requester that asks over a cable or a lane is accepted exactly where
`accepts` says so. -/
theorem sendCompletion_isSome (who : Requester) (st : Status) (data : List Byte) :
    (sendCompletion false who st data s).isSome = s.accepts who.frame := by
  unfold sendCompletion State.accepts
  cases s.routeTo who.frame with
  | none => rfl
  | some v =>
    cases v with
    | here => rfl
    | port p =>
      by_cases h : s.isUp p = true ∧ (s.port p).qCompletion.length < 16
      · simp [h]
      · simp only [Bool.false_eq_true, if_false, if_neg h]
        cases hu : s.isUp p <;> simp_all

/-- R151: what an accepted completion changes: nothing but this frame's own entries, or the end of one
port's completion queue, or the count of dropped completions. -/
theorem sendCompletion_cases {who : Requester} {st : Status} {data : List Byte} {s t : State}
    (h : sendCompletion false who st data s = some t) :
    (s.routeTo who.frame = some .here ∧ t = completionHere who.id who.tag st data s) ∨
    (∃ p, s.routeTo who.frame = some (.port p) ∧ s.isUp p = true ∧
      t = s.updPort p (fun r => { r with qCompletion := r.qCompletion ++ [⟨who, st.code, 31, data⟩] })) ∨
    (s.routeTo who.frame = none ∧ t = s.updTrans (fun x => { x with completionsDropped := bump x.completionsDropped })) := by
  unfold sendCompletion at h
  simp only [Bool.false_eq_true, if_false] at h
  split at h
  · next hr => exact .inl ⟨hr, (Option.some.inj h).symm⟩
  · next p hr =>
    split at h
    · next hc => exact .inr (.inl ⟨p, hr, hc.1, (Option.some.inj h).symm⟩)
    · cases h
  · next hr => exact .inr (.inr ⟨hr, (Option.some.inj h).symm⟩)

/-- A completion depends on routes, on which ports are UP and on the room in their completion queues. -/
theorem accepts_congr {s t : State} (f : Nat) (hr : t.routeTo f = s.routeTo f) (hu : ∀ p, t.isUp p = s.isUp p)
    (hq : ∀ p, (t.port p).qCompletion.length = (s.port p).qCompletion.length) : t.accepts f = s.accepts f := by
  unfold State.accepts
  rw [hr]
  split <;> simp [hu, hq]

/-- R175: a Manager's write that answers a status in a state, answered in another. -/
theorem managerCommand_of_manager {who : Requester} {op : State → Status × State} {post : Status → Post} {s s1 t : State}
    {st : Status} (hf : s.topo.frameNumber.isSome = true) (hm : s.isManager who = true) (hop : op s.wrote = (st, s1)) (ht : Answered who st s1 t) :
    managerCommand who op post s = applyPost (post st) t := by
  have hop' : op (s.updMgmt (fun m => { m with writes := bump m.writes })) = (st, s1) := hop
  unfold Answered at ht
  simp [managerCommand, completeServed, serveNumbered, serveWrite, hf, hm, hop', ht]

/-- R175: the write of any other requester is DENIED and counted. -/
theorem managerCommand_of_other {who : Requester} {op : State → Status × State} {post : Status → Post} {s t : State}
    (hf : s.topo.frameNumber.isSome = true) (hm : s.isManager who = false)
    (ht : Answered who .denied (s.updMgmt (fun m => { m with deniedWrites := bump m.deniedWrites })) t) :
    managerCommand who op post s = t := by
  unfold Answered at ht
  simp [managerCommand, completeServed, serveNumbered, serveWrite, serveDenied, hf, hm, ht, applyPost]

/-- R36, R175: an UNNUMBERED controller answers a write DENIED. -/
theorem managerCommand_unnumbered {who : Requester} {op : State → Status × State} {post : Status → Post} {s t : State}
    (hf : s.topo.frameNumber.isSome = false) (ht : Answered who .denied s t) : managerCommand who op post s = t := by
  unfold Answered at ht
  simp [managerCommand, completeServed, serveNumbered, hf, ht, applyPost]

/-- R161: a write whose completion is not accepted is not performed. -/
theorem managerCommand_unanswered {who : Requester} {op : State → Status × State} {post : Status → Post} {s : State}
    (h : completeServed false who (serveNumbered (serveWrite who op post s) s) = none) : managerCommand who op post s = s := by
  simp [managerCommand, h]

/-! ## Arrivals (R13, R126) -/

/-- R13: what a port's state makes of an arrival outside LOOPBACK. -/
theorem byState_up (p : PortId) (c : ParcelClass) (x : Parcel) (take : State → State) (h : (s.port p).state = .up) :
    byState p c x take s = take s := by simp [byState, h]

theorem byState_early (p : PortId) (c : ParcelClass) (x : Parcel) (take : State → State)
    (h : (s.port p).state = .pairing ∨ (s.port p).state = .measure) : byState p c x take s = discardEarly p c s := by
  rcases h with h | h <;> simp [byState, h]

theorem byState_down (p : PortId) (c : ParcelClass) (x : Parcel) (take : State → State)
    (h : (s.port p).state = .absent ∨ (s.port p).state = .training) : byState p c x take s = s := by
  rcases h with h | h <;> simp [byState, h]

/-- R126: what a slot's lane state makes of an arrival. -/
theorem fromModule_up (i : Nat) (take : State → State) (h : (s.slot i).lane = .up) : fromModule i take s = take s := by
  simp [fromModule, h]

theorem fromModule_dormant (i : Nat) (take : State → State) (h : (s.slot i).lane = .dormant) :
    fromModule i take s = s.countSlot i (fun c => { c with dormantIgnored := bump c.dormantIgnored }) := by
  simp [fromModule, h]

theorem fromModule_off (i : Nat) (take : State → State) (h : (s.slot i).lane = .off ∨ (s.slot i).lane = .training) :
    fromModule i take s = s := by rcases h with h | h <;> simp [fromModule, h]

/-! ## Queues and credits (R14, R16, R124) -/

/-- R16: an offer to the link control queue appends the item or counts a drop. -/
theorem Port.offerLink_cases (r : Port) (i : LinkItem) :
    (r.qLink.length < 32 ∧ r.offerLink i = { r with qLink := r.qLink ++ [i] }) ∨
    (32 ≤ r.qLink.length ∧ r.offerLink i = { r with counters := { r.counters with txDrops := bump r.counters.txDrops } }) := by
  unfold Port.offerLink
  split
  · next h => exact .inl ⟨h, rfl⟩
  · next h => exact .inr ⟨Nat.le_of_not_lt h, rfl⟩

/-- R16: an offer to the timing queue appends the item or counts a drop. -/
theorem Port.offerTiming_cases (r : Port) (i : TimingItem) :
    (r.qTiming.length < 8 ∧ r.offerTiming i = { r with qTiming := r.qTiming ++ [i] }) ∨
    (8 ≤ r.qTiming.length ∧ r.offerTiming i = { r with counters := { r.counters with txDrops := bump r.counters.txDrops } }) := by
  unfold Port.offerTiming
  split
  · next h => exact .inl ⟨h, rfl⟩
  · next h => exact .inr ⟨Nat.le_of_not_lt h, rfl⟩

/-- R16: an offer to the stream queue appends the parcel or counts a tail drop. -/
theorem Port.offerStream_cases (r : Port) (x : StreamParcel) :
    (r.qStream.length < 128 ∧ r.offerStream x = { r with qStream := r.qStream ++ [x] }) ∨
    (128 ≤ r.qStream.length ∧
      r.offerStream x = { r with counters := { r.counters with tailDrops := bump r.counters.tailDrops } }) := by
  unfold Port.offerStream
  split
  · next h => exact .inl ⟨h, rfl⟩
  · next h => exact .inr ⟨Nat.le_of_not_lt h, rfl⟩

/-- R14: a freed buffer changes Freed Credits, the link control queue and its drop counter, and no more. -/
theorem Port.freeBuffer_frame (r : Port) (c : ParcelClass) :
    ∃ f q k, r.freeBuffer c = { r with freed := f, qLink := q, counters := k } := by
  unfold Port.freeBuffer
  split
  · dsimp only
    split
    · exact ⟨_, _, _, rfl⟩
    · rcases Port.offerLink_cases { r with freed := r.freed.add c } .credit with ⟨_, h⟩ | ⟨_, h⟩ <;>
        (rw [h]; exact ⟨_, _, _, rfl⟩)
  · exact ⟨_, _, _, rfl⟩

/-- R124: a message that may be committed goes to a lane in UP, for at most the credits there are. -/
theorem Slot.canCommit_up {r : Slot} {cost : Nat} (h : r.canCommit cost = true) :
    r.lane = .up ∧ (cost ≤ r.available ∨ (r.advertised < cost ∧ r.available = r.advertised)) := by
  simpa [Slot.canCommit] using h

/-! ## Ends of acts (R131, R155) -/

theorem anyAwaits_of_routed {s : State} (h : s.routed) : s.anyAwaits = false := by
  unfold State.anyAwaits
  simp only [List.any_eq_false]
  intro x hx
  have := h x hx
  unfold OttEntry.awaitsRoute at this
  rw [this]
  exact Bool.false_ne_true

/-- R155: where nothing awaits routing, nothing is routed. -/
theorem rerouteAll_of_routed {s : State} (n : Nat) (h : s.routed) : rerouteAll n s = s := by
  cases n <;> simp [rerouteAll, anyAwaits_of_routed h]

/-- R131: a slot without a Drain record is left alone. -/
theorem settleDrain_none (i : Nat) (h : (s.slot i).drain = none) : settleDrain s i = s := by simp [settleDrain, h]

/-! ## What a loop, a full buffer and a full table do -/

/-- R23: what a FAR-served port receives shows in `sentBack` of that port alone, and elsewhere nothing changes. -/
theorem sendBack_cases (p : PortId) (bytes : List Byte) (s : State) :
    ((s.port p).served = true ∧ sendBack p bytes s = s.setPort p { s.port p with sentBack := bytes }) ∨
    ((s.port p).served = false ∧ sendBack p bytes s = s) := by
  cases h : (s.port p).served
  · right; refine ⟨rfl, ?_⟩; cases p <;> simp_all [sendBack, State.updPort, State.setPort, State.port]
  · left; simp [sendBack, State.updPort, h]

/-- R12 to R14: a bad parcel either finds every buffer of its class held and is an overflow, or frees its own. -/
theorem dropBuffer_cases (p : PortId) (k : ParcelClass) (s : State) :
    ((s.port p).buffersFull k = true ∧ dropBuffer p k s = overflow p s) ∨
    ((s.port p).buffersFull k = false ∧ dropBuffer p k s = s.updPort p (fun r => r.freeBuffer k)) := by
  cases h : (s.port p).buffersFull k <;> simp [dropBuffer, h]

/-- R141: giving freed entries touches nothing but what the arbiter keeps. -/
theorem give_cases (n : Nat) (s : State) :
    ∃ g l, State.give n s = s.updTrans (fun t => { t with granted := g, lastTaken := l }) := by
  induction n generalizing s with
  | zero => exact ⟨s.trans.granted, s.trans.lastTaken, rfl⟩
  | succ n ih =>
    obtain ⟨g, l, h⟩ := ih s.giveOne
    refine ⟨g, l, h.trans ?_⟩
    unfold State.giveOne; split <;> rfl

/-- R141: an entry given anew touches nothing but what the arbiter keeps. -/
theorem regrant_cases (s : State) : ∃ g l, s.regrant = s.updTrans (fun t => { t with granted := g, lastTaken := l }) := by
  obtain ⟨g, l, h⟩ := give_cases (s.trans.granted.length - (s.trans.granted.filter s.waitsForEntry).length)
    (s.updTrans (fun t => { t with granted := s.trans.granted.filter s.waitsForEntry }))
  exact ⟨g, l, h⟩

/-- R141: entries that leave the table change nothing further but what the arbiter keeps, and that only where none
was free. -/
theorem noteFreed_cases (s t : State) :
    (32 ≤ s.claimed ∧ ∃ g l, s.noteFreed t = t.updTrans (fun x => { x with granted := g, lastTaken := l })) ∨
    (s.claimed < 32 ∧ s.noteFreed t = t) := by
  unfold State.noteFreed; split
  · obtain ⟨g, l, h⟩ := regrant_cases t
    obtain ⟨g', l', h'⟩ := give_cases (s.trans.ott.length - t.trans.ott.length) t.regrant
    exact .inl ⟨‹_›, g', l', by rw [h', h]; rfl⟩
  · exact .inr ⟨by omega, rfl⟩

/-- R141: where the arbiter has given nothing, there is nothing to give anew. -/
theorem regrant_of_none {s : State} (h : s.trans.granted = []) : s.regrant = s := by
  unfold State.regrant
  simp only [h, List.filter_nil, List.length_nil, Nat.sub_self, State.give]
  unfold State.updTrans
  rw [← h]

/-- R150: a take that brings a completion queue nothing leaves the alternation as it stands. -/
theorem markTaken_cases (p : PortId) (held : Bool) (s t : State) :
    ((s.port p).qCompletion.length < (t.port p).qCompletion.length ∧
      markTaken p held s t = t.updPort p (fun r => { r with compTookHeld := held })) ∨
    ((t.port p).qCompletion.length ≤ (s.port p).qCompletion.length ∧ markTaken p held s t = t) := by
  unfold markTaken; split
  · exact .inl ⟨‹_›, rfl⟩
  · exact .inr ⟨by omega, rfl⟩

/-- R99, R112: what is begun on a lane stays, and no message behind it is of the kind taken off. -/
theorem unsend_committed (r : Slot) (p : LaneMsg → Bool) :
    (r.unsend p).committed = r.committed.head?.toList ++ r.committed.tail.filter (fun x => !p x) := by
  unfold Slot.unsend; split
  · simp [*]
  · next m rest h =>
    split
    · simp [h]
    · next hp =>
      simp only [h, List.head?_cons, Option.toList, List.tail_cons, List.singleton_append, List.cons.injEq, true_and]
      symm
      rw [List.filter_eq_self]
      intro x hx
      simp only [List.any_eq_true, not_exists, not_and] at hp
      simpa using hp x hx

/-- R22: only the loop's first parcel leaves it. -/
theorem leaveLoop_looped (p : PortId) (bytes : List Byte) (s : State) :
    ((leaveLoop p bytes s).port p).looped = (s.port p).looped ∨
    ∃ x, (s.port p).looped = x :: ((leaveLoop p bytes s).port p).looped ∧ x.encode = bytes := by
  cases p <;> simp only [leaveLoop, State.updPort, State.setPort, State.port] <;> split <;> (try split) <;> simp_all

end Sys2Proof.Machine
end

