-- ==== Sys2Proof/Tests/Slice0.lean ====
section
/-! SUPPORT. Tests/Slice0.lean: small checks of the model on fixed states, with expected values taken from
the specification's examples and tables or worked by hand; a smoke test of each well-formedness check; and
for each statement with hypotheses states and operands that meet them (`witness_…`). -/

set_option Elab.async false

namespace Sys2Proof.Tests

open Sys2Proof.Machine

/-! ## States and helpers -/

/-- The state a command leaves. -/
def after (c : Instr) (s : State) : State := match exec c s with
  | .next t => t
  | _ => s

/-- Nothing awaits routing, and no slot but perhaps one drains. -/
def calm (but : Nat) (s : State) : Bool :=
  s.trans.ott.all (fun x => !x.2.awaitsRoute) && s.slots.all (fun e => e.1 == but || e.2.drain.isNone)

theorem tfind_mem {α : Type} {t : List (Nat × α)} {k : Nat} {v : α} (h : tfind t k = some v) : (k, v) ∈ t := by
  induction t with
  | nil => simp [tfind] at h
  | cons e r ih =>
    unfold tfind at h
    split at h
    · next he => rw [← he, ← Option.some.inj h]; simp
    · exact List.mem_cons_of_mem _ (ih h)

theorem calm_drains {but : Nat} {s : State} (h : calm but s = true) (j : Nat) (hj : j ≠ but) : (s.slot j).drain = none := by
  unfold State.slot tgetD
  cases hf : tfind s.slots j with
  | none => rfl
  | some v =>
    have h2 := (List.all_eq_true.mp (Bool.and_eq_true_iff.mp h).2) _ (tfind_mem hf)
    simpa [hj] using h2

theorem calm_routed {but : Nat} {s : State} (h : calm but s = true) : s.routed := by
  intro x hx
  have h1 := (List.all_eq_true.mp (Bool.and_eq_true_iff.mp h).1) x hx
  simpa using h1

/-- No slot is numbered 16, so that `calm 16` says that no slot drains. -/
theorem calm_settled {s : State} (h : calm 16 s = true) (h16 : tfind s.slots 16 = none) : s.settled := by
  refine ⟨calm_routed h, fun i => ?_⟩
  by_cases hi : i = 16
  · subst hi; simp [State.slot, tgetD, h16]
  · exact calm_drains h i hi

/-- The manager of the frames below, and a requester that is not the manager. -/
def boss : Requester := ⟨0, 0, 1⟩
def other : Requester := ⟨0, 3, 1⟩

/-- A port in UP whose peer, of frame `f`, claims the link as its rootward link or not. -/
def upPort (f : Nat) (claims : Bool) : Port :=
  { state := .up, cableSense := true, peer := some ⟨9, f, false, 1, claims, true, 64, 8, 8⟩, peerFast := true
    txCredits := ⟨64, 8, 8⟩, delay := 320, delayValid := true }

/-- A slot in ADMITTED with eight lane credits. -/
def inUse : Slot :=
  { state := .admitted, presence := true, powerGood := true, powerEnable := true, lane := .up, advertised := 8
    available := 8 }

/-- Frame 5 between the root on port 0 and frame 7 on port 1, slot 2 ADMITTED, in TRACK. -/
def mid : State :=
  { topo := { frameNumber := some 5, rootward := some .p0, hops := some 1
              directory := [(5, ⟨.here, 0, 1⟩), (7, ⟨.port .p1, 1, 9⟩)] }
    port0 := upPort 0 false
    port1 := upPort 7 true
    rtu := { state := .track }
    slots := [(2, inUse)]
    mgmt := { manager := some (0, 0) } }

/-- `mid` with port 0 in a state. -/
def withPort (r : Port) : State := { mid with port0 := r }

/-- `mid` with slot 2 as given. -/
def withSlot (r : Slot) : State := { mid with slots := [(2, r)] }

/-- `mid` with OTT entry 4 as given. -/
def withEntry (e : OttEntry) : State := { mid with trans := { mid.trans with ott := [(4, e)] } }

/-- A READ of slot 2 in frame 7 as an OTT entry sent through port 1. -/
def sentRead : OttEntry :=
  { id := 2, tag := 6, dest := 7, target := 3, op := .read, address := 64, length := 4, data := [], ext := none, window := none
    swap := .bytes16, retry := true, retries := 2, deadline := 900, via := some (.port .p1), state := .sent, answer := none
    order := 0 }

theorem mid_settled : mid.settled := calm_settled (by decide) (by decide)

/-! ## Well-formedness: one ill-formed operand for each check -/

theorem smoke_requester : (Instr.start ⟨256, 0, 0⟩ 0).wf = false := by decide
theorem smoke_assign_length : (Instr.assign .p0 boss 1 ⟨none, 0⟩ []).wf = false := by decide
theorem smoke_assign_expected : (Instr.assign .p0 boss 1 ⟨some (2 ^ 64), 0⟩ [0, 0, 0, 5]).wf = false := by decide
theorem smoke_assign_hop : (Instr.assign .p0 boss 256 ⟨none, 0⟩ [0, 0, 0, 5]).wf = false := by decide
theorem smoke_hello : (Instr.helloReceived .p0 ⟨2 ^ 64, 0, 0, true, false, false, false, 64, 8, 8⟩).wf = false := by decide
theorem smoke_echo : (Instr.echoReceived .p0 65536).wf = false := by decide
theorem smoke_echoReply : (Instr.echoReplyReceived .p0 0 (2 ^ 60) 0).wf = false := by decide
theorem smoke_credit : (Instr.creditReceived .p0 256 0 0).wf = false := by decide
theorem smoke_rate : (Instr.rateRequestWrite boss .p0 (2 ^ 32)).wf = false := by decide
theorem smoke_mark : (Instr.markReceived .p0 { origin := 0, correction := 0, epoch := 2 ^ 39, hops := 0 }).wf = false := by decide
theorem smoke_announce : (Instr.announceReceived .p0 ⟨256, 1, 0⟩).wf = false := by decide
theorem smoke_rootTrim : (Instr.rootTrimWrite boss 2147483648).wf = false := by decide
theorem smoke_load : (Instr.rackTimeLoad boss (2 ^ 56)).wf = false := by decide
theorem smoke_timebase : (Instr.timebaseSettingsWrite boss ⟨2 ^ 32, 2, 1, 1, 0, 1, 0⟩).wf = false := by decide
theorem smoke_triggerMap : (Instr.triggerMapWrite boss 0 { budget := 2 ^ 32 }).wf = false := by decide
theorem smoke_trigger : (Instr.triggerReceived .p0 ⟨0, 256, 0, false, 0⟩).wf = false := by decide
theorem smoke_route : (Instr.routeTableWrite boss 1024 [⟨0, none, false, false, 0, none, 0⟩]).wf = false := by decide
theorem smoke_routeCount : (Instr.routeTableWrite boss 0 []).wf = false := by decide
theorem smoke_routeGuard : (Instr.routeGuardWrite boss ⟨2 ^ 32, 0, false, false⟩).wf = false := by decide
theorem smoke_burst : (Instr.sampleBurst 0 65536 []).wf = false := by decide
theorem smoke_stream : (Instr.streamParcelReceived .p0 ⟨1024, 0, 0, 0, false, false, false, []⟩).wf = false := by decide
theorem smoke_binding : (Instr.bindingWrite boss 63 [⟨0, 0, 1, 0, 0⟩, ⟨0, 0, 1, 0, 0⟩]).wf = false := by decide
theorem smoke_advertisement : (Instr.laneAdvertisement 0 256).wf = false := by decide
theorem smoke_laneCredit : (Instr.laneCreditReturn 0 256).wf = false := by decide
theorem smoke_laneMessage : (Instr.undefinedLaneMessage 0 []).wf = false := by decide
theorem smoke_slotSettings : (Instr.slotSettingsWrite boss 0 ⟨2 ^ 32, 10, 1, false⟩).wf = false := by decide
theorem smoke_laneRequest :
    (Instr.slotRequestTaken 0 (some ⟨0, false, false, .read, 257, 0, 0, 0, none, []⟩)).wf = false := by decide
theorem smoke_request :
    (Instr.requestReceived .p0 ⟨boss, 62, 31, .assign, 1, 0, 4, none, [0, 0, 0, 5]⟩).wf = false := by decide
theorem smoke_operation : (Instr.requestReceived .p0 ⟨boss, 5, 2, .undefined 300, 1, 0, 4, none, []⟩).wf = false := by decide
theorem smoke_completion : (Instr.completionReceived .p0 ⟨boss, 256, 1, []⟩).wf = false := by decide
theorem smoke_reply : (Instr.moduleReply 0 256 0 []).wf = false := by decide
theorem smoke_transSettings : (Instr.transactionSettingsWrite boss ⟨2 ^ 32, 1, 1⟩).wf = false := by decide
theorem smoke_window : (Instr.windowWrite boss 0 []).wf = false := by decide
theorem smoke_windowGuard : (Instr.windowGuardWrite boss ⟨0, 2 ^ 32, false, false⟩).wf = false := by decide
theorem smoke_channel : (Instr.channelSetupWrite boss 0 ⟨256, 0, 0, 0, 0, 0, 1, 64, 0, 0⟩).wf = false := by decide
theorem smoke_notice : (Instr.noticeEnableWrite boss 0 (2 ^ 32)).wf = false := by decide
theorem smoke_manager : (Instr.managerWrite boss 256 0).wf = false := by decide
theorem smoke_write : (Instr.controllerWrite boss 0 []).wf = false := by decide
theorem smoke_wellFormed : (Instr.assign .p0 boss 1 ⟨none, 0⟩ [0, 0, 0, 5]).wf = true := by decide

/-! ## The step, reset and formats -/

theorem test_step_takes_the_front :
    step { State.reset with pending := [.presenceAssert 2, .noticeIssue] } = .next (after (.presenceAssert 2)
      { State.reset with pending := [.noticeIssue] }) := by rfl
theorem test_reset_root : State.reset.topo.frameNumber = some 0 ∧ State.reset.rtu.state = .reference := by decide
theorem test_reset_wasReset : (State.reset.event 27).pending = true ∧ State.reset.mgmt.manager = some (0, 0) := by decide
theorem test_table_gives_no_bits : decodeTableWord 32 0 = none := by decide
theorem witness_IdleStepIsOneLocalCycle : State.reset.pending = [] := by decide
theorem witness_IdleStepIsOneLocalCycle_timers : (withSlot { timer := some ⟨.debounce, 0⟩ }).pending = [] ∧
    ((withSlot { timer := some ⟨.debounce, 0⟩ }).slot 2).timer = some ⟨.debounce, 0⟩ ∧
    ((withSlot { timer := some ⟨.power, 0⟩ }).slot 2).timer = some ⟨.power, 0⟩ ∧
    ((withSlot { timer := some ⟨.drain, 0⟩ }).slot 2).timer = some ⟨.drain, 0⟩ ∧ (withEntry sentRead).ottEntry 4 = some sentRead := by
  decide
theorem test_deadline_due : Instr.transactionDeadline 4 ∈ { withEntry sentRead with localTime := 900 }.dueCommands ∧
    Instr.transactionDeadline 4 ∉ { withEntry sentRead with localTime := 899 }.dueCommands := by decide +kernel
theorem witness_FinishLeavesASettledState : mid.settled := mid_settled
theorem witness_CommandsLeaveTheQueueAlone : exec (.presenceAssert 2) State.reset = .next (after (.presenceAssert 2) State.reset) :=
  rfl
theorem witness_CommandsLeaveTheQueueAlone_reset :
    exec (.powerOnReset true 3) State.reset = .next (after (.powerOnReset true 3) State.reset) := rfl
theorem witness_invariants_ports : mid.portsBounded := by unfold State.portsBounded Port.bounded; decide
theorem witness_invariants_root : mid.rootHeld := by unfold State.rootHeld; decide
theorem witness_invariants_pool : mid.poolHeld := by unfold State.poolHeld; decide
theorem witness_invariants_lanes : mid.lanesHeld := by
  intro i
  by_cases h : i = 2
  · subst h; unfold Slot.laneHeld; decide
  · have : mid.slot i = {} := by simp [State.slot, tgetD, mid, tfind, Ne.symm h]
    rw [this]; unfold Slot.laneHeld; decide
theorem witness_invariants_step : step mid = .next (tick mid) := rfl
/-- The check value of the CRC-32 of 11.2 over the digits 1 to 9 is CBF43926h. -/
theorem test_crc : crc32 [49, 50, 51, 52, 53, 54, 55, 56, 57] = 0xCBF43926 := by decide +kernel
theorem witness_ParcelsReadBack : (Parcel.echo 7).wf = true := by decide
/-- 11.2: an ECHO is kind 3, class 4 (timing), with its number in bytes 4 and 5. -/
theorem test_echo_body : bodyOf (Parcel.echo 0x0102).encode = [3, 4, 0, 0, 1, 2, 0, 0, 0, 0, 0, 0, 0, 0, 0, 0] := by decide +kernel
theorem test_echo_reads_back : parcelFault (Parcel.echo 7).encode = none := by decide +kernel

/-! ## Cable ports -/

theorem witness_TrainingAndPairing : (State.reset.port .p0).state = .absent ∧
    ((withPort { state := .training, trainRate := .fast }).port .p0).trainRate = .fast ∧
    ((withPort { state := .pairing }).port .p0).state = .pairing := by decide
theorem test_sense_trains : (after (.cableSensePresent .p1) State.reset).port1.state = .training := by decide
theorem test_lock_pairs : (after (.symbolLock .p0) (withPort { state := .training })).port0.state = .pairing := by decide
theorem witness_HelloTimerSendsCurrentValues_end : (withPort { state := .pairing, qLink := [.credit] }).port0.state = .pairing ∧
    ((withPort { state := .pairing, qLink := [.credit] }).port0.qLink.length < 32) ∧
    (∀ i ∈ (withPort { state := .pairing, qLink := [.credit] }).port0.qLink, ∀ x, i ≠ .hello x) := by
  refine ⟨rfl, by decide, ?_⟩; intro i hi x; simp [withPort] at hi; simp [hi]
theorem witness_HelloTimerSendsCurrentValues_place (x : Hello) :
    (withPort { state := .pairing, qLink := [.credit, .hello x] }).port0.qLink = [.credit] ++ .hello x :: [] ∧
    (∀ i ∈ [LinkItem.credit], ∀ y, i ≠ .hello y) := by simp [withPort]
theorem witness_LeavingTearsTheLinkDown_up : (upPort 0 false).state = .up ∧ (upPort 0 false).rate = .base := by decide
theorem test_lock_lost_up : (after (.symbolLockLost .p1) mid).port1.state = .training ∧
    (after (.symbolLockLost .p1) mid).port1.counters.retrains = 1 ∧ ((after (.symbolLockLost .p1) mid).event 1).pending = true := by
  decide +kernel
theorem witness_LeavingTearsTheLinkDown : (withPort { state := .measure, rate := .base }).port0.state = .measure ∧
    (withPort { state := .loopback, loopForm := .near }).port0.loopForm = .near := by decide
theorem witness_LinkDownReachesTheUnits : (withEntry { sentRead with retry := false }).port1.state = .up ∧
    (withEntry { sentRead with retry := false }).ottEntry 4 = some { sentRead with retry := false } ∧
    (withEntry { sentRead with retry := false }).routed := ⟨by decide, by decide, calm_routed (but := 16) (by decide)⟩
theorem test_link_down_answers : ((after (.cableSenseLost .p1) (withEntry { sentRead with retry := false })).ottEntry 4).bind (·.answer) =
    some ⟨.linkLost, []⟩ := by decide +kernel
theorem witness_LinkDownReroutesRetryEntries : (withEntry sentRead).ottEntry 4 = some sentRead ∧
    (withEntry sentRead).topo.rootward = some PortId.p1.other ∧ (withEntry sentRead).isUp .p0 = true ∧
    (∀ x ∈ (withEntry sentRead).topo.directory, x.1 = sentRead.dest → x.2.via = .port .p1) ∧ (withEntry sentRead).routed :=
  ⟨by decide, by decide, by decide, by decide, calm_routed (but := 16) (by decide)⟩
theorem test_link_down_reroutes : (after (.cableSenseLost .p1) (withEntry sentRead)).port0.qRequest = [sentRead.request 5] := by decide +kernel
/-- A HELLO of another unit, of frame 7. -/
def hello7 : Hello := ⟨9, 7, 2, false, true, true, false, 64, 8, 8⟩
theorem witness_HelloCompletesPairing : (withPort { state := .pairing }).port0.state = .pairing ∧ hello7.uid ≠ mid.unitId ∧
    hello7.loopRequest = false ∧ { hello7 with uid := 1 }.uid = mid.unitId ∧
    ({ State.reset with port0 := { state := .pairing } }).topo.root = true ∧ { hello7 with root := true }.root = true := by decide
theorem witness_HelloCompletesPairing_later : (upPort 7 true).state = .up ∧ { hello7 with loopRequest := true }.loopRequest = true ∧
    (upPort 7 true).peer.map (·.uid) = some hello7.uid ∧ { hello7 with uid := 8 }.uid ≠ 9 ∧
    (upPort 7 true).peer.map (·.rootward) = some hello7.rootward ∧ (upPort 7 false).peer.map (·.rootward) = some false ∧
    hello7.fast = (upPort 7 false).peerFast ∧ { upPort 7 true with rateRequest := .fast, peerFast := false }.rate = .base ∧
    { upPort 7 true with qLink := [.hello hello7] }.qLink = [.hello hello7] ∧ mid.routed :=
  ⟨by decide, by decide, by decide, by decide, by decide, by decide, by decide, by decide, by decide, mid_settled.1⟩
/-- R3, R7, R23: a Loop Request of the peer updates Peer FAST Capability, and one of another unit does not. -/
theorem test_loop_request_shows_fast : mid.port1.peerFast = true ∧
    (after (.helloReceived .p1 { hello7 with loopRequest := true, fast := false }) mid).port1.peerFast = false ∧
    (after (.helloReceived .p1 { hello7 with uid := 8, loopRequest := true, fast := false }) mid).port1.peerFast = true := by
  decide +kernel
theorem witness_HelloCompletesPairing_self : { hello7 with uid := 1, root := true }.uid = State.reset.unitId ∧
    { hello7 with uid := 1, root := true }.root = true ∧ State.reset.topo.root = true := by decide
theorem test_hello_self_root : (after (.helloReceived .p0 { hello7 with uid := 1, root := true })
    { State.reset with port0 := { state := .pairing } }).port0.rootConflict = true := by decide +kernel
theorem test_hello_claims : (after (.helloReceived .p1 hello7) { mid with port1 := upPort 7 false }).isChild .p1 = true := by decide +kernel
theorem test_hello_pairs : (after (.helloReceived .p0 hello7) (withPort { state := .pairing })).port0.txCredits = ⟨64, 8, 8⟩ ∧
    (after (.helloReceived .p0 hello7) (withPort { state := .pairing })).port0.state = .measure := by decide
theorem test_hello_self : (after (.helloReceived .p0 { hello7 with uid := 1 }) (withPort { state := .pairing })).port0.selfCabled = true := by
  decide
/-- A port in MEASURE with one echo departed. -/
def echoing : Port := { state := .measure, burst := some ⟨[{ number := 3, t1 := some 1000 }], 20⟩ }
theorem witness_EchoExchange : (withPort echoing).port0.state = .measure ∧ echoing.qTiming.length < 8 ∧
    echoing.burst = some ⟨[] ++ { number := 3, t1 := some 1000 } :: [], 20⟩ := by decide
theorem witness_EchoExchange_stale : (withPort { state := .up }).port0.state = .up ∧
    ∀ b, (withPort { state := .up }).port0.burst = some b → ∀ e ∈ b.echoes, e.number = 4 → e.reply.isSome := by
  refine ⟨rfl, ?_⟩; intro b hb; simp [withPort] at hb
theorem test_echo_reply_before_departure : ((after (.echoReplyReceived .p0 3 1 2)
    (withPort { echoing with burst := some ⟨[{ number := 3 }], 20⟩ })).port0.burst.map (·.echoes)) = some [{ number := 3, reply := some (1, 2, 0) }] := by
  decide +kernel
theorem test_echo_answered : (after (.echoReceived .p0 9) { mid with rtu := { mid.rtu with rackTime := 5 * 2 ^ 28 } }).port0.qTiming =
    [.echoReply 9 5] := by decide +kernel
theorem test_echo_stale : (after (.echoReplyReceived .p0 4 1 2) (withPort echoing)).port0.counters.stale = 1 := by decide +kernel
/-- Eight echoes whose sample is 320 sixteenths each (3.3): T4 - T1 is 1,000 and T3 - T2 is 360. -/
def eight : List Echo := (List.range 8).map (fun n => { number := n, t1 := some 1000, reply := some (5000, 5360, 2000) })
def bursting (st : PortState) (es : List Echo) : Port := { upPort 0 false with state := st, burst := some ⟨es, 10⟩ }
theorem witness_BurstsStartAndEnd_valid : burstResult (bursting .up eight).burst.get!.echoes = some 320 ∧ 8 ≤ eight.length := by
  decide +kernel
theorem witness_BurstsStartAndEnd_invalid :
    burstResult ((List.range 8).map (fun n => ({ number := n } : Echo))) = none ∧ (bursting .measure eight).state = .measure := by
  decide +kernel
/-- An answered echo of a round trip of `trip` sixteenths, the peer's hold time being 640, its clock 3,200 ahead. -/
def echoOf (trip : Nat) : Echo := { number := 0, t1 := some 16000000, reply := some (16003200, 16003840, 16000000 + trip) }
/-- R48: the round trip at its bound and beyond it, a negative difference, and the least that is not. -/
theorem witness_BurstsStartAndEnd_samples : (echoOf 65535).t1 = some 16000000 ∧ (echoOf 65535).spanned = false ∧
    ((16065535 : Int) - 16000000) % 2 ^ 60 = 65535 ∧ 65535 < ((16065536 : Int) - 16000000) % 2 ^ 60 ∧
    ((16000639 : Int) - 16000000) % 2 ^ 60 < ((16003840 : Int) - 16003200) % 2 ^ 60 ∧
    ({ echoOf 640 with spanned := true }).spanned = true ∧ (List.filterMap Echo.sample (List.replicate 4 (echoOf 1281))).length = 4 ∧
    (List.filterMap Echo.sample (List.replicate 3 (echoOf 1281))).length < 4 := by decide +kernel
theorem test_sample_bounds : (echoOf 65535).sample = some 32448 ∧ (echoOf 65536).sample = none ∧ (echoOf 639).sample = none ∧
    (echoOf 640).sample = some 0 ∧ (echoOf 641).sample = some 1 ∧ (echoOf 1280).sample = some 320 := by decide +kernel
theorem witness_BurstsStartAndEnd_schedule : { upPort 0 false with delayValid := false, burstCount := 64 }.burst = none ∧
    mid.rtu.delayRepeat = true ∧ { upPort 0 false with burstCount := 1024 }.delayValid = true := by decide
theorem test_burst_writes_delay : (after (.burstEnd .p0) (withPort (bursting .measure eight))).port0.delay = 320 ∧
    (after (.burstEnd .p0) (withPort (bursting .measure eight))).port0.state = .up := by decide +kernel
theorem witness_BurstsStartAndEnd_loopback : (bursting .loopback eight).state = .loopback ∧ (bursting .loopback eight).burst = some ⟨eight, 10⟩ ∧
    8 ≤ eight.length := by decide +kernel
theorem test_loopback_burst : (after (.burstEnd .p0) (withPort (bursting .loopback eight))).port0.loopDelay = some 320 := by decide +kernel
theorem test_burst_starts :
    (after (.burstSchedule .p0) (withPort { upPort 0 false with burstCount := 1024 })).port0.qTiming = [.echo 0] := by decide +kernel
/-- A parcel of tag 7 from the root, of epoch 0. -/
def aParcel : StreamParcel := ⟨7, 0, 0, 0, true, false, false, [1, 2, 3, 4]⟩
def aCompletion : Completion := ⟨⟨0, 0, 1⟩, 0, 31, []⟩
def aRequest : Request := ⟨⟨7, 3, 1⟩, 0, 2, .read, 20, 64, 4, none, []⟩
/-- A STREAM header of 16 zero payload bytes whose CRC is wrong. -/
def badStream : List Byte := [1, 1, 0, 0] ++ List.replicate 16 0
theorem witness_BadParcelsAreCounted : parcelFault badStream = some .crc ∧ classNamed badStream = some .stream ∧
    LinkItem.credit ∈ { upPort 0 false with qLink := [.credit] }.qLink ∧ classNamed [1, 9] = none := by decide +kernel
theorem witness_BadParcelsAreCounted_ninth : parcelFault [1, 9] = some .crc := by decide +kernel
/-- A REQUEST header of 28 zero bytes after it whose CRC is wrong, and a port in NEAR whose ECHO 3 goes round. -/
def badRequest : List Byte := [9, 2, 0, 0] ++ List.replicate 28 0
def nearPort : Port :=
  { state := .loopback, loopForm := .near, looped := [.echo 3], burst := some ⟨[{ number := 3, t1 := some 7 }], 20⟩ }
theorem witness_BadParcelsAreCounted_full : parcelFault badRequest = some .crc ∧ classNamed badRequest = some .request ∧
    { upPort 0 false with heldRequests := List.replicate 8 ⟨3, aRequest⟩ }.heldRequests.length = 8 := by decide +kernel
theorem witness_BadParcelsAreCounted_loop : nearPort.looped = .echo 3 :: [] ∧ (Parcel.echo 3).encode ≠ badStream ∧
    parcelFault (Parcel.echo 3).encode = none ∧ Parcel.decode (bodyOf (Parcel.echo 3).encode) = some (.echo 3) ∧
    nearPort.burst.map (·.echoes) = some ([] ++ { number := 3, t1 := some 7 } :: []) ∧
    parcelFault (Parcel.credit 1 2 3).encode = none ∧
    Parcel.decode (bodyOf (Parcel.credit 1 2 3).encode) = some (.credit 1 2 3) := by decide +kernel
theorem test_loop_echo : (after (.loopbackParcelReturned .p0 (Parcel.echo 3).encode) (withPort nearPort)).port0.burst.map (·.echoes) =
    some [{ number := 3, t1 := some 7, reply := some (0, 0, 0) }] := by decide +kernel
theorem test_bad_crc_counted : (after (.badParcelArrival .p0 badStream) (withPort (upPort 0 false))).port0.counters.badCrc = 1 ∧
    (after (.badParcelArrival .p0 badStream) (withPort (upPort 0 false))).port0.freed.stream = 1 := by decide +kernel
theorem test_ninth_bad_retrains :
    (after (.badParcelArrival .p0 badStream) (withPort { upPort 0 false with badThisEpoch := 8 })).port0.state = .training := by
  decide +kernel
theorem witness_FallbackAfterThreeRetrains :
    (withPort { state := .pairing, rate := .fast, retrainHistory := [3, 900] }).port0.retrainHistory.length = 2 ∧
    (withPort { state := .pairing, rate := .fast, retrainHistory := [3] }).port0.retrainHistory.length < 2 := by decide
theorem witness_FallbackAfterThreeRetrains_up : { upPort 0 false with rate := .fast, retrainHistory := [3, 900] }.state = .up ∧
    { upPort 0 false with rate := .fast, retrainHistory := [3, 900] }.retrainHistory.length = 2 := by decide
theorem test_fallback : (after (.symbolLockLost .p0)
    (withPort { state := .pairing, rate := .fast, rateRequest := .fast, retrainHistory := [3, 900] })).port0.rateRequest = .base := by
  decide +kernel
theorem witness_CreditsAreClamped : (upPort 0 false).state = .up ∧ (upPort 0 false).peer = some ⟨9, 0, false, 1, false, true, 64, 8, 8⟩ := by
  decide
theorem test_credit_clamped : (after (.creditReceived .p0 5 0 0) (withPort { upPort 0 false with txCredits := ⟨62, 1, 0⟩ })).port0.txCredits =
    ⟨64, 1, 0⟩ ∧ (after (.creditReceived .p0 5 0 0) (withPort { upPort 0 false with txCredits := ⟨62, 1, 0⟩ })).port0.counters.creditExcess = 3 := by
  decide +kernel
theorem witness_ArbiterSendsInOrder : { upPort 0 false with qTiming := [.trigger ⟨0, 1, 2, false, 3⟩] }.qTiming = [.trigger ⟨0, 1, 2, false, 3⟩] ∧
    { upPort 0 false with qLink := [.credit] }.qLink = [.credit] ∧
    0 < { upPort 0 false with qStream := [aParcel], qCompletion := [aCompletion] }.txCredits.completion ∧
    { upPort 0 false with qRequest := [aRequest] }.qRequest = [aRequest] := by decide
theorem witness_ArbiterSendsInOrder_stamps : { upPort 0 false with qTiming := [.rootMark] }.qTiming = [.rootMark] ∧
    80 + (1448 + 2 ^ 60 - 1400) % 2 ^ 60 + (mid.port .p1).delay < 2 ^ 32 - 1 ∧ (mid.port .p1).delayValid = true ∧
    ({ state := .measure, qTiming := [.echo 3], burst := some ⟨[{ number := 3 }], 20⟩ } : Port).burst.map (·.echoes) =
      some ([] ++ { number := 3 } :: []) ∧
    ({ nearPort with qTiming := [.echo 4], burst := some ⟨[{ number := 4 }], 20⟩ } : Port).loopForm = .near := by decide
theorem witness_ArbiterSendsInOrder_hellos :
    { upPort 0 false with qLink := [.hello { hello7 with loopRequest := true }], loopPending := true }.loopPending = true ∧
    { upPort 0 false with qLink := [.hello hello7], retrainPending := true }.retrainPending = true ∧
    { upPort 0 false with qLink := [.hello hello7] }.retrainPending = false := by decide
theorem witness_ArbiterSendsInOrder_credits : { upPort 0 false with qRequest := [aRequest], txCredits := {} }.txCredits.request = 0 ∧
    16 ≤ { upPort 0 false with qRequest := [aRequest], streamRun := 16 }.streamRun := by decide
theorem test_mark_departs : (after (.parcelTransmit .p0) { withPort { upPort 0 false with qTiming := [.fwdMark .p1 1400
    { origin := 1, correction := 80, epoch := 0, hops := 4 } (some 320) false] } with rtu := { rackTime := BitVec.ofNat 88 (1448 * 2 ^ 28) } }).port0.wire =
    some (.mark { origin := 1, correction := 448, epoch := 0, hops := 4 }) := by decide +kernel
def aMark : Mark := { origin := 1000, correction := 80, epoch := 12, hops := 3 }
/-- R49: the Delay that a mark found as it arrived is used, whatever a burst wrote since; none was found, or none is valid
now, and it departs saturated. -/
theorem witness_ArbiterSendsInOrder_delay : (some 320 : Option Nat) ≠ none ∧ ({ mid with port1 := { upPort 7 true with delay := 900 } }.port .p1).delayValid = true ∧
    ({ mid with port1 := { upPort 7 true with delayValid := false } }.port .p1).delayValid = false := by decide
theorem test_mark_keeps_delay : (after (.parcelTransmit .p0) { mid with
    port0 := { upPort 0 false with qTiming := [.fwdMark .p1 1400 aMark (some 320) false] }
    port1 := { upPort 7 true with delay := 900 }, rtu := { rackTime := BitVec.ofNat 88 (1448 * 2 ^ 28) } }).port0.wire =
      some (.mark { aMark with correction := 448 }) ∧
    (after (.parcelTransmit .p0) { mid with
      port0 := { upPort 0 false with qTiming := [.fwdMark .p1 1400 aMark none false] } }).port0.wire =
      some (.mark { aMark with correction := 2 ^ 32 - 1 }) := by decide +kernel
theorem test_stream_run_yields : (after (.parcelTransmit .p0)
    (withPort { upPort 0 false with qStream := [aParcel], qCompletion := [aCompletion], streamRun := 16 })).port0.wire = some (.completion aCompletion) := by
  decide +kernel
theorem test_stream_goes_first : (after (.parcelTransmit .p0)
    (withPort { upPort 0 false with qStream := [aParcel], qCompletion := [aCompletion], streamRun := 15 })).port0.wire = some (.stream aParcel) := by
  decide +kernel
theorem witness_PortCommandsAct : mid.obeys boss = true ∧ mid.accepts 0 = true ∧ mid.port1.burst = none ∧
    (withPort { state := .loopback, loopForm := .near, cableSense := true }).accepts 0 = false ∧
    { mid with port1 := { state := .loopback, loopForm := .near, cableSense := true } }.accepts 0 = true ∧
    { mid with port1 := { state := .measure } }.accepts 0 = true ∧
    { mid with port1 := { state := .loopback, loopForm := .far } }.accepts 0 = true ∧
    ({ state := .loopback, silenceEnd := some 5, cableSense := true } : Port).silenceEnd.isSome := by decide
/-- The states of port 1 that the port commands of the Manager over port 0 name. -/
theorem witness_PortCommandsAct_states : (mid.wrote.leaving .p1 { (upPort 7 true).tornDown with state := .training }).accepts 0 = true ∧
    (mid.wrote.leaving .p1 { (upPort 7 true).tornDown with state := .loopback, loopForm := .near }).accepts 0 = true ∧
    { mid with port1 := {} }.accepts 0 = true ∧ { mid with port1 := { state := .pairing } }.accepts 0 = true ∧
    { mid with port1 := { state := .loopback, loopForm := .farServed, cableSense := true } }.accepts 0 = true := by decide +kernel
theorem test_near_loops : (after (.loopbackNear boss .p1) mid).port1.loopForm = .near := by decide +kernel
theorem test_retrain_trains : (after (.retrain boss .p1) mid).port1.state = .training := by decide +kernel
theorem witness_RateRequestIsWritten : mid.obeys boss = true ∧ mid.accepts boss.frame = true ∧
    mid.port0.rateRequest = .base ∧ { upPort 0 false with rateRequest := .fast }.rateRequest = .fast := by decide
theorem test_rate_fast : (after (.rateRequestWrite boss .p1 1) mid).port1.retrainPending = true := by decide +kernel

/-! ## Rack time and the rack tree -/

/-- `mid` whose Rack Time stands in epoch `n` with the Epoch Number of epoch `m`. -/
def atEpoch (n m : Nat) (r : Rtu) : State := { mid with rtu := { r with rackTime := BitVec.ofNat 88 (n * 2 ^ 49), epoch := m } }
theorem witness_BoundaryAppliesLoadOrStep : (atEpoch 9 8 { pendingLoad := some 77 }).routed ∧
    (atEpoch 9 8 { pendingLoad := some 77 }).rtu.rackTime.toNat / 2 ^ 49 ≠ (atEpoch 9 8 { pendingLoad := some 77 }).rtu.epoch ∧
    (atEpoch 9 8 { pendingStep := some (-16) }).rtu.pendingLoad = none ∧ (atEpoch 9 8 {}).rtu.pendingStep = none :=
  ⟨calm_routed (but := 16) (by decide), by decide +kernel⟩
theorem witness_BoundaryAppliesLoadOrStep_ages : tsorted (atEpoch 9 8 {}).trig.seen = true := by decide
theorem test_boundary_ages : (after .epochBoundary { atEpoch 9 8 {} with topo := { mid.topo with mark0 := some ⟨1, 8, 1⟩ } }).topo.mark0 =
    some ⟨1, 8, 2⟩ := by decide +kernel
theorem test_boundary_epoch : (after .epochBoundary (atEpoch 9 8 {})).rtu.epoch = 9 := by decide +kernel
theorem test_boundary_step : (after .epochBoundary (atEpoch 9 8 { pendingStep := some 32 })).rtu.rackTime =
    BitVec.ofNat 88 (9 * 2 ^ 49 + 2 ^ 33) := by decide +kernel
/-- `atEpoch 9 8` without a Rootward Port, a Mark Record on each port; both ports are candidates. -/
def unrooted (m0 m1 : MarkRecord) (r : Rtu) : State := { atEpoch 9 8 r with
  port1 := upPort 7 false, topo := { mid.topo with rootward := none, hops := none, mark0 := some m0, mark1 := some m1 } }
/-- The same with port 0 as Rootward Port. -/
def rooted (m0 m1 : MarkRecord) (r : Rtu) : State := { unrooted m0 m1 r with
  topo := { (unrooted m0 m1 r).topo with rootward := some .p0, hops := some (m0.hops + 1) } }
theorem witness_BoundaryAppliesLoadOrStep_roots : (unrooted ⟨4, 8, 0⟩ ⟨4, 8, 1⟩ {}).routed ∧
    (unrooted ⟨4, 8, 0⟩ ⟨4, 8, 1⟩ {}).topo.root = false ∧ (unrooted ⟨4, 8, 0⟩ ⟨4, 8, 1⟩ {}).topo.rootward = none ∧
    ((rooted ⟨4, 8, 2⟩ ⟨4, 8, 1⟩ {}).topo.mark .p0).map (·.age) = some 2 ∧
    (rooted ⟨4, 8, 1⟩ ⟨4, 8, 1⟩ { state := .track, markGap := 1 }).rtu.markGap < 2 :=
  ⟨calm_routed (but := 16) (by decide), by decide⟩
/-- R27, R28: fewer hops, then port 0; a record of Age 2 becomes stale at this boundary. -/
theorem test_boundary_chooses : (after .epochBoundary (unrooted ⟨4, 8, 0⟩ ⟨4, 8, 1⟩ {})).topo.rootward = some .p0 ∧
    (after .epochBoundary (unrooted ⟨4, 8, 0⟩ ⟨3, 8, 1⟩ {})).topo.rootward = some .p1 ∧
    (after .epochBoundary (unrooted ⟨4, 8, 0⟩ ⟨3, 8, 1⟩ {})).topo.hops = some 4 ∧
    (after .epochBoundary (unrooted ⟨4, 8, 2⟩ ⟨5, 8, 1⟩ {})).topo.rootward = some .p1 ∧
    (after .epochBoundary (unrooted ⟨4, 8, 2⟩ ⟨5, 8, 2⟩ {})).topo.rootward = none ∧
    (after .epochBoundary (rooted ⟨4, 8, 1⟩ ⟨1, 8, 0⟩ {})).topo.rootward = some .p0 ∧
    (after .epochBoundary (rooted ⟨4, 8, 2⟩ ⟨6, 8, 1⟩ {})).topo.rootward = some .p1 := by decide +kernel
/-- R56, R57: Mark Gap comes to 2 and to 3, and Holdover Epochs to the limit and past it. -/
theorem test_boundary_counts :
    (after .epochBoundary (rooted ⟨4, 8, 1⟩ ⟨1, 8, 0⟩ { state := .track, markGap := 1 })).rtu.markGap = 2 ∧
    (after .epochBoundary (rooted ⟨4, 8, 1⟩ ⟨1, 8, 0⟩ { state := .track, markGap := 2 })).rtu.state = .holdover ∧
    (after .epochBoundary (rooted ⟨4, 8, 2⟩ ⟨1, 8, 0⟩ { state := .track, markGap := 1 })).rtu.state = .holdover ∧
    (after .epochBoundary (rooted ⟨4, 8, 1⟩ ⟨1, 8, 0⟩ { state := .acquire, markGap := 2 })).rtu.state = .free ∧
    (after .epochBoundary (atEpoch 9 8 { state := .holdover, holdoverEpochs := 4095 })).rtu.state = .holdover ∧
    (after .epochBoundary (atEpoch 9 8 { state := .holdover, holdoverEpochs := 4096 })).rtu.state = .free := by decide +kernel
/-- The root of reset with port 1 UP. -/
def rootUp : State := { State.reset with port1 := upPort 1 true, rtu := { State.reset.rtu with rackTime := BitVec.ofNat 88 (2 ^ 49) } }
theorem witness_RootOffersMarks : rootUp.routed ∧ rootUp.topo.root = true ∧ (rootUp.port .p1).state = .up ∧
    (rootUp.port .p1).qTiming.length < 8 := ⟨calm_routed (but := 16) (by decide), by decide⟩
theorem test_root_offers : (after .epochBoundary rootUp).port1.qTiming = [.rootMark] := by decide +kernel
/-- The same with seven parcels waiting, a burst due and a Pending Step: the mark takes the last place. -/
def rootFull : State := { rootUp with
  port1 := { upPort 1 true with qTiming := List.replicate 7 (.echoReply 3 5), burstCount := 1023 }
  rtu := { rootUp.rtu with pendingStep := some 4 } }
theorem witness_RootOffersMarks_full : rootFull.routed ∧ rootFull.topo.root = true ∧ (rootFull.port .p1).state = .up ∧
    (rootFull.port .p1).qTiming.length < 8 ∧ rootFull.rtu.pendingStep ≠ none := ⟨calm_routed (but := 16) (by decide), by decide⟩
theorem test_root_offers_last : (after .epochBoundary rootFull).port1.qTiming =
    (List.replicate 7 (TimingItem.echoReply 3 5)).map TimingItem.span ++ [.rootMark] := by decide +kernel
theorem witness_TimeLimitsAct : mid.trig.seenAged = false ∧ tsorted mid.trig.seen = true ∧
    ({ mid with topo := { mid.topo with mark0 := some ⟨0, 5, 3⟩ } }).topo.mark .p0 = some ⟨0, 5, 3⟩ ∧
    ({ mid with rtu := { mid.rtu with markGap := 3 } }).rtu.state = .track ∧
    ({ state := .acquire, markGap := 3 } : Rtu).state = .acquire ∧
    ({ state := .holdover, holdoverEpochs := 4097 } : Rtu).holdoverLimit < 4097 := by decide
/-- 3.6: the mean of the sixteen Trims of the example is 224,000 / 16 = 14,000. -/
theorem test_mean_trim : ({ trimHistory := List.replicate 8 13000 ++ List.replicate 8 15000 } : Rtu).meanTrim = 14000 := by
  decide +kernel
theorem test_stale_rootward : (after .rootwardStale { mid with topo := { mid.topo with mark0 := some ⟨0, 5, 3⟩ } }).rtu.state = .holdover := by
  decide +kernel
theorem test_stale_rootward_changes : (after .rootwardStale (rooted ⟨4, 8, 3⟩ ⟨6, 8, 2⟩ {})).topo.rootward = some .p1 ∧
    (after .rootwardStale (rooted ⟨4, 8, 3⟩ ⟨6, 8, 2⟩ {})).topo.hops = some 7 ∧
    (after .rootwardStale (rooted ⟨4, 8, 3⟩ ⟨6, 8, 3⟩ {})).topo.rootward = none := by decide +kernel
theorem test_holdover_limit : (after .holdoverLimit { mid with rtu := { state := .holdover, holdoverEpochs := 4097 } }).rtu.state = .free := by
  decide +kernel
theorem test_slew_end : (after .slewEnd { mid with rtu := { slew := some ⟨5, 0⟩ } }).rtu.slew = none := by decide +kernel
theorem witness_OtherMarksGoNoFurther : 31 ≤ { aMark with hops := 31 }.hops ∧ aMark.hops < 31 ∧ mid.isChild .p1 = true ∧
    mid.topo.rootward ≠ some .p1 ∧ rootUp.topo.root = true ∧ (rootUp.port .p1).state = .up ∧ mid.topo.root = false := by decide
theorem test_child_mark : (after (.markReceived .p1 aMark) mid).topo.childMarks = 1 := by decide +kernel
/-- 3.4, the worked example: Trim +20,000, Gi 4, Gp 2 and an offset of +48 sixteenths in TRACK. The mark of
origin 1,000 and correction 80 with a Delay of 320 arrives at stamp 1,448. -/
def example34 : State := { mid with rtu := { state := .track, trim := 20000, rackTime := BitVec.ofNat 88 (1448 * 2 ^ 28) } }
theorem test_servo_trim : (after (.markReceived .p0 aMark) example34).rtu.trim = 13856 ∧
    (after (.markReceived .p0 aMark) example34).rtu.slew = some ⟨12, 131072⟩ := by decide +kernel
theorem test_servo_correction : (after (.markReceived .p0 aMark) example34).rtu.correction = -10720 ∧
    (after (.markReceived .p0 aMark) example34).rtu.wideCount = 1 := by decide +kernel
/-- The same with the offset +16, which is within the Lock Window. -/
def within34 : State := { example34 with rtu := { example34.rtu with rackTime := BitVec.ofNat 88 (1416 * 2 ^ 28) } }
theorem witness_RootwardMarkDrivesTheServo : (within34.port .p0).state = .up ∧ within34.topo.rootward = some .p0 ∧
    aMark.correction < 2 ^ 32 - 1 ∧ (within34.port .p0).delayValid = true ∧ within34.rtu.state = .track ∧
    (BitVec.ofNat 60 (within34.rtu.rackTime.toNat / 2 ^ 28) - BitVec.ofNat 60 (1000 + 80 + 320)).toInt = 16 ∧
    (16 : Int).natAbs ≤ within34.rtu.lw := by decide +kernel
theorem test_mark_forwarded : (after (.markReceived .p0 aMark) within34).port1.qTiming =
    [.fwdMark .p0 1416 { aMark with hops := 4 } (some 320) false] := by decide +kernel
/-- `example34` in a state of the timebase, the mark arriving at a stamp: its offset is the stamp less 1,400. -/
def marked (stamp : Nat) (r : Rtu) : State := { mid with rtu := { r with trim := 20000, rackTime := BitVec.ofNat 88 (stamp * 2 ^ 28) } }
/-- With ST 1 the threshold is 16 sixteenths and the Lock Window 8, so that offsets of 8, 9, 16 and 17 are at its ends. -/
def tight (st : Timebase) : Rtu := { state := st, st := 1, lw := 8 }
theorem witness_RootwardMarkDrivesTheServo_offsets : ((marked 1417 (tight .free)).port .p0).delayValid = true ∧
    (marked 1417 (tight .free)).rtu.state = .free ∧ (tight .free).stepAllowed = true ∧
    (BitVec.ofNat 60 ((marked 1417 (tight .free)).rtu.rackTime.toNat / 2 ^ 28) - BitVec.ofNat 60 (1000 + 80 + 320)).toInt = 17 ∧
    (BitVec.ofNat 60 ((marked 1383 (tight .free)).rtu.rackTime.toNat / 2 ^ 28) - BitVec.ofNat 60 (1000 + 80 + 320)).toInt = -17 ∧
    (BitVec.ofNat 60 ((marked 1416 (tight .free)).rtu.rackTime.toNat / 2 ^ 28) - BitVec.ofNat 60 (1000 + 80 + 320)).toInt = 16 ∧
    (BitVec.ofNat 60 ((marked 1409 (tight .track)).rtu.rackTime.toNat / 2 ^ 28) - BitVec.ofNat 60 (1000 + 80 + 320)).toInt = 9 ∧
    (BitVec.ofNat 60 ((marked 1408 (tight .acquire)).rtu.rackTime.toNat / 2 ^ 28) - BitVec.ofNat 60 (1000 + 80 + 320)).toInt = 8 ∧
    ¬((17 : Int).natAbs ≤ (tight .free).st * 16) ∧ (16 : Int).natAbs ≤ (tight .free).st * 16 ∧
    ¬((9 : Int).natAbs ≤ (tight .free).lw) ∧ (8 : Int).natAbs ≤ (tight .free).lw := by decide +kernel
theorem witness_RootwardMarkDrivesTheServo_counts : ({ tight .acquire with lockCount := 7 }).lockCount + 1 = 8 ∧
    ({ tight .track with wideCount := 15 }).wideCount + 1 = 16 ∧ ({ tight .track with outlierCount := 3 }).outlierCount + 1 = 4 ∧
    ({ tight .holdover with stepAllowed := false }).stepAllowed = false ∧
    ¬({ aMark with correction := 2 ^ 32 - 1 }.correction < 2 ^ 32 - 1) ∧ { upPort 0 false with delayValid := false }.delayValid = false := by
  decide +kernel
theorem test_far_mark_steps : (after (.markReceived .p0 aMark) (marked 1417 (tight .free))).rtu.pendingStep = some (-17) ∧
    (after (.markReceived .p0 aMark) (marked 1417 (tight .free))).rtu.state = .acquire ∧
    (after (.markReceived .p0 aMark) (marked 1417 (tight .free))).rtu.trim = 20000 := by decide +kernel
/-- R51: under NEVER the update takes -16: F = -16 × 128 = -2,048 and S = -4. -/
theorem test_far_mark_clamped :
    (after (.markReceived .p0 aMark) (marked 1383 { tight .holdover with stepAllowed := false })).rtu.trim = 22048 ∧
    (after (.markReceived .p0 aMark) (marked 1383 { tight .holdover with stepAllowed := false })).rtu.slew = some ⟨-4, 131072⟩ := by
  decide +kernel
theorem test_eighth_mark_locks : (after (.markReceived .p0 aMark) (marked 1408 { tight .acquire with lockCount := 7 })).rtu.state = .track ∧
    ((after (.markReceived .p0 aMark) (marked 1408 { tight .acquire with lockCount := 7 })).event 7).pending = true ∧
    (after (.markReceived .p0 aMark) (marked 1408 { tight .acquire with lockCount := 6 })).rtu.lockCount = 7 ∧
    (after (.markReceived .p0 aMark) (marked 1409 { tight .acquire with lockCount := 7 })).rtu.lockCount = 0 := by decide +kernel
theorem test_track_is_left : (after (.markReceived .p0 aMark) (marked 1416 { tight .track with wideCount := 15 })).rtu.state = .acquire ∧
    (after (.markReceived .p0 aMark) (marked 1417 { tight .track with outlierCount := 3 })).rtu.state = .acquire ∧
    ((after (.markReceived .p0 aMark) (marked 1417 { tight .track with outlierCount := 3 })).event 8).pending = true ∧
    (after (.markReceived .p0 aMark) (marked 1417 { tight .track with outlierCount := 2 })).rtu.state = .track := by decide +kernel
/-- R50, R51: at Trim 1,048,000 an offset of -8 sixteenths under Gi 0 moves it by 16,384, past its bound, and under Gp 0
takes the Correction to 1,048,576 + 16,384. -/
theorem test_trim_clamps : let t := after (.markReceived .p0 aMark) { marked 1392 {} with
      rtu := { (marked 1392 (tight .track)).rtu with trim := 1048000, gi := 0, gp := 0 } }
    t.rtu.trim = 1048576 ∧ t.rtu.trimClamps = 1 ∧ (t.event EventKind.trimLimit.code).pending = true ∧
    t.rtu.correction = 1064960 ∧ t.rtu.correctionClamps = 0 := by decide +kernel
theorem test_rounding : divAway 5 2 = 3 ∧ divAway (-5) 2 = -3 ∧ divAway (-1) 4 = 0 ∧ divAway (-2) 4 = -1 := by decide
theorem test_unusable_mark :
    (after (.markReceived .p0 { aMark with correction := 2 ^ 32 - 1 }) within34).rtu = { within34.rtu with marksUnusable := 1 } := by
  decide +kernel
theorem witness_AnnouncesTeachTheDirectory : mid.isTree .p1 = true ∧ mid.topo.frameNumber ≠ some 8 ∧
    (rootUp.isTree .p0 = false ∧ ({ rootUp with port0 := upPort 1 false }).isTree .p0 = false) := by decide
theorem test_announce_learned : tfind (after (.announceReceived .p1 ⟨8, 2, 44⟩) mid).topo.directory 8 = some ⟨.port .p1, 2, 44⟩ ∧
    (after (.announceReceived .p1 ⟨8, 2, 44⟩) mid).port0.qLink = [.announce ⟨8, 3, 44⟩] := by decide +kernel
theorem witness_AnnouncesTeachTheDirectory_own : mid.topo.frameNumber = some 5 ∧ 1 ≤ (⟨63, 2, 9⟩ : Announce).hop := by decide
theorem test_announce_withdrawn : (after (.announceReceived .p1 ⟨63, 2, 9⟩) mid).topo.directory = [(5, ⟨.here, 0, 1⟩)] := by decide +kernel
theorem test_announce_refused : (after (.announceReceived .p1 ⟨8, 0, 44⟩) mid).topo.announcesRefused = 1 := by decide +kernel
theorem witness_TimebaseWrites : mid.obeys boss = true ∧ mid.accepts boss.frame = true := by decide
theorem test_root_trim_refused : (after (.rootTrimWrite boss 5) mid).port0.qCompletion = [⟨boss, Status.badRequest.code, 31, []⟩] := by
  decide +kernel
theorem test_rack_time_load : (after (.rackTimeLoad ⟨0, 0, 1⟩ 99) State.reset).rtu.pendingLoad = some 99 := by decide +kernel
theorem test_timebase_written : (after (.timebaseSettingsWrite boss ⟨5, 3, 10, 20, 1, 30, 0⟩) mid).rtu.gi = 5 := by decide +kernel

/-! ## Trigger lines -/

/-- `mid` with line 3 enabled from and to slot 2. -/
def lined : State := { mid with trig := { map := [(3, { enabled := true, sources := 4, outputs := 4 })] } }
theorem witness_EdgesOriginateTriggers : (lined.slot (2 : Fin 16)).lane ≠ .dormant ∧ (lined.trigEntry 3).enabled = true ∧
    (lined.trigEntry 3).sources.getLsbD 2 = true ∧ (lined.slot 2).state = .admitted ∧ lined.rtu.state.timed = true ∧
    (mid.trigEntry 3).enabled = false ∧ ({ lined with rtu := {} }).rtu.state.timed = false := by decide
theorem test_edge_sends : (after (.triggerEdge 2 3) lined).port1.qTiming = [.trigger ⟨5, 3, 0, false, 4096⟩] ∧
    (after (.triggerEdge 2 3) lined).originSeq 3 = 1 := by decide +kernel
theorem test_edge_ignored : (after (.triggerEdge 2 3) mid).trig.edgesIgnored = 1 := by decide +kernel
def aTrigger : Trigger := ⟨7, 3, 9, false, 500⟩
theorem witness_TriggersAreFlooded : (mid.port .p1).state = .up ∧ aTrigger.line ≤ 7 ∧ mid.isTree .p1 = true ∧ mid.seen 3 = [] ∧
    mid.topo.frameNumber = some { aTrigger with origin := 5 }.origin ∧ ({ rootUp with port0 := upPort 1 false }).isTree .p0 = false ∧
    (∃ e ∈ ({ mid with trig := { seen := [(3, [⟨7, 9, 0⟩])] } }).seen 3, e.origin = 7 ∧ e.seq = 9) := by decide
theorem witness_TriggersAreFlooded_acts : (lined.trigEntry 3).outputs ≠ 0 ∧ { aTrigger with untimed := true }.untimed = true ∧
    inFuture 0 (lined.rtu.rackTime.toNat / 2 ^ 32) = false ∧ inFuture aTrigger.fire (lined.rtu.rackTime.toNat / 2 ^ 32) = true ∧
    lined.trig.queue = [] := by decide
theorem test_trigger_queued : (after (.triggerReceived .p1 aTrigger) lined).trig.queue = [⟨3, 500, 7⟩] := by decide +kernel
theorem test_trigger_late : (after (.triggerReceived .p1 { aTrigger with fire := 0 }) lined).sideband = [(2, 3)] := by decide +kernel
theorem test_trigger_flooded : (after (.triggerReceived .p1 aTrigger) mid).port0.qTiming = [.trigger aTrigger] := by decide +kernel
theorem test_trigger_duplicate :
    (after (.triggerReceived .p1 aTrigger) { mid with trig := { seen := [(3, [⟨7, 9, 0⟩])] } }).trig.duplicate = 1 := by decide +kernel
/-- `lined` with a Pending Trigger Queue. -/
def waiting (q : List PendingTrigger) : State := { lined with trig := { lined.trig with queue := q } }
/-- R74: the boundary into epoch 9 at tick 1,179,648 with a step of 10 ticks: the entry at the new time is late, the one a
tick beyond stays; without a step both stay. -/
def steppedOver (a : Option Int) : State := { waiting [⟨3, 1179658, 7⟩, ⟨3, 1179659, 7⟩] with
  rtu := (atEpoch 9 8 { pendingStep := a }).rtu }
theorem witness_BoundaryAppliesLoadOrStep_triggers : (steppedOver (some 160)).rtu.pendingStep ≠ none ∧
    inFuture 1179658 1179658 = false ∧ inFuture 1179659 1179658 = true ∧ (steppedOver none).rtu.pendingStep = none := by
  decide +kernel
theorem test_stepped_over : (after .epochBoundary (steppedOver (some 160))).trig.queue = [⟨3, 1179659, 7⟩] ∧
    (after .epochBoundary (steppedOver (some 160))).trig.lateFires = 1 ∧
    (after .epochBoundary (steppedOver (some 160))).sideband = [(2, 3)] ∧
    (after .epochBoundary (steppedOver none)).trig.lateFires = 0 := by decide +kernel
/-- A TRIGGER that offers ⟨3, 500, 7⟩, and an edge that offers ⟨3, 4096, 5⟩. -/
theorem witness_TriggersMergeOrQueue : ((waiting []).port .p1).state = .up ∧ (waiting []).topo.frameNumber ≠ some 7 ∧
    (waiting []).isTree .p1 = true ∧ inFuture 500 ((waiting []).rtu.rackTime.toNat / 2 ^ 32) = true ∧ (waiting []).seen 3 = [] ∧
    ((waiting []).slot (2 : Fin 16)).lane ≠ .dormant ∧ ((waiting []).trigEntry 3).sources.getLsbD 2 = true ∧
    (⟨3, 4096, 5⟩ : PendingTrigger) = ⟨3, ((waiting []).rtu.rackTime.toNat / 2 ^ 32 + ((waiting []).trigEntry 3).budget) % 2 ^ 56,
      (waiting []).frameCode⟩ := by decide
theorem witness_TriggersMergeOrQueue_merges : tickDiff 500 484 ≤ 16 ∧ tickDiff 516 500 ≤ 16 ∧ inFuture 484 500 = false ∧
    inFuture 516 500 = true ∧ 16 < tickDiff 500 483 ∧ 16 < tickDiff 483 500 := by decide
theorem witness_TriggersMergeOrQueue_overflows : 16 ≤ (List.replicate 16 (⟨4, 500, 0⟩ : PendingTrigger)).length := by decide
/-- R72: an entry that merges takes the earlier fire time and moves forward in the order. -/
theorem test_trigger_merges : (after (.triggerReceived .p1 aTrigger) (waiting [⟨2, 490, 1⟩, ⟨1, 505, 1⟩, ⟨3, 510, 0⟩])).trig.queue =
    [⟨2, 490, 1⟩, ⟨3, 500, 7⟩, ⟨1, 505, 1⟩] := by decide +kernel
theorem test_trigger_stands : (after (.triggerEdge 2 3) (waiting [⟨2, 490, 1⟩, ⟨3, 4090, 0⟩])).trig.queue = [⟨2, 490, 1⟩, ⟨3, 4090, 0⟩] := by
  decide +kernel
theorem witness_TriggersFireAndAreMapped : ({ lined with trig := { lined.trig with queue := [⟨3, 0, 5⟩, ⟨4, 50, 5⟩] } }).trig.queue =
    [⟨3, 0, 5⟩] ++ [⟨4, 50, 5⟩] ∧ inFuture 0 (lined.rtu.rackTime.toNat / 2 ^ 32) = false ∧
    inFuture 50 (lined.rtu.rackTime.toNat / 2 ^ 32) = true ∧ lined.obeys boss = true := by decide
theorem test_trigger_fires : (after .triggerFire { lined with trig := { lined.trig with queue := [⟨3, 0, 5⟩, ⟨4, 50, 5⟩] } }).sideband =
    [(2, 3)] := by decide +kernel
theorem test_map_written : (after (.triggerMapWrite boss 3 { enabled := true }) mid).trigEntry 3 = { enabled := true } := by
  decide +kernel

/-! ## Stream routing and timed delivery -/

def packing : RouteEntry := { active := true, source := some 2, fwdAway := true, q := 512, packer := some { openEpoch := some 0, held := [9] } }
def routed (e : RouteEntry) : State := { mid with router := { table := [(7, e)] } }
theorem witness_BurstsAreGathered : ((routed packing).slot 2).lane = .up ∧ ((routed packing).route 7).packer =
    some { openEpoch := some 0, held := [9] } ∧ 0 + 4 ≤ ((routed packing).route 7).q ∧ (mid.route 7).active = false := by decide
/-- The root with port 1 a child port, and one packer, of tag 7, open in epoch 4. -/
def closing : State := { rootUp with
  slots := [(2, inUse)]
  router := { table := [(7, { packing with packer := some { openEpoch := some 4, held := [9], nextSeq := 1, sourceSeen := true } })] } }
theorem witness_BurstsAreGathered_quota : ((routed { packing with q := 2 }).route 7).q < 0 + [1, 2, 3, 4].length ∧
    ((routed { packing with packer := some {} }).route 7).packer.bind (·.openEpoch) = none := by decide
theorem witness_BurstsAreGathered_closes : closing.routed ∧ closing.rtu.rackTime.toNat / 2 ^ 49 ≠ closing.rtu.epoch ∧
    closing.topo.root = true ∧ closing.topo.rootward = none ∧ tsorted closing.router.table = true ∧
    (∀ j, j ≠ 7 → (closing.route j).packer = none) ∧ (closing.route 7).packer.bind (·.openEpoch) = some 4 ∧
    1 ≤ (closing.route 7).q / 256 ∧ closing.isChild .p1 = true ∧ (closing.port .p1).qStream.length < 128 :=
  ⟨calm_routed (but := 16) (by decide), by decide +kernel, by decide, by decide, by decide, fun j hj => by
    simp [State.route, tgetD, closing, tfind, Ne.symm hj], by decide, by decide, by decide, by decide⟩
theorem test_packer_closes : (after .epochBoundary closing).port1.qStream = [⟨7, 0, 4, 1, true, false, false, [9]⟩] := by decide +kernel
theorem test_burst_over_quota : ((after (.sampleBurst 2 7 [1, 2, 3, 4]) (routed { packing with q := 2 })).route 7).packer.map (·.held) =
    some [9, 1, 2] := by decide +kernel
theorem test_burst_gathered : ((after (.sampleBurst 2 7 [1, 2, 3, 4]) (routed packing)).route 7).packer.map (·.held) = some [9, 1, 2, 3, 4] := by
  decide +kernel
theorem test_burst_stray : ((after (.sampleBurst 2 7 [1, 2, 3, 4]) mid).slot 2).strayBursts = 1 := by decide +kernel
def passing : RouteEntry := { active := true, fwdAway := true, q := 512, tracker := some (0, 0) }
theorem witness_StreamParcelsAreChecked : (mid.port .p0).state = .up ∧ aParcel.payload.length ≤ 256 ∧ (mid.route 7).active = false ∧
    ((routed passing).route 7).active = true ∧ mid.topo.frameNumber = some { aParcel with source := 5 }.source ∧
    ((routed passing).route 7).q / 256 < { aParcel with seq := 3 }.seq ∧
    ({ routed passing with topo := { mid.topo with rootward := none } }).isTree .p0 = false := by decide
theorem test_stream_quota : ((after (.streamParcelReceived .p0 { aParcel with seq := 3 }) (routed passing)).route 7).quotaDrops = 1 := by
  decide +kernel
theorem witness_StreamParcelsAreForwarded : ((routed passing).route 7).tracker = some (aParcel.epoch, aParcel.seq) ∧
    (routed passing).topo.rootward = some .p0 ∧ (routed passing).isChild (PortId.p0).other = true ∧
    aParcel.seq ≤ ((routed passing).route 7).q / 256 := by decide
/-- Slots 1 to 3 as immediate sinks: one without credits, one with them, one EMPTY. -/
def sunk : State := { routed { passing with sinks := 14 } with slots := [(1, { inUse with available := 0 }), (2, inUse)] }
theorem witness_StreamParcelsAreForwarded_sinks : (sunk.route 7).sinks.getLsbD 1 = true ∧ (sunk.slot 1).state = .admitted ∧
    ¬((16 + aParcel.payload.length + 63) / 64 ≤ (sunk.slot 1).available) ∧
    (16 + aParcel.payload.length + 63) / 64 ≤ (sunk.slot 2).available ∧ (sunk.slot 3).state ≠ .admitted := by decide
theorem test_immediate_sinks : ((after (.streamParcelReceived .p0 aParcel) sunk).slot 1).immediateDrops = 1 ∧
    ((after (.streamParcelReceived .p0 aParcel) sunk).slot 2).committed = [.parcel aParcel] := by decide +kernel
theorem test_stream_forwarded : (after (.streamParcelReceived .p0 aParcel) (routed passing)).port1.qStream = [aParcel] ∧
    ((after (.streamParcelReceived .p0 aParcel) (routed passing)).route 7).tracker = some (1, 0) := by decide +kernel
/-- Tag 7 handed to binding 1, whose section 0 of epoch 0 is OPEN in blocks 4 to 6. -/
def binding1 : Binding := { enabled := true, base := 4, blocks := 1, sinks := 4, swap := .bytes16, sec0 := { state := .opened, epoch := some 0 } }
def bound : State := { routed { active := true, binding := some 1, q := 512 } with bindings := [(1, binding1)] }
theorem witness_ParcelsArePlaced : (bound.port .p0).state = .up ∧ (bound.route 7).binding = some 1 ∧ (bound.binding 1).enabled = true ∧
    aParcel.epoch % 65536 = bound.rtu.epoch % 65536 ∧ ((bound.binding 1).sec 0).state = .opened ∧
    tfind ((bound.binding 1).sec 0).received aParcel.seq = none := by decide
/-- Binding 1 after `aParcel` of an epoch arrives in epoch 40,000, its three sections as given. -/
def placing (pe : Nat) (x : Section) : Binding :=
  (after (.streamParcelReceived .p0 { aParcel with epoch := pe }) { bound with
    rtu := { bound.rtu with epoch := 40000 }, bindings := [(1, { binding1 with sec0 := x, sec1 := x, sec2 := x })] }).binding 1
theorem witness_ParcelsArePlaced_cases : (List.map (fun x : Nat × Section => ((40000 + 65536 - x.1) % 65536,
      (placing x.1 x.2).duplicate, (placing x.1 x.2).unopened, (placing x.1 x.2).late, (placing x.1 x.2).early))
    [(39999, { state := .opened }), (40000, { state := .opened, received := [(0, 1)] }), (39999, {}), (39998, {}), (7233, {}),
     (7232, {}), (40001, {})]) =
    [(1, 0, 0, 0, 0), (0, 1, 0, 0, 0), (1, 0, 1, 0, 0), (2, 0, 0, 1, 0), (32767, 0, 0, 1, 0), (32768, 0, 0, 0, 1),
     (65535, 0, 0, 0, 1)] := by decide +kernel
theorem test_epoch_before_placed : (placing 39999 { state := .opened }).sec0.received = [(0, 4)] := by decide +kernel
theorem test_parcel_placed : (List.range 5).map (fun k => poolRead (after (.streamParcelReceived .p0 aParcel) bound).pool (2048 + k)) =
    [1, 2, 3, 4, 0] := by decide +kernel
theorem test_section_complete : (aParcel.payload.length = 4) ∧
    ((({ state := .opened } : Section).place 512 aParcel).releaseStatus 512 = .complete) := by decide +kernel
/-- An ENABLED binding of one block whose section 1 is as given, as Rack Time reaches epoch 3: section 1 becomes
that of n - 2. -/
def releasing (x : Section) : State := { State.reset with
  rtu := { State.reset.rtu with epoch := 2, rackTime := BitVec.ofNat 88 (3 * 2 ^ 49) }
  bindings := [(1, { enabled := true, sec1 := x })] }
theorem witness_SectionStatusAtRelease : (List.map (fun x : Section => (((releasing x).binding 1).enabled,
      decide ((((releasing x).binding 1).sec ((3 + 1) % 3)).state = .opened),
      ((after .epochBoundary (releasing x)).binding 1).sec1.status))
    [{ state := .opened, absentSeen := true }, { state := .opened }, { state := .opened, received := [(0, 256)] },
     { state := .opened, received := [(1, 4)], last := some (1, 4) },
     { state := .opened, received := [(0, 4)], last := some (0, 4), cut := true },
     { state := .opened, received := [(0, 256), (1, 256), (3, 4)], last := some (3, 4) }, {}]) =
    [(true, true, .sourceAbsent), (true, true, .lost), (true, true, .incomplete), (true, true, .incomplete),
     (true, true, .truncated), (true, true, .complete), (true, false, .complete)] := by decide +kernel
theorem witness_SectionStatusAtRelease_settled : (releasing {}).settled ∧ (∀ tag, ((releasing {}).route tag).packer = none) :=
  ⟨calm_settled (by decide) (by decide), fun _ => rfl⟩
/-- The same with a step of 4 sixteenths pending. -/
def stepping : State := { releasing { state := .opened } with rtu := { (releasing {}).rtu with pendingStep := some 4 } }
theorem test_restart : ((after .epochBoundary stepping).binding 1).sec1.epoch = some 1 ∧
    ((after .epochBoundary stepping).binding 1).sec1.discontinuous = true := by decide +kernel
/-- R103: at the boundary from 2^39 - 1 to 0 the local packer's LAST finds the OPEN section of its epoch, of index 1. -/
def wrapping : State := { State.reset with
  rtu := { State.reset.rtu with epoch := 2 ^ 39 - 1, rackTime := 0 }
  router := { table := [(7, { active := true, source := some 2, binding := some 1, q := 512
                              packer := some { openEpoch := some (2 ^ 39 - 1), sourceSeen := true } })] }
  bindings := [(1, { enabled := true, sec0 := { state := .opened }, sec1 := { state := .opened }, sec2 := { state := .released } })] }
theorem test_wrap_places_last : ((after .epochBoundary wrapping).binding 1).unopened = 0 ∧
    (after .epochBoundary wrapping).rtu.epoch = 0 ∧ ((after .epochBoundary wrapping).route 7).inCount = 1 := by decide +kernel
/-- The same with slot 2 in its Sink Set. -/
def sinking (st : SlotState) : State := { releasing {} with
  slots := [(2, { inUse with state := st })]
  bindings := [(1, { enabled := true, sinks := 4, sec1 := { state := .opened, received := [(0, 256), (1, 4)], last := some (1, 4) } })] }
theorem witness_SectionStatusAtRelease_sinks : ((sinking .admitted).binding 1).sinks.getLsbD 2 = true ∧
    ((sinking .parked).binding 1).sinks = BitVec.ofNat 16 (2 ^ 2) ∧ ((sinking .parked).slot 2).state = .parked ∧
    stepping.rtu.pendingStep ≠ none := by decide
theorem test_delivery_begins : ((after .epochBoundary (sinking .admitted)).slot 2).delivery = [⟨1, 1, 0⟩] ∧
    (((after .epochBoundary (sinking .admitted)).binding 1).sec 1).length = 260 := by decide +kernel
/-- R110, the table: a b c d under the four swaps, with a trailing byte unswapped. -/
theorem test_swaps : Swap.bytes16.apply [1, 2, 3, 4, 5] = [2, 1, 4, 3, 5] ∧ Swap.halves32.apply [1, 2, 3, 4, 5] = [3, 4, 1, 2, 5] ∧
    Swap.bytes32.apply [1, 2, 3, 4, 5] = [4, 3, 2, 1, 5] := by decide
/-- A released section of 4 bytes to deliver to slot 2. -/
def delivering : State :=
  { mid with
    bindings := [(1, { binding1 with sec0 := { state := .released, epoch := some 0, received := [(0, 4)], length := 4 } })]
    pool := [(2048, 1), (2049, 2), (2050, 3), (2051, 4)]
    slots := [(2, { inUse with delivery := [⟨1, 0, 0⟩] })] }
/-- Slot 2's list still holds the section of index 0, which the boundary into 3 reuses; the section of index 1 has no LAST. -/
def overrunning : State := { sinking .admitted with
  slots := [(2, { inUse with delivery := [⟨1, 0, 256⟩] })]
  bindings := [(1, { enabled := true, sinks := 4, sec0 := { state := .released, epoch := some 0, length := 900 }
                     sec1 := { state := .opened, received := [(0, 256)] } })] }
theorem witness_SectionStatusAtRelease_overruns : overrunning.settled ∧
    (overrunning.slot 2).delivery.any (fun e => e.binding == 1 && e.sec == 3 % 3) = true ∧
    (List.range 64).all (fun j => j == 1 || !(overrunning.binding j).enabled) = true :=
  ⟨calm_settled (by decide) (by decide), by decide +kernel⟩
theorem test_overrun : ((after .epochBoundary overrunning).binding 1).overrun = 1 ∧
    ((after .epochBoundary overrunning).slot 2).delivery = [⟨1, 1, 0⟩] ∧
    ((after .epochBoundary overrunning).event EventKind.sectionFault.code).count = 2 ∧
    ((after .epochBoundary { overrunning with rtu := stepping.rtu }).binding 1).overrun = 0 ∧
    ((after .epochBoundary { overrunning with rtu := stepping.rtu }).event EventKind.sectionFault.code).count = 0 := by
  decide +kernel
theorem witness_SwapsRearrangeGroups : (delivering.slot (2 : Fin 16)).state = .admitted ∧ (delivering.slot (2 : Fin 16)).lane = .up ∧
    5 ≤ (delivering.slot (2 : Fin 16)).available ∧ (delivering.slot (2 : Fin 16)).delivery = ⟨1, 0, 0⟩ :: [] ∧
    (List.replicate 256 (0 : Byte)).length % 256 = 0 := by decide +kernel
theorem witness_SegmentsAreSent_waits : (withSlot { inUse with delivery := [⟨1, 0, 0⟩], available := 0 }).slot 2 =
    { inUse with delivery := [⟨1, 0, 0⟩], available := 0 } := by decide
theorem test_segment_sent : ((after (.sectionSegmentSend 2) delivering).slot 2).available = 7 ∧
    ((after (.sectionSegmentSend 2) delivering).slot 2).delivery = [] := by decide +kernel
theorem test_segment_swapped : ((after (.sectionSegmentSend 2) delivering).slot 2).committed.map
    (fun m => match m with | .sectionMsg x => x.data | _ => []) = [[2, 1, 4, 3]] := by decide +kernel
theorem witness_RoutesAreWritten : mid.obeys boss = true ∧ mid.accepts boss.frame = true ∧
    ({ low := 5, high := 9 } : Guard).covers 7 = true ∧ mid.router.guard.covers 7 = false ∧
    ({ locked := true } : Guard).locked = true := by decide
/-- Tag 9 ACTIVE with binding 1. -/
def naming : State := { mid with router := { table := [(9, { active := true, binding := some 1 })] } }
theorem witness_RoutesAreWritten_inUse : (naming.route 9).active = true ∧ (naming.route 9).binding = some 1 ∧ naming.router.guard.covers 7 = false := by
  decide
theorem test_route_in_use : (after (.routeTableWrite boss 7 [⟨1, none, true, false, 0, some 1, 300⟩]) naming).port0.qCompletion =
    [⟨boss, Status.inUse.code, 31, []⟩] := by decide +kernel
theorem test_route_written : ((after (.routeTableWrite boss 7 [⟨0, none, true, false, 0, none, 300⟩]) mid).route 7).q = 300 := by
  decide +kernel
theorem test_route_guarded : (after (.routeTableWrite boss 7 [⟨0, none, true, false, 0, none, 300⟩])
    { mid with router := { guard := { low := 5, high := 9 } } }).port0.qCompletion = [⟨boss, Status.writeProtected.code, 31, []⟩] := by
  decide +kernel
/-- Tag 7 ACTIVE from slot 2 with a packer at work. -/
def packingOn : State := { mid with router := { table := [(7, packing), (9, { active := true, binding := some 1 })] } }
theorem witness_RoutesAreWritten_active : packingOn.router.guard.covers 7 = false ∧ (packingOn.route 7).source = some 2 ∧
    (packingOn.route 7).packer.isSome = true ∧ (∀ x ∈ packingOn.router.table, x.1 ≠ 7 → x.2.active = true → x.2.binding ≠ some 63) ∧
    (packingOn.router.port .p0).committed + (300 + 20 * (300 / 256 + 1)) ≤ (if (packingOn.port .p0).rate = .fast then 786432 else 196608) ∧
    (packingOn.router.port .p1).committed + (300 + 20 * (300 / 256 + 1)) ≤ (if (packingOn.port .p1).rate = .fast then 786432 else 196608) ∧
    (mid.route 7).packer = none ∧ 15 < 16 ∧ 63 < 64 := by decide +kernel
theorem test_packer_runs_on :
    ((after (.routeTableWrite boss 7 [⟨1, some 2, true, true, 0, some 63, 300⟩]) packingOn).route 7).packer = packing.packer ∧
    ((after (.routeTableWrite boss 7 [⟨1, some 3, true, true, 0, none, 300⟩]) packingOn).route 7).packer = some {} ∧
    ((after (.routeTableWrite boss 7 [⟨1, none, true, true, 0, none, 300⟩]) packingOn).route 7).packer = none ∧
    ((after (.routeTableWrite boss 7 [⟨1, some 15, false, false, 0, none, 1⟩]) mid).route 7).packer = some {} := by decide +kernel
theorem test_route_ranges :
    (after (.routeTableWrite boss 7 [⟨1, some 16, false, false, 0, none, 1⟩]) mid).port0.qCompletion.map (·.status) =
      [Status.badRequest.code] ∧
    (after (.routeTableWrite boss 7 [⟨0, none, false, false, 0, some 64, 1⟩]) mid).port0.qCompletion.map (·.status) =
      [Status.badRequest.code] := by decide +kernel
theorem witness_BandwidthIsCommitted : ({ mid with port1 := {} }).topo.rootward = some .p0 ∧
    ({ mid with port1 := {} }).isChild (PortId.p0).other = false ∧ mid.router.guard.covers 7 = false ∧ (mid.route 7).active = false ∧
    196608 < ({ committed := 196600 } : RouterPort).committed + (8000 + 20 * (8000 / 256 + 1)) := by decide
/-- 5.4, the example: a stream of Q 8,000 commits 8,640 bytes. -/
theorem test_bandwidth : (after (.routeTableWrite boss 7 [⟨1, none, true, false, 0, none, 8000⟩]) mid).router.port0.committed = 8640 := by
  decide +kernel
theorem witness_BindingsAreWritten : mid.obeys boss = true ∧ (bound.binding 1).enabled = true ∧ (mid.binding 1).enabled = false ∧
    1024 < 1023 + 3 * 1 ∧ Swap.ofCode 2 = some .halves32 := by decide
/-- Binding 1 ENABLED over blocks 9 to 14, with a section on the way to slot 2 and its messages committed there. -/
def disabling : State := { mid with
  bindings := [(1, { enabled := true, base := 9, blocks := 2, overrun := 3 })]
  slots := [(2, { inUse with
    delivery := [⟨1, 0, 256⟩, ⟨5, 0, 0⟩], available := 5
    committed := [.sectionMsg ⟨1, none, 0, 0, false, false, 512, 0, false, []⟩, .parcel aParcel,
      .sectionMsg ⟨1, none, 0, 0, false, false, 512, 256, true, []⟩] })] }
theorem witness_BindingsAreWritten_overlap : (disabling.binding 1).enabled = true ∧ (disabling.binding 2).enabled = false ∧
    14 < (disabling.binding 1).base + 3 * (disabling.binding 1).blocks ∧ (disabling.binding 1).base < 14 + 3 * 1 ∧
    (disabling.binding 1).base + 3 * (disabling.binding 1).blocks ≤ 15 ∧ 6 + 3 * 1 ≤ (disabling.binding 1).base ∧
    (disabling.binding 1).base < 7 + 3 * 1 ∧ disabling.obeys boss = true ∧ disabling.accepts boss.frame = true := by decide +kernel
theorem test_overlap_edges : let answer := fun base =>
      (after (.bindingWrite boss 2 [⟨1, base, 1, 0, 0⟩]) disabling).port0.qCompletion.map (·.status)
    answer 6 = [Status.ok.code] ∧ answer 7 = [Status.overlap.code] ∧ answer 14 = [Status.overlap.code] ∧
      answer 15 = [Status.ok.code] := by decide +kernel
theorem test_binding_disabled : let t := after (.bindingWrite boss 1 [⟨0, 9, 2, 0, 0⟩]) disabling
    (t.slot 2).delivery = [⟨5, 0, 0⟩] ∧ (t.slot 2).committed.length = 2 ∧ (t.slot 2).available = 6 ∧
      t.binding 1 = { base := 9, blocks := 2, overrun := 3 } := by decide +kernel
theorem test_binding_written : ((after (.bindingWrite boss 1 [⟨1, 9, 2, 4, 2⟩]) mid).binding 1).base = 9 := by decide +kernel

/-! ## Slots -/

/-- A slot in POWERING with its lane in TRAINING. -/
def training : Slot := { state := .powering, presence := true, powerEnable := true, powerGood := true, lane := .training, timer := some ⟨.power, 0⟩ }
theorem witness_SlotsAreBroughtUp : (mid.slot (1 : Fin 16)).state = .empty ∧ (mid.slot (1 : Fin 16)).presence = false ∧
    ((withSlot { presence := true, timer := some ⟨.debounce, 0⟩ }).slot 2).timer.map (·.kind) = some .debounce ∧
    ((withSlot { training with lane := .off }).slot 2).lane = .off ∧ (withSlot training).slot 2 = training ∧
    ((withSlot { training with handleOpen := true }).slot 2).handleOpen = true := by decide
theorem witness_SlotsAreBroughtUp_dormant : ((withSlot { inUse with state := .parked, lane := .dormant }).slot 2).lane = .dormant ∧
    ((withSlot { training with lastCause := .laneLost }).slot 2).lastCause = .laneLost := by decide
theorem test_lane_lost_stays : ((after (.laneAdvertisement 2 9) (withSlot { training with lastCause := .laneLost })).slot 2).lastCause = .laneLost := by
  decide +kernel
theorem witness_SlotsAreBroughtUp_settled : (withSlot training).settled := calm_settled (by decide) (by decide)
theorem test_presence_debounces : ((after (.presenceAssert 1) mid).slot 1).timer = some ⟨.debounce, 0⟩ := by decide +kernel
theorem test_debounce_auto : ((after (.debounceExpiry 2) (withSlot { presence := true, timer := some ⟨.debounce, 0⟩ })).slot 2).state = .powering := by
  decide +kernel
theorem test_debounce_managed :
    ((after (.debounceExpiry 2) (withSlot { auto := false, presence := true, timer := some ⟨.debounce, 0⟩ })).slot 2).state = .inserted := by
  decide +kernel
theorem test_power_good : ((after (.powerGood 2) (withSlot { training with lane := .off, powerGood := false })).slot 2).lane = .training := by
  decide +kernel
theorem test_power_timeout : ((after (.powerTimeout 2) (withSlot training)).slot 2).state = .faulted := by decide +kernel
theorem test_lane_admits : ((after (.laneAdvertisement 2 9) (withSlot training)).slot 2).available = 9 ∧
    ((after (.laneAdvertisement 2 9) (withSlot training)).slot 2).state = .admitted := by decide +kernel
theorem test_lane_zero : ((after (.laneAdvertisement 2 0) (withSlot training)).slot 2).state = .powering := by decide +kernel
theorem witness_HandlesAndRemovalsAct : (withSlot training).settled ∧ ((withSlot { state := .inserted }).slot 2).state = .inserted ∧
    ((withSlot { state := .quiesced }).slot 2).state = .quiesced ∧ ((withSlot { state := .faulted }).slot 2).state = .faulted ∧
    ((withSlot training).slot 2).powerGood = true ∧ (mid.slot 2).state = .admitted :=
  ⟨calm_settled (by decide) (by decide), by decide⟩
theorem test_withdrawn : ((after (.presenceLost 2) (withSlot { state := .inserted, presence := true })).slot 2).counters.withdrawn = 1 := by
  decide +kernel
theorem test_handle_extracts : ((after (.handleOpen 2) mid).slot 2).state = .extracting ∧
    ((after (.handleOpen 2) mid).slot 2).drain = some ⟨false, true, true, true⟩ := by decide +kernel
/-- Three messages committed to a lane, the second and third not begun. -/
def committed3 : List LaneMsg := [.parcel aParcel, .parcel aParcel, .completion 6 0 []]
theorem witness_HandlesAndRemovalsAct_lane : (∀ m ∈ ((withSlot inUse).slot 2).committed.drop 1, isDelivery m = false) ∧
    ((withSlot { inUse with committed := committed3 }).slot 2).committed = committed3 := by decide
theorem test_handle_unsends : ((after (.handleOpen 2) (withSlot { inUse with committed := committed3 })).slot 2).committed =
    [.parcel aParcel, .completion 6 0 []] := by decide +kernel
theorem test_handle_closes : ((after (.handleClose 2) (withSlot { state := .quiesced, handleOpen := true })).slot 2).state = .powering := by
  decide +kernel
/-- A slot in EXTRACTING whose boundary event has passed. -/
def leaving : Slot :=
  { inUse with state := .extracting, timer := some ⟨.drain, 0⟩, drain := some ⟨true, true, false, true⟩ }
theorem witness_DeparturesAreCleanedUp : (mid.slot 2).state = .admitted ∧ (mid.slot 2).lane = .up ∧ (mid.slot 2).drain = none ∧
    ((withSlot leaving).slot 2).state = .extracting ∧ ((withSlot leaving).slot 2).timer.map (·.kind) = some .drain ∧
    mid.obeys boss = true ∧ mid.accepts boss.frame = true ∧ (∀ x ∈ mid.trans.inbound, x.2.slot ≠ 2) ∧ (mid.lock 2).holder = none ∧
    ({ mid with trans := { locks := [(2, { holder := some (0, 0) })] } }.lock 2).holder ≠ none := by decide
theorem witness_DeparturesAreCleanedUp_drains : (withSlot leaving).routed ∧ ∀ j, j ≠ 2 → ((withSlot leaving).slot j).drain = none :=
  ⟨calm_routed (but := 2) (by decide), calm_drains (but := 2) (by decide)⟩
/-- `mid` with a READ of slot 2 from frame 7 at its module, and one of the slot's own entries. -/
def busySlot : State :=
  { withEntry sentRead with trans := { ott := [(4, sentRead)], inbound := [(0,
      { who := ⟨7, 3, 1⟩, slot := 2, op := .read, address := 64, length := 4, data := [], source := .port .p1, deadline := 100
        state := .atModule, answer := none, order := 0 })] } }
theorem test_surprise_removal : (after (.presenceLost 2) busySlot).trans.ott = [] ∧
    (after (.presenceLost 2) busySlot).port1.qCompletion = [⟨⟨7, 3, 1⟩, Status.noTarget.code, 31, []⟩] := by decide +kernel
theorem test_lane_lost : (after (.laneLost 2) busySlot).port1.qCompletion = [⟨⟨7, 3, 1⟩, Status.targetReset.code, 31, []⟩] ∧
    ((after (.laneLost 2) busySlot).slot 2).state = .powering := by decide +kernel
theorem witness_DeparturesAreCleanedUp_answers : (busySlot.inEntry 0).map (fun e => (e.slot, e.state, e.source)) =
    some (2, .atModule, .port .p1) ∧ busySlot.routeTo 7 = some (.port .p1) ∧
    ∀ p ∈ PortId.all, (busySlot.port p).qCompletion.length + busySlot.trans.inbound.length < 16 := by decide
theorem test_slot_reset_answers : (after (.slotReset boss 2) busySlot).port1.qCompletion =
    [⟨⟨7, 3, 1⟩, Status.targetReset.code, 31, []⟩] ∧
    (after (.park boss 2) busySlot).port1.qCompletion = [⟨⟨7, 3, 1⟩, Status.noTarget.code, 31, []⟩] := by decide +kernel
theorem test_power_fault : ((after (.powerGoodLost 2) mid).slot 2).state = .faulted := by decide +kernel
theorem test_drain_limit : ((after (.drainLimit 2) (withSlot leaving)).slot 2).state = .quiesced := by decide +kernel
theorem test_slot_reset : ((after (.slotReset boss 2) mid).slot 2).lastCause = .slotReset := by decide +kernel
theorem test_park : ((after (.park boss 2) mid).slot 2).lane = .dormant := by decide +kernel
theorem witness_SlotCommandsAct : mid.settled ∧ mid.obeys boss = true ∧ mid.accepts boss.frame = true ∧ (mid.slot 2).timer = none ∧
    ((withSlot { training with timer := some ⟨.power, 0⟩ }).slot 2).timer = some ⟨.power, 0⟩ ∧
    0 + 10 * Config.cyclesPerMs ≤ { withSlot training with localTime := 1250000 }.localTime ∧
    ((withSlot { state := .parked, lane := .dormant }).slot 2).state = .parked :=
  ⟨mid_settled, by decide +kernel⟩
theorem witness_SlotCommandsAct_refused : (withSlot { state := .faulted }).settled ∧ ((withSlot { state := .faulted }).slot 2).state = .faulted ∧
    (withSlot { state := .parked, lane := .dormant }).settled :=
  ⟨calm_settled (by decide) (by decide), by decide, calm_settled (by decide) (by decide)⟩
theorem test_slot_reset_refused :
    (after (.slotReset boss 2) (withSlot { state := .parked, lane := .dormant })).port0.qCompletion.map (·.status) = [Status.badRequest.code] ∧
    (after (.park boss 2) (withSlot { state := .parked, lane := .dormant })).port0.qCompletion.map (·.status) = [Status.ok.code] := by
  decide +kernel
theorem test_settings_written : ((after (.slotSettingsWrite boss 2 ⟨1, 500, 70, true⟩) mid).slot 2).powerTimeout = 500 := by decide +kernel
theorem test_settings_expire : ((after (.slotSettingsWrite boss 2 ⟨0, 10, 70, true⟩) { withSlot training with localTime := 1250000 }).slot 2).state =
    .faulted := by decide +kernel
theorem test_admit : ((after (.admitSlot boss 2) (withSlot { state := .quiesced })).slot 2).lastCause = .readmitted := by decide +kernel
theorem test_eject : ((after (.eject boss 2) mid).slot 2).lastCause = .eject := by decide +kernel
theorem test_unpark : ((after (.unpark boss 2) (withSlot { state := .parked, lane := .dormant })).slot 2).state = .powering := by decide +kernel
theorem test_clear : ((after (.clear boss 2) (withSlot { state := .faulted, auto := false })).slot 2).state = .inserted := by decide +kernel
theorem test_clear_refused : (after (.clear boss 2) mid).port0.qCompletion = [⟨boss, Status.badRequest.code, 31, []⟩] := by decide +kernel
/-- The inbound READ of `busySlot`, not sent yet. -/
def waitingRead : List (Nat × InEntry) := busySlot.trans.inbound.map (fun (e : Nat × InEntry) => (e.1, { e.2 with state := .waiting }))
/-- An answered entry of slot 2. -/
def answeredRead : OttEntry := { sentRead with state := .answered, via := none, answer := some ⟨.ok, [1, 2, 3, 4]⟩ }
theorem witness_LanesCarryMessages : mid.settled ∧ (mid.slot (2 : Fin 16)).lane = .up ∧ ModuleMsg.decode [] = none ∧
    (withEntry answeredRead).oldestAnswer 2 = some (4, answeredRead) ∧
    (16 + [1, 2, 3, 4].length + 63) / 64 ≤ ((withEntry answeredRead).slot 2).available ∧
    ({ mid with trans := { inbound := waitingRead } }.firstWaiting 2).isSome :=
  ⟨mid_settled, by decide +kernel⟩
theorem witness_LanesCarryMessages_settled : (withEntry answeredRead).settled := calm_settled (by decide) (by decide)
theorem test_credits_clamped : ((after (.laneCreditReturn 2 3) (withSlot { inUse with available := 7 })).slot 2).available = 8 ∧
    ((after (.laneCreditReturn 2 3) (withSlot { inUse with available := 7 })).slot 2).counters.creditExcess = 2 := by decide +kernel
theorem test_lane_error : ((after (.undefinedLaneMessage 2 (List.replicate 16 0xEE)) mid).slot 2).counters.laneErrors = 1 := by decide +kernel
theorem test_completion_sent : ((after (.completionLaneSend 2) (withEntry answeredRead)).slot 2).committed =
    [.completion 6 0 [1, 2, 3, 4]] := by decide +kernel
theorem test_inbound_sent : ((after (.inboundSend 2)
    { mid with trans := { inbound := waitingRead } }).slot 2).committed =
    [.inbound 0 7 3 false 4 64 []] := by decide +kernel

/-! ## Transactions -/

/-- A READ of slot 3 in frame 7, direct, and by window 1. -/
def aRead : LaneRequest := ⟨6, false, false, .read, 4, 7, 3, 64, none, []⟩
def byWindow : LaneRequest := { aRead with windowed := true, dest := 1 }
def windowed : State := { mid with trans := { windows := [(1, { enabled := true, frame := 7, target := 3, base := 4096, readOnly := true })] } }
theorem witness_RequestsAreIssued : mid.findOtt (2 : Fin 16) aRead.tag = none ∧ mid.heldBy (2 : Fin 16) < 8 ∧ mid.trans.ott.length ≤ 11 ∧
    (mid.slot (2 : Fin 16)).waiting = [] ∧ mid.topo.frameNumber = some 5 ∧ mid.routeTo 7 = some (.port .p1) ∧ mid.isUp .p1 = true ∧
    (mid.port .p1).qRequest.length < 16 ∧ (windowed.window 1).enabled = true ∧ byWindow.address + 4 ≤ (windowed.window 1).size ∧
    (mid.window 1).enabled = false ∧ (windowed.window 1).readOnly = true := by decide
theorem witness_RequestsAreIssued_turn : mid.trans.granted = [] ∧ mid.requestWaiting .p1 = false := by decide
theorem witness_RequestsAreIssued_unnumbered :
    ({ mid with topo := {} }).topo.frameNumber = none ∧ ({ mid with topo := {} }).settled := ⟨rfl, calm_settled (by decide) (by decide)⟩
/-- A request to this frame's CONTROLLER, and one to its slot 2. -/
theorem witness_RequestsAreIssued_here : mid.routeTo 5 = some .here ∧ { aRead with dest := 5, target := 31 }.target = controllerTarget ∧
    { aRead with dest := 5, target := 2 }.target ≠ controllerTarget ∧ byWindow.target ≠ controllerTarget := by decide
theorem test_request_here : ((after (.slotRequestTaken 2 (some { aRead with dest := 5, target := 2 })) mid).inEntry 0).isSome = true ∧
    ((after (.slotRequestTaken 2 (some { aRead with dest := 5, target := 2 })) mid).slot 2) = mid.slot 2 := by decide +kernel
theorem test_request_sent : (after (.slotRequestTaken 2 (some aRead)) mid).port1.qRequest = [⟨⟨5, 2, 6⟩, 7, 3, .read, 31, 64, 4, none, []⟩] := by
  decide +kernel
theorem test_window_sent : (after (.slotRequestTaken 2 (some byWindow)) windowed).port1.qRequest =
    [⟨⟨5, 2, 6⟩, 7, 3, .read, 31, 4160, 4, none, []⟩] := by decide +kernel
theorem test_window_protects : ((after (.slotRequestTaken 2 (some { byWindow with op := .write, data := [1, 2, 3, 4] })) windowed).ottEntry 0).bind (·.answer) =
    some ⟨.writeProtected, []⟩ := by decide +kernel
/-- `delivering` without credits, with the given answers of slot 2, requests waiting in its lane and inbound requests. -/
def laneWork (own : List (Nat × OttEntry)) (w : List WaitingRequest) (inb : List (Nat × InEntry)) : State := { delivering with
  slots := [(2, { inUse with available := 0, waiting := w, delivery := [⟨1, 0, 0⟩] })]
  trans := { delivering.trans with ott := own, inbound := inb } }
/-- An answered entry whose completion costs two credits. -/
def longAnswer : OttEntry := { answeredRead with length := 60, answer := some ⟨.ok, List.replicate 60 7⟩ }
/-- What slot 2's lane has committed once `n` credits come back. -/
def committedBy (n : Nat) (s : State) : List LaneMsg := ((after (.laneCreditReturn 2 n) s).slot 2).committed
/-- Lane work of each kind, each in a settled state with the lane UP and a refused duplicate tag at its head or not. -/
theorem witness_LanesCarryMessages_work : (laneWork [(4, answeredRead)] [⟨aRead, true⟩] waitingRead).settled ∧
    ((laneWork [] [⟨aRead, true⟩] waitingRead).slot 2).waiting = ⟨aRead, true⟩ :: [] ∧
    (laneWork [] [⟨aRead, true⟩] waitingRead).oldestAnswer 2 = none ∧
    (laneWork [(4, longAnswer)] [] waitingRead).oldestAnswer 2 = some (4, longAnswer) ∧
    1 < (16 + 60 + 63) / 64 ∧ (16 + 60 + 63) / 64 ≤ inUse.advertised ∧
    ((laneWork [] [] waitingRead).firstWaiting 2).map (fun x => x.2.cost) = some 1 ∧
    ((laneWork [] [] []).slot 2).delivery = ⟨1, 0, 0⟩ :: [] ∧ ((laneWork [] [] []).slot 2).state = .admitted ∧
    ((withSlot { inUse with waiting := [⟨aRead, true⟩], available := 1 }).slot 2).lane = .up :=
  ⟨calm_settled (by decide) (by decide), by decide +kernel⟩
/-- R125: one credit goes to the answer, then to the refusal, to the inbound READ and to the section; one too few for
the answer goes past it. -/
theorem test_lane_order : committedBy 1 (laneWork [(4, answeredRead)] [⟨aRead, true⟩] waitingRead) = [.completion 6 0 [1, 2, 3, 4]] ∧
    committedBy 1 (laneWork [] [⟨aRead, true⟩] waitingRead) = [.completion 6 Status.badRequest.code []] ∧
    committedBy 1 (laneWork [] [] waitingRead) = [.inbound 0 7 3 false 4 64 []] ∧
    committedBy 1 (laneWork [(4, longAnswer)] [⟨aRead, true⟩] waitingRead) = [.inbound 0 7 3 false 4 64 []] ∧
    (committedBy 1 (laneWork [] [] [])).map (fun m => match m with | .sectionMsg x => x.data | _ => []) = [[2, 1, 4, 3]] := by
  decide +kernel
theorem test_refusal_sent : after (.completionLaneSend 2) (withSlot { inUse with waiting := [⟨aRead, true⟩], available := 1 }) =
    { withSlot { inUse with available := 0, committed := [.completion 6 Status.badRequest.code []] } with
      trans := { mid.trans with refusedAtIssue := 1 } } := by decide +kernel
/-- `mid` with the inbound list full for slot 2, and with slot 2 locked. -/
def fullList : State := { mid with trans := { inbound := (List.range 4).map (fun h => (h, { busySlot.trans.inbound.head!.2 with order := h })) } }
def locked : State := { mid with trans := { locks := [(2, { holder := some (0, 4), expiry := 100 })] } }
/-- A READ of slot 2 here from frame 7, and one of slot 2 in frame 0 that passes through. -/
def toSlot : Request := ⟨⟨7, 3, 1⟩, 5, 2, .read, 20, 64, 4, none, []⟩
theorem witness_RequestsGoOnOrAreServed : (mid.port .p1).state = .up ∧ (mid.port .p1).heldRequests.length < 8 ∧ aRequest.dest ≠ nextCode ∧
    mid.routeTo aRequest.dest = some (.port .p0) ∧ aRequest.hop ≠ 0 ∧ mid.routeTo 7 = some (.port .p1) ∧
    mid.accepts aRequest.who.frame = true ∧ mid.routeTo toSlot.dest = some .here ∧ (mid.slot 2).state = .admitted ∧
    (mid.slot 3).state ≠ .admitted ∧ 4 ≤ fullList.inboundCount 2 ∧ tfree mid.trans.inbound 16 = some 0 ∧ (mid.lock 2).holder = none ∧
    (locked.lock 2).holder = some (0, 4) := by decide +kernel
/-- `mid` with a QUEUED entry, and with a held request, that wait for port 1 and port 0. -/
def queuedEntry : OttEntry := { sentRead with state := .queued }
def holding : State := { mid with port1 := { upPort 7 true with heldRequests := [⟨3, aRequest⟩] } }
theorem witness_RequestsGoOnOrAreServed_room : (withEntry queuedEntry).oldestHeldOut .p1 = none ∧
    (withEntry queuedEntry).oldestQueued .p1 = some (4, queuedEntry) ∧ holding.oldestHeldOut .p0 = some (.p1, ⟨3, aRequest⟩) ∧
    (holding.port .p0).reqTookHeld = false := by decide +kernel
/-- A READ to NEXT from the root, and an unlock of slot 2 by frame 7. -/
def toNext : Request := ⟨⟨0, 3, 1⟩, nextCode, 31, .read, 20, 0, 32, some ⟨none, 0⟩, []⟩
def unlock : Request := { toSlot with op := .writeUnlock }
def owned : State := { mid with trans := { locks := [(2, { holder := some (7, 3), expiry := 100 })] } }
theorem witness_RequestsGoOnOrAreServed_answers : mid.takes 7 = true ∧ mid.takes 0 = true ∧ mid.requestWaiting .p0 = false ∧
    (holding.port .p1).heldRequests.length < 8 ∧ holding.requestWaiting .p0 = true ∧ toNext.target = controllerTarget ∧
    mid.isChild .p1 = true ∧ mid.isChild PortId.p1.other = false ∧ mid.topo.root = false ∧
    ({ mid with port1 := {} }).isChild .p1 = false ∧ (owned.lock 2).holder = some (7, 3) ∧ (owned.lock 2).releasing = false := by
  decide +kernel
theorem test_next_forwarded : (after (.requestReceived .p0 toNext) mid).port1.qRequest = [{ toNext with hop := 19 }] := by decide +kernel
theorem test_request_waits_its_turn : (after (.requestReceived .p1 aRequest) holding).port0.qRequest = [] := by decide +kernel
theorem test_unlock_joins : (after (.requestReceived .p1 unlock) owned).lock 2 =
    { holder := some (7, 3), expiry := 0, releasing := true, unlockHandle := some 0 } := by decide +kernel
theorem test_unlock_lost : (after (.requestReceived .p1 unlock) mid).port1.qCompletion = [⟨⟨7, 3, 1⟩, Status.lockLost.code, 31, []⟩] := by
  decide +kernel
theorem test_request_forwarded : (after (.requestReceived .p1 aRequest) mid).port0.qRequest = [{ aRequest with hop := 19 }] := by decide +kernel
theorem test_request_listed : ((after (.requestReceived .p1 { toSlot with op := .readLock }) mid).lock 2).holder = some (7, 3) := by decide +kernel
theorem test_queued_sent : ((after (.transactionQueueTake .p1 .request) (withEntry queuedEntry)).ottEntry 4).map (·.state) = some .sent := by
  decide +kernel
theorem test_held_sent : (after (.transactionQueueTake .p0 .request) holding).port1.heldRequests = [] ∧
    (after (.transactionQueueTake .p0 .request) holding).port0.qRequest = [{ aRequest with hop := 19 }] := by decide +kernel
/-- The completion of the READ that slot 2 sent. -/
def readDone : Completion := ⟨⟨5, 2, 6⟩, 0, 29, [1, 2, 3, 4]⟩
theorem witness_CompletionsReachTheirEntries : (withEntry sentRead).settled ∧ (withEntry sentRead).topo.frameNumber = some readDone.who.frame ∧
    (withEntry sentRead).findOtt 2 6 = some 4 ∧ (withEntry sentRead).ottEntry 4 = some sentRead ∧ sentRead.retry = true ∧
    mid.findOtt 2 6 = none ∧ mid.topo.frameNumber ≠ some 7 ∧ mid.routeTo 7 = some (.port .p1) ∧ mid.accepts 7 = true ∧
    mid.routeTo 0 = some (.port .p0) ∧ (withEntry { sentRead with state := .backoff }).routeTo 7 = some (.port .p1) ∧
    { sentRead with retries := 0 }.retries = 0 := ⟨calm_settled (by decide) (by decide), by decide +kernel⟩
/-- A deadline of 900 is reached at 900, and not at 899. -/
theorem witness_CompletionsReachTheirEntries_due : { withEntry sentRead with localTime := 900 }.settled ∧
    { withEntry sentRead with localTime := 899 }.settled ∧ { withEntry sentRead with localTime := 900 }.ottEntry 4 = some sentRead ∧
    899 < sentRead.deadline ∧ sentRead.deadline ≤ 900 :=
  ⟨calm_settled (by decide) (by decide), calm_settled (by decide) (by decide), by decide +kernel⟩
/-- `mid` with an answer to frame 7 that waits for port 1. -/
def answering : State := { mid with trans := { inbound := busySlot.trans.inbound.map (fun (e : Nat × InEntry) =>
  (e.1, { e.2 with state := .answering, answer := some ⟨.ok, [1, 2, 3, 4]⟩ })) } }
theorem witness_CompletionsReachTheirEntries_room : answering.heldFor .p1 = [] ∧ (answering.oldestInboundAnswer .p1).isSome = true ∧
    (answering.inEntry 0).bind (·.answer) = some ⟨.ok, [1, 2, 3, 4]⟩ ∧ answering.accepts 7 = true := by decide +kernel
/-- R141: a full table, the slots 2 and 4 waiting, slot 2 having taken the last freed entry; an entry of slot 3
answered. -/
def fullTable : State := { mid with
  slots := [(2, { inUse with waiting := [⟨aRead, false⟩] }), (3, inUse), (4, { inUse with waiting := [⟨{ aRead with tag := 9 }, false⟩] })]
  trans := {
    ott := (List.range 32).map (fun k => (k, if k = 0 then { sentRead with id := 3, state := .answered, answer := some ⟨.ok, []⟩ }
      else { sentRead with id := 3 + k / 8 * 2, tag := k }))
    lastTaken := some 2 } }
theorem test_freed_entry_is_given : (after (.completionLaneSend 3) fullTable).trans.granted = [4] ∧
    (after (.slotRequestTaken 2 none) (after (.completionLaneSend 3) fullTable)).trans.ott.length = 31 := by decide +kernel
/-- R141: the entries that a controller reset's ABORTED answers free, here channel 0's two, go to slots 2 and 4. -/
theorem test_reset_gives_entries : let t := after (.controllerReset boss) { fullTable with trans := { fullTable.trans with
      ott := fullTable.trans.ott.map (fun e => if e.1 < 2 then (e.1, { e.2 with id := 16, tag := e.1, state := .sent, answer := none }) else e) } }
    t.trans.granted = [2, 4] ∧ t.trans.lastTaken = some 4 ∧ t.trans.ott.length = 30 := by decide +kernel
theorem test_given_entry_goes_on :
    (after (.slotRequestTaken 2 none) (after (.presenceLost 4) (after (.completionLaneSend 3) fullTable))).trans.lastTaken = some 2 := by
  decide +kernel
/-- A completion for frame 7, and `mid` with it held by port 0. -/
def toSeven : Completion := ⟨⟨7, 3, 1⟩, 0, 20, []⟩
def heldSeven : State := { mid with port0 := { upPort 0 false with heldCompletions := [⟨0, toSeven⟩] } }
theorem witness_CompletionsReachTheirEntries_held : heldSeven.heldFor .p1 = [.comp .p0 ⟨0, toSeven⟩] ∧ heldSeven.accepts 7 = true ∧
    (heldSeven.port .p1).compTookHeld = false ∧ answering.takes 7 = false ∧ mid.takes 7 = true ∧ mid.requestWaiting .p1 = false ∧
    (withEntry { sentRead with state := .answered }).findOtt 2 6 = some 4 := by decide +kernel
/-- `mid` with a completion held that has no hops left. -/
def heldSpent : State := { mid with port0 := { upPort 0 false with heldCompletions := [⟨0, { toSeven with hop := 0 }⟩] } }
theorem witness_CompletionsReachTheirEntries_dropped : heldSpent.heldFor .p1 = [.comp .p0 ⟨0, { toSeven with hop := 0 }⟩] ∧
    (heldSpent.port .p1).compTookHeld = false ∧ heldSpent.topo.frameNumber ≠ some toSeven.who.frame ∧
    ⟨0, { toSeven with hop := 0 }⟩ ∈ (heldSpent.port .p0).heldCompletions := by decide +kernel
theorem test_dropped_takes_no_turn : (after (.transactionQueueTake .p1 .completion) heldSpent).port1.compTookHeld = false ∧
    (after (.transactionQueueTake .p1 .completion) heldSpent).trans.completionsDropped = 1 := by decide +kernel
theorem test_held_completion_sent : (after (.transactionQueueTake .p1 .completion) heldSeven).port1.qCompletion = [{ toSeven with hop := 19 }] := by
  decide +kernel
theorem test_late_completion : (after (.completionReceived .p1 readDone) (withEntry { sentRead with state := .answered })).trans.lateCompletions = 1 := by
  decide +kernel
theorem test_completion_answers : ((after (.completionReceived .p1 readDone) (withEntry sentRead)).ottEntry 4).bind (·.answer) =
    some ⟨.ok, [2, 1, 4, 3]⟩ := by decide +kernel
theorem test_busy_backs_off : ((after (.completionReceived .p1 { readDone with status := 1 }) (withEntry sentRead)).ottEntry 4).map (·.state) =
    some .backoff := by decide +kernel
theorem test_deadline_times_out : ((after (.transactionDeadline 4) { withEntry { sentRead with retries := 0 } with localTime := 900 }).ottEntry 4).bind (·.answer) =
    some ⟨.timeout, []⟩ ∧
    (after (.transactionDeadline 4) { withEntry { sentRead with retries := 0 } with localTime := 899 }).ottEntry 4 =
      some { sentRead with retries := 0 } := by decide +kernel
theorem test_backoff_ends : (after (.backoffEnd 4) { withEntry { sentRead with state := .backoff, via := none } with
    localTime := 900 }).port1.qRequest = [sentRead.request 5] ∧
    (after (.backoffEnd 4) { withEntry { sentRead with state := .backoff, via := none } with localTime := 899 }).port1.qRequest = [] := by
  decide +kernel
theorem test_answer_taken : (after (.transactionQueueTake .p1 .completion) answering).port1.qCompletion = [⟨⟨7, 3, 1⟩, 0, 31, [1, 2, 3, 4]⟩] := by
  decide +kernel
theorem witness_RepliesAndLocksEnd : busySlot.settled ∧ (busySlot.slot (2 : Fin 16)).lane = .up ∧
    (busySlot.inEntry 0).map (fun e => (e.state, e.slot, e.source)) = some (.atModule, 2, .port .p1) ∧ busySlot.takes 7 = true ∧
    mid.inEntry 0 = none ∧ (locked.lock 2).holder.isSome = true ∧ (locked.lock 2).releasing = false :=
  ⟨calm_settled (by decide) (by decide), by decide⟩
theorem witness_RepliesAndLocksEnd_due : { busySlot with localTime := 100 }.settled ∧ { busySlot with localTime := 99 }.settled ∧
    { locked with localTime := 100 }.settled ∧ (State.lock { locked with localTime := 100 } 2).expiry ≤ 100 ∧
    (State.inEntry { busySlot with localTime := 100 } 0).map (fun e => (e.deadline, e.state)) = some (100, .atModule) ∧
    { busySlot with localTime := 100 }.takes 7 = true :=
  ⟨calm_settled (by decide) (by decide), calm_settled (by decide) (by decide), calm_settled (by decide) (by decide), by decide⟩
/-- Slot 2 drains, and only its lock keeps it from QUIESCED. -/
def lockedLeaving : State := { locked with slots := [(2, leaving)] }
/-- Slot 2 in ADMITTED, locked from frame 7; the holder's WRITE_UNLOCK and, behind it, its READ wait for the lane. -/
def unlocking : State := { mid with trans := { mid.trans with
  locks := [(2, { holder := some (7, 3), expiry := 100, releasing := true, unlockHandle := some 0 })]
  inbound := [(0, { who := ⟨7, 3, 1⟩, slot := 2, op := .writeUnlock, address := 64, length := 4, data := [1, 2, 3, 4]
                    source := .port .p1, deadline := 100, state := .waiting, answer := none, order := 0 }),
              (1, { who := ⟨7, 3, 2⟩, slot := 2, op := .read, address := 64, length := 4, data := []
                    source := .port .p1, deadline := 100, state := .waiting, answer := none, order := 1 })] } }
theorem witness_HandlesAndRemovalsAct_unlock : unlocking.settled ∧ (unlocking.slot 2).state = .admitted ∧
    (unlocking.lock 2).unlockHandle = some 0 ∧ (unlocking.inEntry 0).map (fun e => (e.slot, e.state)) = some (2, .waiting) ∧
    locked.settled ∧ (locked.slot 2).state = .admitted ∧ (∀ x ∈ locked.trans.inbound, x.2.slot = 2 → x.2.state ≠ .waiting) :=
  ⟨calm_settled (by decide) (by decide), by decide, by decide, by decide, calm_settled (by decide) (by decide), by decide, by decide⟩
/-- R130: the WRITE_UNLOCK is answered NO_TARGET, which releases the lock (R162), and Lock Clear holds; a lock that no
entry releases stays. -/
theorem test_handle_unlocks : (after (.handleOpen 2) unlocking).lock 2 = {} ∧ (after (.handleOpen 2) unlocking).trans.inbound = [] ∧
    ((after (.handleOpen 2) unlocking).slot 2).drain = some ⟨false, true, true, true⟩ ∧
    (after (.handleOpen 2) unlocking).port1.qCompletion.map (·.status) = [Status.noTarget.code, Status.noTarget.code] := by
  decide +kernel
theorem test_handle_keeps_lock : (after (.handleOpen 2) locked).lock 2 = locked.lock 2 ∧
    ((after (.handleOpen 2) locked).slot 2).drain = some ⟨false, true, false, true⟩ := by decide +kernel
theorem witness_RepliesAndLocksEnd_drain : { lockedLeaving with localTime := 100 }.routed ∧ (∀ j, j ≠ 2 → (lockedLeaving.slot j).drain = none) ∧
    (lockedLeaving.slot 2).drain = some ⟨true, true, false, true⟩ ∧ (lockedLeaving.slot 2).waiting = [] :=
  ⟨calm_routed (but := 2) (by decide), calm_drains (but := 2) (by decide), by decide⟩
theorem witness_SlotCommandsAct_drains : lockedLeaving.obeys boss = true ∧ lockedLeaving.accepts boss.frame = true ∧
    (lockedLeaving.slot 2).state = .extracting ∧ (lockedLeaving.slot 2).timer = some ⟨.drain, 0⟩ ∧
    (lockedLeaving.lock 2).holder.isNone = false ∧ (∀ x ∈ lockedLeaving.trans.inbound, x.2.slot ≠ 2) ∧
    1249999 < 0 + 10 * Config.cyclesPerMs ∧ 0 + 10 * Config.cyclesPerMs ≤ 1250000 ∧
    ((withSlot { training with timer := some ⟨.power, 0⟩ }).slot 2).timer = some ⟨.power, 0⟩ := by decide +kernel
theorem test_commands_leave_a_drain : (after (.eject boss 2) lockedLeaving).slot 2 = lockedLeaving.slot 2 ∧
    (after (.eject boss 2) lockedLeaving).port0.qCompletion.map (·.status) = [Status.ok.code] ∧
    (after (.slotReset boss 2) lockedLeaving).port0.qCompletion.map (·.status) = [Status.badRequest.code] ∧
    (after (.admitSlot boss 2) lockedLeaving).port0.qCompletion.map (·.status) = [Status.badRequest.code] := by decide +kernel
/-- R118: a Drain Limit of 10 ms, 1,249,999 and 1,250,000 cycles of 8 ns after the drain began. -/
theorem test_drain_limit_lowered :
    (after (.slotSettingsWrite boss 2 ⟨0, 200, 10, false⟩) { lockedLeaving with localTime := 1249999 }).slot 2 =
      { leaving with drainLimit := 10 } ∧
    ((after (.slotSettingsWrite boss 2 ⟨0, 200, 10, false⟩) { lockedLeaving with localTime := 1250000 }).slot 2).lastCause =
      .drainLimit := by decide +kernel
theorem test_reply : (after (.moduleReply 2 0 0 [1, 2, 3, 4]) busySlot).port1.qCompletion = [⟨⟨7, 3, 1⟩, 0, 31, [1, 2, 3, 4]⟩] := by decide +kernel
theorem test_short_reply : (after (.moduleReply 2 0 0 [1, 2]) busySlot).port1.qCompletion = [⟨⟨7, 3, 1⟩, Status.badRequest.code, 31, []⟩] := by
  decide +kernel
/-- R158: the entry keeps the data of a reply that is not OK, and its completion carries none; here port 1 has no room. -/
def noRoom : State := { busySlot with port1 := { busySlot.port1 with qCompletion := List.replicate 16 aCompletion } }
theorem witness_RepliesAndLocksEnd_full : noRoom.settled ∧ noRoom.routeTo 7 = some (.port .p1) ∧ 16 ≤ (noRoom.port .p1).qCompletion.length ∧
    (noRoom.inEntry 0).map (fun e => (e.state, e.slot, e.source)) = some (.atModule, 2, .port .p1) ∧ 17 ≤ 17 :=
  ⟨calm_settled (by decide) (by decide), by decide +kernel⟩
theorem test_reply_kept : ((after (.moduleReply 2 0 1 [1, 2, 3, 4]) noRoom).inEntry 0).bind (·.answer) = some ⟨.busy, [1, 2, 3, 4]⟩ ∧
    ((after (.moduleReply 2 0 18 [1, 2, 3, 4]) noRoom).inEntry 0).bind (·.answer) = some ⟨.badRequest, []⟩ ∧
    (after (.moduleReply 2 0 1 [1, 2, 3, 4]) busySlot).port1.qCompletion = [⟨⟨7, 3, 1⟩, 1, 31, []⟩] := by decide +kernel
theorem test_response_deadline : (after (.responseDeadline 0) { busySlot with localTime := 100 }).port1.qCompletion =
    [⟨⟨7, 3, 1⟩, Status.targetTimeout.code, 31, []⟩] ∧
    (after (.responseDeadline 0) { busySlot with localTime := 99 }).port1.qCompletion = [] := by decide +kernel
/-- The boundary sets Boundary Passed, which ends a drain that waits for it alone and leaves one whose lock is held. -/
def draining (s : State) : State := { s with
  slots := [(2, { leaving with drain := some ⟨false, true, (s.lock 2).holder.isNone, true⟩ })]
  rtu := (atEpoch 9 8 {}).rtu }
theorem witness_BoundaryAppliesLoadOrStep_drains : ((draining mid).slot (2 : Fin 16)).state = .extracting ∧
    ((draining mid).slot 2).drain.isSome = true ∧ (draining locked).routed ∧ ((draining locked).lock 2).holder ≠ none :=
  ⟨by decide, by decide, calm_routed (but := 2) (by decide), by decide⟩
theorem test_boundary_drains : ((after .epochBoundary (draining mid)).slot 2).state = .quiesced ∧
    ((after .epochBoundary (draining locked)).slot 2).drain = some ⟨true, true, false, true⟩ := by decide +kernel
/-- R162, R163: an Expiry of 100 is reached at 100; at 99, as where the holder has renewed the lock, it stays. -/
theorem test_lock_expires : (after (.lockExpiry 2) { locked with localTime := 100 }).lock 2 = {} ∧
    ((after (.lockExpiry 2) { locked with localTime := 100 }).event 21).pending = true ∧
    (after (.lockExpiry 2) { locked with localTime := 99 }).lock 2 = locked.lock 2 := by decide +kernel
theorem test_lock_expiry_drains : ((after (.lockExpiry 2) { lockedLeaving with localTime := 100 }).slot 2).state = .quiesced := by decide +kernel

/-! ## Settings, channels and management -/

theorem witness_OnlyTheManagerWrites : mid.accepts boss.frame = true ∧ mid.obeys boss = true ∧ mid.isManager other = false ∧
    mid.accepts other.frame = true ∧ ({ low := 0, high := 3 } : Guard).covers 1 = true ∧ mid.trans.guard.covers 1 = false ∧
    Swap.ofCode 1 = some .bytes16 ∧ 4096 = 2 ^ 12 ∧ 64 % 16 = 0 := by decide
theorem test_denied : (after (.transactionSettingsWrite other ⟨9, 9, 9⟩) mid).mgmt.deniedWrites = 1 ∧
    (after (.transactionSettingsWrite other ⟨9, 9, 9⟩) mid).trans.settings = ⟨200, 100, 100⟩ := by decide +kernel
theorem witness_OnlyTheManagerWrites_denied : mid.topo.frameNumber.isSome = true ∧ ({ mid with topo := {} }).topo.frameNumber = none ∧
    ({ mid with topo := {} }).accepts 0 = true ∧ Instr.wf (.start other 1) = true ∧ Instr.wf (.park other 2) = true := by decide
theorem test_unnumbered_denies : (after (.start boss 1) { mid with topo := { rootward := some .p0 } }).port0.qCompletion =
    [⟨boss, Status.denied.code, 31, []⟩] := by decide +kernel
theorem test_settings : (after (.transactionSettingsWrite boss ⟨9, 8, 7⟩) mid).trans.settings = ⟨9, 8, 7⟩ := by decide +kernel
theorem test_window_written : ((after (.windowWrite boss 1 [⟨true, 7, 3, 8192, 4096, 1, false, 1, 5⟩]) mid).window 1).retryLimit = 5 := by decide +kernel
theorem test_window_guard : (after (.windowGuardWrite boss ⟨2, 4, true, true⟩) mid).trans.guard = ⟨2, 4, true, true⟩ := by decide +kernel
theorem test_manager_written : (after (.managerWrite boss 3 4) mid).mgmt.manager = some (3, 4) := by decide +kernel
theorem test_summary_cleared : (after (.eventSummaryClear ⟨0, 0, 1⟩ 0x08000000) State.reset).event 27 = {} := by decide +kernel
theorem test_notice_enabled : ((after (.noticeEnableWrite ⟨0, 0, 1⟩ 0x08000000 32) State.reset).event 27).notice = .awaiting := by decide +kernel
theorem witness_AttentionIsTaken : mid.obeys boss = true ∧ mid.accepts boss.frame = true ∧
    ((withSlot { inUse with attention := true }).slot (2 : Fin 16)).attention = true ∧
    (0x00100000 : BitVec 32).getLsbD EventKind.attention.code = true ∧ (5 : SlotSet) &&& ~~~4 ≠ 0 := by decide
theorem test_attention : (after (.attentionEdge 2) (withSlot { inUse with attention := true })).mgmt.attentionSet = 4 := by decide +kernel
theorem test_attention_removed : (after (.attentionRemovalWrite boss 4) (after (.attentionEdge 2)
    (withSlot { inUse with attention := true }))).event EventKind.attention.code = {} := by decide +kernel
theorem witness_ChannelsAreCommanded : mid.obeys boss = true ∧ mid.accepts boss.frame = true ∧
    ((({ mid with channels := [(0, { state := .paused })] }).channel (0 : Fin 4)).state = .paused) ∧ validTarget 31 = true := by decide
theorem test_channel_set : ((after (.channelSetupWrite boss 1 ⟨7, 3, 0, 5, 2, 0, 600, 256, 0, 0⟩) mid).channel 1).length = 600 := by decide +kernel
theorem test_start : ((after (.start boss 1) mid).channel 1).remaining = 256 := by decide +kernel
theorem test_pause : ((after (.pause boss 1) (after (.start boss 1) mid)).channel 1).state = .paused := by decide +kernel
theorem test_resume_refused : (after (.resume boss 1) mid).port0.qCompletion = [⟨boss, Status.badRequest.code, 31, []⟩] := by decide +kernel
theorem test_abort : ((after (.abort boss 1) (after (.start boss 1) mid)).channel 1).state = .idle := by decide +kernel
/-- `mid` with channel 1 moving 300 bytes from frame 7 to the root, and with its last chunk held or being written. -/
def moving (r : Channel) : State := { mid with channels := [(1, { r with srcFrame := 7, srcTarget := 3, length := 300, state := .running })] }
def lastWrite : State :=
  { moving { inFlight := [⟨256, 44, .writing, 6, []⟩], remaining := 44, readOffset := 300 } with
    trans := { ott := [(4, { sentRead with id := 17, op := .write, retry := false, dest := 0, via := some (.port .p0) })] } }
theorem witness_ChunksAndNoticesAreSent : mid.settled ∧ (moving {}).topo.frameNumber = some 5 ∧ (moving {}).isUp .p1 = true ∧
    ((moving {}).channel (1 : Fin 4)).readOffset < 300 ∧ (moving {}).heldBy (16 + (1 : Fin 4)) < 2 ∧ (moving {}).routeTo 7 = some (.port .p1) ∧
    ((moving { inFlight := [⟨0, 256, .held, 0, [1]⟩] }).channel (1 : Fin 4)).inFlight = [⟨0, 256, .held, 0, [1]⟩] ∧
    (moving {}).routeTo 0 = some (.port .p0) ∧ lastWrite.findOtt 17 6 = some 4 ∧ (lastWrite.channel (1 : Fin 4)).remaining = 44 ∧
    { mid with mgmt := { mid.mgmt with summary := [(3, { pending := true, count := 1, notice := .awaiting })] } }.nextNoticeKind = some 3 :=
  ⟨mid_settled, by decide +kernel⟩
theorem witness_ChunksAndNoticesAreSent_turn : (moving {}).trans.granted = [] ∧ (moving {}).requestWaiting .p1 = false ∧
    lastWrite.requestWaiting .p1 = false := by decide
theorem witness_ChunksAndNoticesAreSent_settled : (moving {}).settled ∧ lastWrite.settled :=
  ⟨calm_settled (by decide) (by decide), calm_settled (by decide) (by decide)⟩
theorem test_chunk_read : (after (.chunkReadStart 1) (moving { readOffset := 256 })).port1.qRequest =
    [⟨⟨5, 17, 0⟩, 7, 3, .read, 31, 256, 44, none, []⟩] := by decide +kernel
theorem test_chunk_written : (after (.chunkWriteStart 1) (moving { inFlight := [⟨0, 2, .held, 0, [8, 9]⟩] })).port0.qRequest =
    [⟨⟨5, 17, 0⟩, 0, 0, .write, 31, 0, 2, none, [8, 9]⟩] := by decide +kernel
theorem test_move_done : ((after (.completionReceived .p0 ⟨⟨5, 17, 6⟩, 0, 30, []⟩) lastWrite).channel 1).state = .done := by decide +kernel
theorem test_notice : (after .noticeIssue
    { mid with mgmt := { mid.mgmt with summary := [(3, { pending := true, count := 1, notice := .awaiting })] } }).port0.qRequest.map (·.data) =
    [[5, 3, 1, 0, 0, 0, 0, 0, 0, 0, 0, 0, 0, 0, 0, 0]] := by decide +kernel
/-- An unnumbered frame whose Rootward Port is port 0. -/
def unnumbered : State := { mid with topo := { rootward := some .p0, hops := some 1 }, mgmt := {} }
theorem witness_NumbersAndResetsAct : unnumbered.settled ∧ (unnumbered.port .p0).state = .up ∧ unnumbered.topo.frameNumber = none ∧
    beNat [0, 0, 0, 12] = 12 ∧ tfind unnumbered.topo.directory 12 = none ∧ unnumbered.routeTo 0 = some (.port .p0) ∧ unnumbered.takes 0 = true ∧
    mid.obeys boss = true ∧ mid.topo.root = false ∧ State.reset.topo.root = true ∧ State.reset.obeys ⟨0, 0, 1⟩ = true ∧
    State.reset.accepts 0 = true ∧ regionAt 0x1F0000 4 = none := ⟨calm_settled (by decide) (by decide), by decide +kernel⟩
theorem test_assign : (after (.assign .p0 boss 4 ⟨none, 0⟩ [0, 0, 0, 12]) unnumbered).topo.frameNumber = some 12 := by decide +kernel
theorem test_assign_manager : (after (.assign .p0 boss 4 ⟨none, 0⟩ [0, 0, 0, 12]) unnumbered).mgmt.manager = some (0, 0) := by decide +kernel
theorem witness_NumbersAndResetsAct_read : mid.takes 7 = true ∧ mid.routeTo 5 = some .here ∧ (regionAt 0 4).isSome = true ∧
    0 % 4 = 0 ∧ 4 % 4 = 0 := by decide +kernel
theorem witness_NumbersAndResetsAct_bad : { toSlot with target := 31, op := .undefined 9 }.op = .undefined 9 ∧
    { toSlot with target := 31, op := .undefined 9 }.dest ≠ nextCode := by decide
theorem test_undefined_operation_counts :
    (after (.requestReceived .p1 { toSlot with target := 31, address := 1, op := .undefined 9 }) mid).mgmt.badRequests = 1 := by
  decide +kernel
theorem test_space_read : (after (.requestReceived .p1 { toSlot with target := 31, address := 0 }) mid).mgmt.reads = 1 := by decide +kernel
theorem test_release : (after (.releaseNumber boss) mid).topo.frameNumber = none := by decide +kernel
theorem test_controller_reset : (after (.controllerReset boss) (withEntry sentRead)).rtu.state = .acquire ∧
    ((after (.controllerReset boss) (withEntry sentRead)).ottEntry 4).bind (·.answer) = some ⟨.aborted, []⟩ := by decide +kernel
/-- R100: of the SECTION messages committed, the one begun alone outlives a controller reset. -/
theorem test_reset_abandons_sections : let m : LaneMsg := .sectionMsg ⟨1, none, 0, 0, false, false, 0, 0, true, []⟩
    ((after (.controllerReset boss) (withSlot { inUse with committed := [m, m, .parcel aParcel, m], available := 4 })).slot 2).committed =
      [m, .parcel aParcel] ∧
    ((after (.controllerReset boss) (withSlot { inUse with committed := [m, m, .parcel aParcel, m], available := 4 })).slot 2).available =
      4 := by decide +kernel
theorem test_write_settings : (after (.controllerWrite boss 0x164018 [0, 0, 0, 9, 0, 0, 0, 8, 0, 0, 0, 7]) mid).trans.settings = ⟨9, 8, 7⟩ := by
  decide +kernel
theorem test_power_on : (after (.powerOnReset false 6) mid).rtu.state = .free ∧ (after (.powerOnReset false 6) mid).mgrSlot = 6 := by decide +kernel

end Sys2Proof.Tests
end

section
/-! SUPPORT. Announces (R35): what an ANNOUNCE that arrives makes of the Frame Directory and of the other tree port,
and the statement about it. -/

namespace Sys2Proof.Machine

/-! ## Tables: a purge and a write -/

/-- A purge leaves a key as it was where the entry found under it stays. -/
theorem tfind_filter_of_kept {α : Type} {t : List (Nat × α)} {k : Nat} {q : Nat × α → Bool}
    (h : ∀ v, tfind t k = some v → q (k, v) = true) : tfind (t.filter q) k = tfind t k := by
  induction t with
  | nil => rfl
  | cons e r ih =>
    obtain ⟨j, w⟩ := e
    by_cases hj : j = k
    · subst hj
      have hw : q (j, w) = true := h w (by simp [tfind])
      simp [hw, tfind]
    · have hr : tfind (r.filter q) k = tfind r k := ih (fun v hv => h v (by simpa [tfind, hj] using hv))
      cases hq : q (j, w) <;> simp [hq, tfind, hj, hr]

/-- What a table lists after a write is the new entry or was listed under another key. -/
theorem mem_tput {α : Type} {t : List (Nat × α)} {k : Nat} {v : α} {e : Nat × α} (h : e ∈ tput t k v) :
    e = (k, v) ∨ (e ∈ t ∧ e.1 ≠ k) :=
  (mem_tins h).imp_right mem_tdel.mp

/-! ## What a change of the topology record leaves alone -/

@[simp] theorem State.port_updTopo (s : State) (f : Topology → Topology) (q : PortId) :
    (s.updTopo f).port q = s.port q := by cases q <;> rfl

@[simp] theorem State.isUp_updTopo (s : State) (f : Topology → Topology) (q : PortId) :
    (s.updTopo f).isUp q = s.isUp q := by simp [State.isUp]

/-- R30: the tree ports follow from the port records and the Rootward Port alone. -/
theorem State.isTree_updTopo {s : State} {f : Topology → Topology} (h : (f s.topo).rootward = s.topo.rootward)
    (q : PortId) : (s.updTopo f).isTree q = s.isTree q := by
  have ht : (s.updTopo f).topo.rootward = s.topo.rootward := h
  simp [State.isTree, State.isChild, ht]

/-! ## The forwarding -/

/-- R35: an ANNOUNCE kept from one port goes out of the other, where that is an UP tree port. -/
theorem announceExcept_some (p : PortId) (a : Announce) (s : State) :
    announceExcept (some p) a s =
      if s.isTree p.other = true ∧ s.isUp p.other = true then s.updPort p.other (fun r => r.offerLink (.announce a))
      else s := by
  cases p <;> simp [announceExcept, PortId.all, PortId.other] <;> rfl

@[simp] theorem announceExcept_topo (p : PortId) (a : Announce) (s : State) :
    (announceExcept (some p) a s).topo = s.topo := by
  rw [announceExcept_some]; split <;> simp

@[simp] theorem announceExcept_port_same (p : PortId) (a : Announce) (s : State) :
    (announceExcept (some p) a s).port p = s.port p := by
  rw [announceExcept_some]
  split
  · cases p <;> rfl
  · rfl

@[simp] theorem forwardAnnounce_topo (p : PortId) (a : Announce) (s : State) :
    (forwardAnnounce p a s).topo = s.topo := by unfold forwardAnnounce; split <;> simp

@[simp] theorem forwardAnnounce_port_same (p : PortId) (a : Announce) (s : State) :
    (forwardAnnounce p a s).port p = s.port p := by unfold forwardAnnounce; split <;> simp

/-- R35: below 31 hops the ANNOUNCE waits at the other UP tree port, one hop further. -/
theorem forwardAnnounce_port_other_of_room {p : PortId} {a : Announce} {s : State} (ht : s.isTree p.other = true)
    (hu : s.isUp p.other = true) (hh : a.hop < 31) (hq : (s.port p.other).qLink.length < 32) :
    (forwardAnnounce p a s).port p.other = { s.port p.other with
      qLink := (s.port p.other).qLink ++ [.announce ⟨a.frame, a.hop + 1, a.uid⟩] } := by
  simp [forwardAnnounce, Nat.not_le.mpr hh, announceExcept_some, ht, hu, Port.offerLink, hq]

/-- R35: it goes nowhere at 31 hops or where the other port is no UP tree port. -/
theorem forwardAnnounce_eq_self {p : PortId} {a : Announce} {s : State}
    (h : s.isTree p.other = false ∨ s.isUp p.other = false ∨ a.hop = 31) : forwardAnnounce p a s = s := by
  rcases h with h | h | h <;> simp [forwardAnnounce, announceExcept_some, h]

/-- R35: the forwarding that follows a change of the directory, by the tree of the state before it. -/
theorem forwardAnnounce_updTopo_port_other {p : PortId} {a : Announce} {s : State} {f : Topology → Topology}
    (hf : (f s.topo).rootward = s.topo.rootward) :
    (s.isTree p.other = true ∧ s.isUp p.other = true ∧ a.hop < 31 ∧ (s.port p.other).qLink.length < 32 →
      (forwardAnnounce p a (s.updTopo f)).port p.other = { s.port p.other with
        qLink := (s.port p.other).qLink ++ [.announce ⟨a.frame, a.hop + 1, a.uid⟩] }) ∧
    (s.isTree p.other = false ∨ s.isUp p.other = false ∨ a.hop = 31 →
      (forwardAnnounce p a (s.updTopo f)).port p.other = s.port p.other) := by
  have ht := State.isTree_updTopo hf p.other
  constructor
  · rintro ⟨htree, hup, hhop, hroom⟩
    simpa using forwardAnnounce_port_other_of_room (s := s.updTopo f) (a := a) (ht.trans htree) (by simpa using hup) hhop
      (by simpa using hroom)
  · intro h
    rw [forwardAnnounce_eq_self (by simpa [ht] using h), State.port_updTopo]

/-! ## The Frame Directory -/

/-- R35: the topology record after the ANNOUNCE of another frame. -/
def Topology.learned (p : PortId) (a : Announce) (t : Topology) : Topology :=
  { t with
    announcesReceived := bump t.announcesReceived
    directory := tput (t.directory.filter (fun e => e.2.uid ≠ a.uid ∨ e.1 = a.frame)) a.frame ⟨.port p, a.hop, a.uid⟩ }

/-- R35: the topology record after a withdrawal. -/
def Topology.withdrawn (a : Announce) (t : Topology) : Topology :=
  { t with
    announcesReceived := bump t.announcesReceived
    directory := t.directory.filter (fun e => e.2.via = .here ∨ e.2.uid ≠ a.uid) }

/-- R35: the newest ANNOUNCE for a frame wins. -/
theorem Topology.tfind_learned_same (p : PortId) (a : Announce) (t : Topology) :
    tfind (t.learned p a).directory a.frame = some ⟨.port p, a.hop, a.uid⟩ := tfind_tput_same _ _ _

/-- R35: no other frame goes on with the unit that announced itself. -/
theorem Topology.uid_ne_of_mem_learned {p : PortId} {a : Announce} {t : Topology} {e : Nat × DirEntry}
    (he : e ∈ (t.learned p a).directory) (hne : e.1 ≠ a.frame) : e.2.uid ≠ a.uid := by
  rcases mem_tput he with rfl | ⟨hmem, -⟩
  · exact absurd rfl hne
  · simpa [hne] using (List.mem_filter.mp hmem).2

/-- R35: the entries of other frames that hold another unit stay. -/
theorem Topology.tfind_learned_other {p : PortId} {a : Announce} {t : Topology} {f : Nat} (hne : f ≠ a.frame)
    (hkept : ∀ e, tfind t.directory f = some e → e.uid ≠ a.uid) :
    tfind (t.learned p a).directory f = tfind t.directory f := by
  unfold Topology.learned
  rw [tfind_tput_other _ _ hne, tfind_filter_of_kept]
  intro v hv
  simp [hkept v hv]

/-! ## The four fates of an ANNOUNCE -/

section
variable {p : PortId} {a : Announce} {s : State}

/-- A port in UP hands its ANNOUNCE over. -/
theorem exec_announceReceived_of_up (hup : (s.port p).state = .up) :
    exec (.announceReceived p a) s = .next (acceptAnnounce p a s) :=
  congrArg _ (byState_up s p .link (.announce a) (acceptAnnounce p a) hup)

theorem acceptAnnounce_of_refused (h : s.isTree p = false ∨ a.hop = 0 ∨ 31 < a.hop ∨ (31 < a.frame ∧ a.frame ≠ 63)) :
    acceptAnnounce p a s = s.updTopo (fun t => { t with announcesRefused := bump t.announcesRefused }) := by
  unfold acceptAnnounce
  rw [if_pos]
  simp only [unnumberedCode, Bool.or_eq_true, Bool.not_eq_true', Bool.or_eq_false_iff, decide_eq_true_eq,
    decide_eq_false_iff_not, beq_eq_false_iff_ne]
  rcases h with h | h | h | h
  · exact .inl (.inl (.inl h))
  · exact .inl (.inl (.inr (by omega)))
  · exact .inl (.inr h)
  · exact .inr ⟨by omega, h.2⟩

/-- R35: past the checks, the frame that the ANNOUNCE names decides. -/
theorem acceptAnnounce_of_valid (ht : s.isTree p = true) (h1 : 1 ≤ a.hop) (h31 : a.hop ≤ 31)
    (hf : a.frame ≤ 31 ∨ a.frame = 63) :
    acceptAnnounce p a s =
      if a.frame = 63 then forwardAnnounce p a (s.updTopo (Topology.withdrawn a))
      else if s.topo.frameNumber = some a.frame then
        s.updTopo (fun t => { t with
          announcesReceived := bump t.announcesReceived
          numberClashes := if a.uid = s.unitId then t.numberClashes else bump t.numberClashes })
      else forwardAnnounce p a (s.updTopo (Topology.learned p a)) := by
  have hvalid : (!s.isTree p || decide (a.hop < 1) || decide (31 < a.hop) ||
      !(decide (a.frame ≤ 31) || a.frame == unnumberedCode)) = false := by
    simp [ht, unnumberedCode, h31]
    omega
  have hwithdrawn : (s.updTopo (fun t => { t with announcesReceived := bump t.announcesReceived })).updTopo
      (purgeUid a.uid none) = s.updTopo (Topology.withdrawn a) := by
    simp [State.updTopo, purgeUid, Topology.withdrawn, bne, Bool.beq_eq_decide_eq]
  have hlearned : (s.updTopo (fun t => { t with announcesReceived := bump t.announcesReceived })).updTopo (fun t =>
      { purgeUid a.uid (some a.frame) t with
        directory := tput (purgeUid a.uid (some a.frame) t).directory a.frame ⟨.port p, a.hop, a.uid⟩ }) =
      s.updTopo (Topology.learned p a) := by
    simp [State.updTopo, purgeUid, Topology.learned, bne, Bool.beq_eq_decide_eq, eq_comm]
  unfold acceptAnnounce
  rw [hvalid]
  dsimp only
  rw [hwithdrawn, hlearned]
  by_cases hu : a.uid = s.unitId <;> simp [hu, unnumberedCode, State.updTopo]

end

/-! ## The statement -/

/-- Settles O31, by the four fates of an ANNOUNCE: learned, withdrawn, this frame's own, refused. -/
theorem announcesTeachTheDirectory : Obligations.AnnouncesTeachTheDirectory := by
  intro p a s hup
  simp only [exec_announceReceived_of_up hup]
  refine ⟨?learned, ?withdrawn, ?own, ?refused⟩
  case learned =>
    rintro ⟨ht, h1, h31, hf, hother⟩
    have hne : a.frame ≠ 63 := by omega
    rw [acceptAnnounce_of_valid ht h1 h31 (.inl hf), if_neg hne, if_neg hother]
    refine ⟨_, rfl, ?_⟩
    rw [forwardAnnounce_topo, forwardAnnounce_port_same, State.port_updTopo]
    exact ⟨Topology.tfind_learned_same p a s.topo, fun e => Topology.uid_ne_of_mem_learned,
      fun f => Topology.tfind_learned_other, rfl, rfl, forwardAnnounce_updTopo_port_other rfl⟩
  case withdrawn =>
    rintro ⟨ht, h1, h31, hf⟩
    rw [acceptAnnounce_of_valid ht h1 h31 (.inr hf), if_pos hf, ← hf]
    refine ⟨_, rfl, ?_⟩
    rw [forwardAnnounce_topo, forwardAnnounce_port_same, State.port_updTopo]
    exact ⟨rfl, rfl, forwardAnnounce_updTopo_port_other rfl⟩
  case own =>
    rintro ⟨ht, h1, h31, hf, hown⟩
    have hne : a.frame ≠ 63 := by omega
    rw [acceptAnnounce_of_valid ht h1 h31 (.inl hf), if_neg hne, if_pos hown]
    rfl
  case refused =>
    intro h
    rw [acceptAnnounce_of_refused h]
    rfl

end Sys2Proof.Machine
end

section
/-! SUPPORT. Attention (R178): what a kind cleared and a slot's edge leave in the Event Summary and in the Attention
Set, how the Manager's writes of them are answered, and the statement about it. -/

namespace Sys2Proof.Machine

/-! ## The Manager's writes (R175) -/

/-- R175: a Manager's write is answered where its completion can be accepted in the state that the write leaves. -/
theorem managed_of_accepts {who : Requester} {op : State → Status × State} {s s1 : State} {st : Status}
    (ho : s.obeys who = true) (hop : op s.wrote = (st, s1)) (ha : s1.accepts who.frame = true) :
    Answered who st s1 (managed who op s) := by
  obtain ⟨hf, hm⟩ : s.topo.frameNumber.isSome = true ∧ s.isManager who = true := by simpa [State.obeys] using ho
  obtain ⟨t, ht⟩ : ∃ t, Answered who st s1 t :=
    Option.isSome_iff_exists.mp ((sendCompletion_isSome s1 who st []).trans ha)
  have heq : managed who op s = t := managerCommand_of_manager (post := fun _ => .none) hf hm hop ht
  rwa [heq]

/-- R151: the management record has no part in where a completion goes. -/
theorem accepts_of_mgmt {s t : State} (h : t = { s with mgmt := t.mgmt }) (f : Nat) : t.accepts f = s.accepts f := by
  rw [h]; rfl

/-! ## Kinds cleared (R177) -/

theorem clearKind_frame (s : State) (k : Nat) : clearKind s k = { s with mgmt := (clearKind s k).mgmt } := by
  unfold clearKind; split <;> rfl

/-- R177: the kind's record is as at power-on, and no other kind moves. -/
theorem event_clearKind (s : State) (k j : Nat) : (clearKind s k).event j = if j = k then {} else s.event j := by
  have hrecord : (clearKind s k).event j = (s.setEvent k {}).event j := by unfold clearKind; split <;> rfl
  rw [hrecord, State.event_setEvent]

/-- R177: ATTENTION alone empties the Attention Set when it is cleared. -/
theorem attentionSet_clearKind (s : State) (k : Nat) : (clearKind s k).mgmt.attentionSet =
    if k = EventKind.attention.code then 0 else s.mgmt.attentionSet := by
  unfold clearKind; split <;> rfl

theorem inFlight_clearKind (s : State) (k : Nat) : (clearKind s k).mgmt.inFlight =
    s.mgmt.inFlight.map (fun n => if n.kind = k then { n with stale := true } else n) := by
  unfold clearKind; split <;> rfl

theorem foldl_clearKind_frame (l : List Nat) (s : State) :
    l.foldl clearKind s = { s with mgmt := (l.foldl clearKind s).mgmt } := by
  induction l generalizing s with
  | nil => rfl
  | cons k l ih => rw [List.foldl_cons, ih, clearKind_frame]

theorem event_foldl_clearKind (l : List Nat) (s : State) (j : Nat) :
    (l.foldl clearKind s).event j = if j ∈ l then {} else s.event j := by
  induction l generalizing s with
  | nil => rfl
  | cons k l ih =>
    rw [List.foldl_cons, ih, event_clearKind]
    by_cases hl : j ∈ l <;> simp [hl]

theorem attentionSet_foldl_clearKind (l : List Nat) (s : State) : (l.foldl clearKind s).mgmt.attentionSet =
    if EventKind.attention.code ∈ l then 0 else s.mgmt.attentionSet := by
  induction l generalizing s with
  | nil => rfl
  | cons k l ih =>
    rw [List.foldl_cons, ih, attentionSet_clearKind]
    by_cases hl : EventKind.attention.code ∈ l <;> simp [hl, eq_comm]

theorem clearKinds_frame (set : BitVec 32) (s : State) : clearKinds set s = { s with mgmt := (clearKinds set s).mgmt } :=
  foldl_clearKind_frame _ s

theorem event_clearKinds (set : BitVec 32) (s : State) (k : Nat) : (clearKinds set s).event k =
    if k < kindCount ∧ set.getLsbD k = true then {} else s.event k := by
  simp [clearKinds, event_foldl_clearKind]

theorem attentionSet_clearKinds (set : BitVec 32) (s : State) : (clearKinds set s).mgmt.attentionSet =
    if set.getLsbD EventKind.attention.code = true then 0 else s.mgmt.attentionSet := by
  have hcode : EventKind.attention.code < kindCount := by decide
  simp [clearKinds, attentionSet_foldl_clearKind, hcode]

/-! ## The Attention Set (R178) -/

theorem getLsbD_addSlot (set : SlotSet) {i : Nat} (hi : i < 16) (j : Nat) :
    (addSlot set i).getLsbD j = (set.getLsbD j || j == i) := by
  have hbit : (1#16 <<< i).getLsbD j = (j == i) := by
    rw [Bool.eq_iff_iff, BitVec.getLsbD_shiftLeft]
    simp only [BitVec.getLsbD_one, Bool.and_eq_true, Bool.not_eq_true', decide_eq_true_eq, decide_eq_false_iff_not,
      beq_iff_eq]
    omega
  rw [addSlot, BitVec.getLsbD_or, hbit]

/-- R178: the Attention Set without the slots removed. -/
def State.withoutAttention (s : State) (set : SlotSet) : State :=
  s.updMgmt (fun m => { m with attentionSet := m.attentionSet &&& ~~~set })

@[simp] theorem State.event_withoutAttention (s : State) (set : SlotSet) (k : Nat) :
    (s.withoutAttention set).event k = s.event k := rfl

/-- R178: a set left empty clears ATTENTION. -/
theorem removeAttention_of_empty {set : SlotSet} {s : State} (h : s.mgmt.attentionSet &&& ~~~set = 0) :
    removeAttention set s = clearKind (s.withoutAttention set) EventKind.attention.code := if_pos h

/-- R178: a set left with slots clears nothing. -/
theorem removeAttention_of_left {set : SlotSet} {s : State} (h : s.mgmt.attentionSet &&& ~~~set ≠ 0) :
    removeAttention set s = s.withoutAttention set := if_neg h

theorem removeAttention_frame (set : SlotSet) (s : State) :
    removeAttention set s = { s with mgmt := (removeAttention set s).mgmt } := by
  by_cases h : s.mgmt.attentionSet &&& ~~~set = 0
  · rw [removeAttention_of_empty h, clearKind_frame]; rfl
  · rw [removeAttention_of_left h]; rfl

theorem attentionSet_removeAttention (set : SlotSet) (s : State) :
    (removeAttention set s).mgmt.attentionSet = s.mgmt.attentionSet &&& ~~~set := by
  by_cases h : s.mgmt.attentionSet &&& ~~~set = 0
  · rw [removeAttention_of_empty h, attentionSet_clearKind, if_pos rfl, h]
  · rw [removeAttention_of_left h]; rfl

theorem event_removeAttention_other (set : SlotSet) (s : State) {k : Nat} (hk : k ≠ EventKind.attention.code) :
    (removeAttention set s).event k = s.event k := by
  by_cases h : s.mgmt.attentionSet &&& ~~~set = 0
  · rw [removeAttention_of_empty h, event_clearKind, if_neg hk, State.event_withoutAttention]
  · rw [removeAttention_of_left h, State.event_withoutAttention]

/-- R178: an edge of an ADMITTED slot with Attention Enable. -/
theorem attentionRaised_of_enabled {i : Nat} {s : State} (h : (s.slot i).state = .admitted ∧ (s.slot i).attention = true) :
    attentionRaised i s =
      raise .attention (s.updMgmt (fun m => { m with attentionSet := addSlot m.attentionSet i })) := if_pos h

theorem attentionRaised_of_ignored {i : Nat} {s : State}
    (h : ¬((s.slot i).state = .admitted ∧ (s.slot i).attention = true)) : attentionRaised i s = s := if_neg h

/-! ## The statement -/

/-- Settles O57, by the edge that counts and the edge that is ignored, and by the set left empty and the set left with
slots. -/
theorem attentionIsTaken : Obligations.AttentionIsTaken := by
  intro i who s
  refine ⟨⟨attentionRaised i s, rfl, ?edge⟩, fun ho ha => ⟨fun kinds hk => ?clear, fun set => ?removal⟩⟩
  case edge =>
    split
    · next h =>
      rw [attentionRaised_of_enabled h]
      refine ⟨rfl, rfl, getLsbD_addSlot _ i.isLt, ?_, fun k hk => ?_⟩
      · rw [event_raise, if_pos rfl]; rfl
      · rw [event_raise, if_neg hk]; rfl
    · next h => exact attentionRaised_of_ignored h
  case clear =>
    have hacc : (clearKinds kinds s.wrote).accepts who.frame = true :=
      (accepts_of_mgmt (clearKinds_frame kinds s.wrote) _).trans ha
    refine ⟨clearKinds kinds s.wrote, _, rfl, managed_of_accepts ho rfl hacc, ?_, ?_⟩
    · rw [attentionSet_clearKinds, if_pos hk]
    · rw [event_clearKinds, if_pos ⟨by decide, hk⟩]
  case removal =>
    have hacc : (removeAttention set s.wrote).accepts who.frame = true :=
      (accepts_of_mgmt (removeAttention_frame set s.wrote) _).trans ha
    refine ⟨removeAttention set s.wrote, _, rfl, managed_of_accepts ho rfl hacc, removeAttention_frame set s.wrote,
      attentionSet_removeAttention set s.wrote, fun k => event_removeAttention_other set s.wrote, fun hempty => ?_,
      fun hleft => ?_⟩
    · rw [removeAttention_of_empty (s := s.wrote) hempty, event_clearKind, if_pos rfl, inFlight_clearKind]
      exact ⟨rfl, rfl⟩
    · rw [removeAttention_of_left (s := s.wrote) hleft]
      exact ⟨rfl, rfl⟩

end Sys2Proof.Machine
end

section
/-! SUPPORT. Steps: the step, what a reset leaves, the frames of a command, and the Section Pool along every step. -/

namespace Sys2Proof.Machine

/-! ## The step -/

/-- Settles O1: the front command is taken off before it acts. -/
theorem stepRunsTheFrontCommand : Obligations.StepRunsTheFrontCommand := fun _ _ _ => rfl

/-- A step is the front command on the rest of the queue, or one local cycle. -/
theorem step_cases {s t : State} (h : step s = .next t) :
    (∃ c rest, s.pending = c :: rest ∧ exec c { s with pending := rest } = .next t) ∨ (s.pending = [] ∧ t = tick s) := by
  unfold step at h
  split at h
  · next c rest hp => exact .inl ⟨c, rest, hp, h⟩
  · next hp => exact .inr ⟨hp, (Host.Outcome.next.inj h).symm⟩

/-! ## The end of an act (R131, R155) -/

theorem settleDrains_of_none {s : State} (h : ∀ i, (s.slot i).drain = none) : settleDrains s = s := by
  unfold settleDrains
  induction List.range 16 with
  | nil => rfl
  | cons i l ih => rw [List.foldl_cons, settleDrain_none s i (h i), ih]

/-- Settles O3: nothing awaits routing, and no slot has a Drain record to follow. -/
theorem finishLeavesASettledState : Obligations.FinishLeavesASettledState := by
  rintro s ⟨hrouted, hdrain⟩
  rw [finish, rerouteAll_of_routed 33 hrouted, settleDrains_of_none hdrain]

/-! ## Reset (R182) -/

theorem tgetD_foldl_tset {α : Type} [DecidableEq α] (d : α) (f : Nat → α) (l : List Nat) (t : List (Nat × α)) (j : Nat) :
    tgetD d (l.foldl (fun t i => tset d t i (f i)) t) j = if j ∈ l then f j else tgetD d t j := by
  induction l generalizing t with
  | nil => simp
  | cons i l ih =>
    rw [List.foldl_cons, ih, tgetD_tset]
    by_cases hl : j ∈ l <;> by_cases hi : j = i <;> simp [hl, hi]

/-- R116: each slot after a power-on reset. -/
theorem slot_powerOn (root : Bool) (mgr : Nat) (s : State) {i : Nat} (hi : i < 16) :
    (powerOn root mgr s).slot i = powerOnSlot (s.slot i) := by
  have h := tgetD_foldl_tset ({} : Slot) (fun i => powerOnSlot (s.slot i)) (List.range 16) [] i
  rw [if_pos (List.mem_range.mpr hi)] at h
  exact h

/-- Settles O5, unit by unit. -/
theorem powerOnResetValues : Obligations.PowerOnResetValues := by
  intro root mgr s
  refine ⟨powerOn root mgr.val s, rfl, fun p => by cases p <;> rfl, rfl, rfl, rfl, rfl, rfl, rfl, rfl, ?mgmt, rfl, rfl,
    rfl, ?slots⟩
  case mgmt => simp [powerOn, raise, State.setEvent, State.event, EventRecord.raise]; rfl
  case slots =>
    intro i hi
    rw [slot_powerOn root mgr.val s hi]
    exact ⟨rfl, rfl, rfl, rfl, rfl, rfl, rfl, rfl⟩

theorem laneHeld_default : Slot.laneHeld {} := ⟨rfl, Nat.le_refl _, by decide, fun _ => ⟨rfl, rfl⟩⟩

theorem bounded_of_fresh (b : Bool) : Port.bounded { cableSense := b } := by
  unfold Port.bounded; simp

/-- Settles O6, invariant by invariant. -/
theorem resetIsSafe : Obligations.ResetIsSafe :=
  ⟨⟨reset_pool_wf, ⟨bounded_of_fresh false, bounded_of_fresh false⟩,
    ⟨fun _ => ⟨rfl, rfl, rfl, rfl⟩, fun h => by cases h⟩, fun _ => laneHeld_default⟩, rfl⟩

/-! ## What no command changes -/

/-- What holds of the outcome and of the state it falls back to holds of the state taken. -/
theorem getD_of_forall {α : Type} {P : α → Prop} {o : Option α} {d : α} (ho : ∀ t, o = some t → P t) (hd : P d) :
    P (o.getD d) := by
  cases o with
  | none => exact hd
  | some t => exact ho t rfl

/-- Every command but a power-on reset leaves what `still` names as it was. -/
theorem exec_still {c : Instr} {s t : State} (h : exec c s = .next t) (hc : ∀ root mgr, c ≠ .powerOnReset root mgr) :
    t.still = s.still := by
  cases c
  all_goals obtain rfl := Host.Outcome.next.inj h
  case powerOnReset root mgr => exact absurd rfl (hc root mgr)
  case routeTableWrite => exact managed_still _ _ _ (writeEach_still _ (fun _ _ _ => writeRoute_still _ _ _) _ _)
  case bindingWrite => exact managed_still _ _ _ (writeEach_still _ (fun _ _ _ => writeBinding_still _ _ _) _ _)
  case windowWrite => exact managed_still _ _ _ (writeEach_still _ (fun _ _ _ => writeWindow_still _ _ _) _ _)
  case streamParcelReceived => unfold streamArrives; simp
  case completionLaneSend => exact (finish_still _).trans (getD_of_forall (fun _ => commitCompletion_still) rfl)
  case inboundSend => exact getD_of_forall (fun _ => commitInbound_still) rfl
  all_goals simp

/-- Settles O4: a power-on reset by its definition, every other command by what it leaves still. -/
theorem commandsLeaveTheQueueAlone : Obligations.CommandsLeaveTheQueueAlone := by
  intro c s t h
  by_cases hc : ∃ root mgr, c = .powerOnReset root mgr
  · obtain ⟨root, mgr, rfl⟩ := hc
    obtain rfl := Host.Outcome.next.inj h
    exact ⟨rfl, rfl, .inl ⟨root, mgr, rfl⟩⟩
  · have hs : (t.unitId, t.pending, t.localTime, t.mgrSlot) = (s.unitId, s.pending, s.localTime, s.mgrSlot) :=
      exec_still h (fun root mgr e => hc ⟨root, mgr, e⟩)
    obtain ⟨hu, hp, hl, hm⟩ := by simpa only [Prod.mk.injEq] using hs
    exact ⟨hp, hu, .inr ⟨hl, hm⟩⟩

/-! ## The Section Pool (6.1) -/

theorem finish_wf {s : State} (h : Memory.wf s.pool) : Memory.wf (finish s).pool := wf_of_pool_eq (finish_pool s) h

/-- Every command keeps the canonical form of the Section Pool: a few write its bytes, and the others leave it alone. -/
theorem exec_pool_wf {c : Instr} {s t : State} (h : exec c s = .next t) (hs : Memory.wf s.pool) : Memory.wf t.pool := by
  cases c
  all_goals obtain rfl := Host.Outcome.next.inj h
  case powerOnReset => exact reset_pool_wf
  case loopbackParcelReturned => exact loopbackReturn_wf _ _ _ hs
  case badParcelArrival => exact finish_wf (receiveBytes_wf _ _ _ hs)
  case epochBoundary => exact finish_wf (epochBoundary_wf _ hs)
  case sampleBurst => exact fromModule_wf _ _ _ (burstArrives_wf _ _ _ _) hs
  case undefinedLaneMessage => exact finish_wf (receiveLaneBytes_wf _ _ _ hs)
  case streamParcelReceived =>
    unfold streamArrives
    split
    · exact finish_wf (wf_of_pool_eq (badParcel_pool _ _ _ _) hs)
    · exact receiveStream_wf _ _ _ hs
  case routeTableWrite =>
    exact wf_of_pool_eq (managed_pool _ _ _ (writeEach_pool _ (fun _ _ _ => writeRoute_pool _ _ _) _ _)) hs
  case bindingWrite =>
    exact wf_of_pool_eq (managed_pool _ _ _ (writeEach_pool _ (fun _ _ _ => writeBinding_pool _ _ _) _ _)) hs
  case windowWrite =>
    exact wf_of_pool_eq (managed_pool _ _ _ (writeEach_pool _ (fun _ _ _ => writeWindow_pool _ _ _) _ _)) hs
  case completionLaneSend =>
    exact finish_wf (wf_of_pool_eq (getD_of_forall (P := fun u : State => u.pool = s.pool) (fun _ => commitCompletion_pool) rfl) hs)
  case inboundSend =>
    exact wf_of_pool_eq (getD_of_forall (P := fun u : State => u.pool = s.pool) (fun _ => commitInbound_pool) rfl) hs
  all_goals exact wf_of_pool_eq (by simp) hs

theorem drainLane_pool (s : State) (i : Nat) : (drainLane s i).pool = s.pool := by
  unfold drainLane; split <;> simp

theorem tick_pool (s : State) : (tick s).pool = s.pool := by
  have ha : (advance s).pool = s.pool := foldl_pool drainLane drainLane_pool (List.range 16) _
  simpa only [tick] using ha

/-- Settles O10: by the front command, or by a local cycle, which leaves the pool alone. -/
theorem stepsKeepThePool : Obligations.StepsKeepThePool := by
  intro s t hs h
  rcases step_cases h with ⟨c, rest, -, hc⟩ | ⟨-, rfl⟩
  · exact exec_pool_wf hc hs
  · exact wf_of_pool_eq (tick_pool s) hs

end Sys2Proof.Machine
end

section
/-! SUPPORT. The local cycle: what one cycle of the oscillator moves, and which commands come due in it. -/

namespace Sys2Proof.Machine

/-! ## The units whose time brings a command -/

/-- The records that bring commands of their own as time passes. -/
inductive DueUnit where
  | time
  | port (p : PortId)
  | slot (i : Fin 16)
  | entry (k : Fin 32)
  | handle (h : Fin 16)
  | channel (x : Fin 4)
  | notice
  deriving DecidableEq

/-- The unit whose time brings a command, where time brings it. -/
def dueUnit : Instr → Option DueUnit
  | .epochBoundary => some .time
  | .slewEnd => some .time
  | .triggerFire => some .time
  | .helloTimer p => some (.port p)
  | .pairingTimeout p => some (.port p)
  | .echoSpacing p => some (.port p)
  | .burstEnd p => some (.port p)
  | .loopbackParcelReturned p _ => some (.port p)
  | .loopbackSilenceEnd p => some (.port p)
  | .parcelTransmit p => some (.port p)
  | .transactionQueueTake p _ => some (.port p)
  | .debounceExpiry i => some (.slot i)
  | .powerTimeout i => some (.slot i)
  | .drainLimit i => some (.slot i)
  | .completionLaneSend i => some (.slot i)
  | .inboundSend i => some (.slot i)
  | .sectionSegmentSend i => some (.slot i)
  | .slotRequestTaken i _ => some (.slot i)
  | .lockExpiry i => some (.slot i)
  | .transactionDeadline k => some (.entry k)
  | .backoffEnd k => some (.entry k)
  | .responseDeadline h => some (.handle h)
  | .chunkReadStart x => some (.channel x)
  | .chunkWriteStart x => some (.channel x)
  | .noticeIssue => some .notice
  | _ => none

variable (s : State)

/-- The commands that a unit brings. -/
def State.dueOf : DueUnit → List Instr
  | .time => s.dueTime
  | .port p => s.duePort p
  | .slot i => s.dueSlot i
  | .entry k => s.dueEntry k
  | .handle h => s.dueHandle h
  | .channel x => s.dueChannel x
  | .notice => due (s.noticeToSend.isSome && (s.grant 20).isSome) .noticeIssue

theorem mem_due {b : Bool} {i c : Instr} : c ∈ due b i ↔ b = true ∧ c = i := by
  unfold due; split <;> simp_all

theorem mem_dueCommands {c : Instr} : c ∈ s.dueCommands ↔ ∃ u, c ∈ s.dueOf u := by
  constructor
  · intro h
    simp only [State.dueCommands, List.mem_append, List.mem_flatMap] at h
    rcases h with (((((h | ⟨p, -, h⟩) | ⟨i, -, h⟩) | ⟨k, -, h⟩) | ⟨x, -, h⟩) | ⟨x, -, h⟩) | h
    · exact ⟨.time, h⟩
    · exact ⟨.port p, h⟩
    · exact ⟨.slot i, h⟩
    · exact ⟨.entry k, h⟩
    · exact ⟨.handle x, h⟩
    · exact ⟨.channel x, h⟩
    · exact ⟨.notice, h⟩
  · rintro ⟨u, h⟩
    have hall : ∀ p : PortId, p ∈ PortId.all := fun p => by cases p <;> decide
    simp only [State.dueCommands, List.mem_append, List.mem_flatMap]
    cases u with
    | time => exact .inl (.inl (.inl (.inl (.inl (.inl h)))))
    | port p => exact .inl (.inl (.inl (.inl (.inl (.inr ⟨p, hall p, h⟩)))))
    | slot i => exact .inl (.inl (.inl (.inl (.inr ⟨i, List.mem_finRange i, h⟩))))
    | entry k => exact .inl (.inl (.inl (.inr ⟨k, List.mem_finRange k, h⟩)))
    | handle x => exact .inl (.inl (.inr ⟨x, List.mem_finRange x, h⟩))
    | channel x => exact .inl (.inr ⟨x, List.mem_finRange x, h⟩)
    | notice => exact .inr h

/-- Every command that a unit brings names that unit. -/
theorem dueUnit_of_mem {c : Instr} {u : DueUnit} (h : c ∈ s.dueOf u) : dueUnit c = some u := by
  cases u
  case time =>
    simp only [State.dueOf, State.dueTime, List.mem_append, mem_due] at h
    rcases h with (⟨-, rfl⟩ | ⟨-, rfl⟩) | ⟨-, rfl⟩ <;> rfl
  case port p =>
    simp only [State.dueOf, State.duePort, List.mem_append, mem_due] at h
    rcases h with ((((((⟨-, rfl⟩ | ⟨-, rfl⟩) | h) | h) | h) | ⟨-, rfl⟩) | ⟨-, rfl⟩) | ⟨-, rfl⟩
    case inl.inl.inl.inl.inl.inr =>
      split at h
      · obtain ⟨-, rfl⟩ := mem_due.mp h
        split <;> rfl
      · cases h
    case inl.inl.inl.inl.inr =>
      split at h
      · obtain ⟨-, rfl⟩ := mem_due.mp h; rfl
      · cases h
    case inl.inl.inl.inr =>
      split at h
      · obtain ⟨-, rfl⟩ := mem_due.mp h; rfl
      · cases h
    all_goals rfl
  case slot i =>
    simp only [State.dueOf, State.dueSlot, List.mem_append, mem_due] at h
    rcases h with ((((((⟨-, rfl⟩ | ⟨-, rfl⟩) | ⟨-, rfl⟩) | ⟨-, rfl⟩) | ⟨-, rfl⟩) | ⟨-, rfl⟩) | ⟨-, rfl⟩) | ⟨-, rfl⟩ <;> rfl
  case entry k =>
    simp only [State.dueOf, State.dueEntry] at h
    split at h
    · cases h
    · split at h
      case h_4 => cases h
      all_goals obtain ⟨-, rfl⟩ := mem_due.mp h; rfl
  case handle x =>
    simp only [State.dueOf, State.dueHandle] at h
    split at h
    · cases h
    · obtain ⟨-, rfl⟩ := mem_due.mp h; rfl
  case channel x =>
    simp only [State.dueOf, State.dueChannel, List.mem_append, mem_due] at h
    rcases h with ⟨-, rfl⟩ | ⟨-, rfl⟩ <;> rfl
  case notice => obtain ⟨-, rfl⟩ := mem_due.mp h; rfl

/-- A command has come due exactly where its own unit brings it. -/
theorem mem_dueCommands_of_unit {c : Instr} {u : DueUnit} (h : dueUnit c = some u) : c ∈ s.dueCommands ↔ c ∈ s.dueOf u := by
  rw [mem_dueCommands]
  constructor
  · rintro ⟨v, hv⟩
    obtain rfl : v = u := Option.some.inj ((dueUnit_of_mem s hv).symm.trans h)
    exact hv
  · exact fun hu => ⟨u, hu⟩

/-! ## When the rows of the statement come due -/

theorem epochBoundary_due : .epochBoundary ∈ s.dueCommands ↔ s.rtu.boundaryReached = true := by
  rw [mem_dueCommands_of_unit s (u := .time) rfl]
  simp [State.dueOf, State.dueTime, mem_due]

theorem helloTimer_due (p : PortId) : .helloTimer p ∈ s.dueCommands ↔
    ((s.port p).state = .pairing ∨ (s.port p).state = .measure) ∧ (s.port p).helloAt ≤ s.localTime := by
  rw [mem_dueCommands_of_unit s (u := .port p) rfl]
  have hown : Instr.helloTimer p ∈ s.dueOf (.port p) ↔
      (((s.port p).state == .pairing || (s.port p).state == .measure) && s.reached (s.port p).helloAt) = true := by
    simp only [State.dueOf, State.duePort, List.mem_append, mem_due]
    constructor
    · rintro (((((((⟨h, -⟩ | ⟨-, h⟩) | h) | h) | h) | ⟨-, h⟩) | ⟨-, h⟩) | ⟨-, h⟩)
      · exact h
      · cases h
      · split at h
        · have he := (mem_due.mp h).2
          split_ifs at he
        · cases h
      · split at h
        · cases (mem_due.mp h).2
        · cases h
      · split at h
        · cases (mem_due.mp h).2
        · cases h
      all_goals cases h
    · exact fun h => .inl (.inl (.inl (.inl (.inl (.inl (.inl ⟨h, trivial⟩))))))
  rw [hown]
  simp [State.reached]

theorem debounceExpiry_due (i : Fin 16) : .debounceExpiry i ∈ s.dueCommands ↔ s.timerReached (s.slot i) .debounce = true := by
  rw [mem_dueCommands_of_unit s (u := .slot i) rfl]
  simp [State.dueOf, State.dueSlot, mem_due]

theorem powerTimeout_due (i : Fin 16) : .powerTimeout i ∈ s.dueCommands ↔ s.timerReached (s.slot i) .power = true := by
  rw [mem_dueCommands_of_unit s (u := .slot i) rfl]
  simp [State.dueOf, State.dueSlot, mem_due]

theorem drainLimit_due (i : Fin 16) : .drainLimit i ∈ s.dueCommands ↔ s.timerReached (s.slot i) .drain = true := by
  rw [mem_dueCommands_of_unit s (u := .slot i) rfl]
  simp [State.dueOf, State.dueSlot, mem_due]

theorem transactionDeadline_due {k : Fin 32} {e : OttEntry} (he : s.ottEntry k = some e) :
    .transactionDeadline k ∈ s.dueCommands ↔ (e.state = .queued ∨ e.state = .sent) ∧ e.deadline ≤ s.localTime := by
  rw [mem_dueCommands_of_unit s (u := .entry k) rfl]
  simp only [State.dueOf, State.dueEntry, he]
  cases e.state <;> simp [mem_due, State.reached]

theorem backoffEnd_due {k : Fin 32} {e : OttEntry} (he : s.ottEntry k = some e) :
    .backoffEnd k ∈ s.dueCommands ↔ e.state = .backoff ∧ e.deadline ≤ s.localTime := by
  rw [mem_dueCommands_of_unit s (u := .entry k) rfl]
  simp only [State.dueOf, State.dueEntry, he]
  cases e.state <;> simp [mem_due, State.reached]

theorem responseDeadline_due {h : Fin 16} {e : InEntry} (he : s.inEntry h = some e) :
    .responseDeadline h ∈ s.dueCommands ↔ e.state ≠ .answering ∧ e.deadline ≤ s.localTime := by
  rw [mem_dueCommands_of_unit s (u := .handle h) rfl]
  simp [State.dueOf, State.dueHandle, he, mem_due, State.reached]

/-- Log entry 4: the order in which due commands wait loses and repeats none. -/
theorem dueInOrder_perm : s.dueInOrder.Perm s.dueCommands := by
  unfold State.dueInOrder
  refine ((List.perm_insertionSort _ _).map _).trans ?_
  simp

/-! ## What time alone moves -/

/-- R124: a lane sends at most the first of its committed messages. -/
theorem slot_drainLane (i j : Nat) : (drainLane s i).slot j = s.slot j ∨
    (j = i ∧ ∃ m rest, (s.slot j).committed = m :: rest ∧ (drainLane s i).slot j = { s.slot j with committed := rest }) := by
  unfold drainLane
  split
  · exact .inl rfl
  · next m rest hc =>
    split
    · by_cases hj : j = i
      · subst hj
        exact .inr ⟨rfl, m, rest, hc, by rw [State.slot_updSlot_same]⟩
      · exact .inl (by rw [State.slot_updSlot, if_neg hj])
    · exact .inl rfl

/-- A lane's sending changes the slots' records alone. -/
theorem drainLane_frame (i : Nat) : drainLane s i = { s with slots := (drainLane s i).slots } := by
  unfold drainLane
  split
  · rfl
  · split <;> rfl

theorem foldl_drainLane_frame (l : List Nat) (s : State) :
    l.foldl drainLane s = { s with slots := (l.foldl drainLane s).slots } := by
  induction l generalizing s with
  | nil => rfl
  | cons i l ih => rw [List.foldl_cons, ih, drainLane_frame]

theorem slot_foldl_drainLane_of_not_mem {l : List Nat} {j : Nat} (hj : j ∉ l) (s : State) :
    (l.foldl drainLane s).slot j = s.slot j := by
  induction l generalizing s with
  | nil => rfl
  | cons i l ih =>
    obtain ⟨hji, hjl⟩ := not_or.mp (fun h => hj (List.mem_cons.mpr h))
    rw [List.foldl_cons, ih hjl]
    rcases slot_drainLane s i j with h | ⟨h, -⟩
    · exact h
    · exact absurd h hji

/-- R124: each lane sends at most once in a cycle. -/
theorem slot_foldl_drainLane {l : List Nat} (hl : l.Nodup) (s : State) (j : Nat) :
    (l.foldl drainLane s).slot j = s.slot j ∨
      ∃ m rest, (s.slot j).committed = m :: rest ∧ (l.foldl drainLane s).slot j = { s.slot j with committed := rest } := by
  induction l generalizing s with
  | nil => exact .inl rfl
  | cons i l ih =>
    obtain ⟨hi, hl⟩ := List.nodup_cons.mp hl
    rw [List.foldl_cons]
    rcases slot_drainLane s i j with h | ⟨rfl, h⟩
    · simpa only [h] using ih hl (drainLane s i)
    · exact .inr (by simpa only [slot_foldl_drainLane_of_not_mem hi] using h)

/-! ## The statement -/

/-- What the cycle changes outside the slots' records. -/
theorem advance_frame : advance s =
    { s with localTime := s.localTime + 1, rtu := s.rtu.cycle, sideband := [], slots := (advance s).slots } :=
  foldl_drainLane_frame _ _

theorem slot_advance (j : Nat) : (advance s).slot j = s.slot j ∨
    ∃ m rest, (s.slot j).committed = m :: rest ∧ (advance s).slot j = { s.slot j with committed := rest } :=
  slot_foldl_drainLane List.nodup_range _ j

/-- R119, R121, R132: when a running timer has reached its limit. -/
theorem timerReached_iff {r : Slot} {k : TimerKind} {start : Nat} (h : r.timer = some ⟨k, start⟩) :
    s.timerReached r k = true ↔ start + (match k with
      | .debounce => 16 * 125000
      | .power => r.powerTimeout * 125000
      | .drain => r.drainLimit * 125000) ≤ s.localTime := by
  simp only [State.timerReached, h, beq_self_eq_true, Bool.true_and]
  rw [decide_eq_true_iff]
  cases k <;> exact Iff.rfl

/-- Settles O2: a cycle moves time and the lanes, and what has come due in the state after it waits. -/
theorem idleStepIsOneLocalCycle : Obligations.IdleStepIsOneLocalCycle := by
  intro s hs
  obtain ⟨slots, hadv⟩ : ∃ slots, advance s =
      { s with localTime := s.localTime + 1, rtu := s.rtu.cycle, sideband := [], slots := slots } := ⟨_, advance_frame s⟩
  have hslot := slot_advance s
  generalize hu : advance s = u at hadv hslot
  have hlocal : u.localTime = s.localTime + 1 := by rw [hadv]
  have hpending : u.pending = [] := by rw [hadv]; exact hs
  have hstep : step s = .next { u with pending := u.dueInOrder } := by
    unfold step tick
    rw [hs, hu]
    dsimp only
    rw [hpending, List.nil_append]
  have hmem : ∀ c, c ∈ u.dueInOrder ↔ c ∈ u.dueCommands := fun c => (dueInOrder_perm u).mem_iff
  have hself : { u with pending := [] } = u := by rw [← hpending]
  have hport : ∀ p, u.port p = s.port p := fun p => by rw [hadv]; cases p <;> rfl
  have hott : ∀ k, u.ottEntry k = s.ottEntry k := fun k => by rw [hadv]; rfl
  have hin : ∀ k, u.inEntry k = s.inEntry k := fun k => by rw [hadv]; rfl
  have hkept : ∀ i, (u.slot i).timer = (s.slot i).timer ∧ (u.slot i).powerTimeout = (s.slot i).powerTimeout ∧
      (u.slot i).drainLimit = (s.slot i).drainLimit := fun i => by
    rcases hslot i with h | ⟨m, rest, -, h⟩ <;> rw [h] <;> exact ⟨rfl, rfl, rfl⟩
  have htimer : ∀ {i : Nat} {k start}, (s.slot i).timer = some ⟨k, start⟩ → (u.slot i).timer = some ⟨k, start⟩ :=
    fun h => (hkept _).1.trans h
  refine ⟨{ u with pending := u.dueInOrder }, hstep, hlocal, ?rtu, by rw [hadv], by rw [hadv], by rw [hadv], by rw [hadv],
    by rw [hadv], by rw [hadv], by rw [hadv], by rw [hadv], by rw [hadv], by rw [hadv], by rw [hadv], by rw [hadv],
    by rw [hadv], hslot, ?perm, ?boundary, ?hello, ?debounce, ?power, ?drain, ?entries, ?handles⟩
  case rtu => rw [hadv]; rfl
  case perm =>
    show u.dueInOrder.Perm (State.dueCommands { u with pending := [] })
    rw [hself]
    exact dueInOrder_perm u
  case boundary =>
    show .epochBoundary ∈ u.dueInOrder ↔ u.rtu.rackTime.toNat / 2 ^ 49 ≠ s.rtu.epoch
    have hepoch : u.rtu.epoch = s.rtu.epoch := by rw [hadv]; rfl
    rw [hmem, epochBoundary_due, Rtu.boundaryReached, Rtu.ticks, hepoch, bne_iff_ne, Nat.div_div_eq_div_mul, ← pow_add]
  case hello =>
    intro p
    rw [hmem, helloTimer_due, hport, hlocal]
  case debounce =>
    intro i start h
    rw [hmem, debounceExpiry_due, timerReached_iff u (htimer h), hlocal]
  case power =>
    intro i start h
    rw [hmem, powerTimeout_due, timerReached_iff u (htimer h), hlocal, (hkept i).2.1]
  case drain =>
    intro i start h
    rw [hmem, drainLimit_due, timerReached_iff u (htimer h), hlocal, (hkept i).2.2]
  case entries =>
    intro k e he
    rw [hmem, hmem, transactionDeadline_due u ((hott k).trans he), backoffEnd_due u ((hott k).trans he), hlocal]
    exact ⟨Iff.rfl, Iff.rfl⟩
  case handles =>
    intro k e he
    rw [hmem, responseDeadline_due u ((hin k).trans he), hlocal]

end Sys2Proof.Machine
end

section
/-! SUPPORT. What every act keeps: the bounds of the ports, the root's hold on frame 0 and REFERENCE, and each slot's
lane in line with its state. One lemma for each operation of the machine, as for the Section Pool. -/

namespace Sys2Proof.Machine

/-- From `s` to `t` each port's bounds, the root's hold and each slot's lane are kept. -/
structure Keeps (s t : State) : Prop where
  bounded : ∀ p, (s.port p).bounded → (t.port p).bounded
  root : s.rootHeld → t.rootHeld
  lanes : ∀ i, (s.slot i).laneHeld → (t.slot i).laneHeld

variable {u s t : State}

theorem Keeps.refl (s : State) : Keeps s s := ⟨fun _ h => h, fun h => h, fun _ h => h⟩

theorem Keeps.trans (h : Keeps s t) (h' : Keeps t u) : Keeps s u :=
  ⟨fun p hp => h'.bounded p (h.bounded p hp), fun hr => h'.root (h.root hr), fun i hi => h'.lanes i (h.lanes i hi)⟩

/-- An act on units that none of the three speaks of keeps them; of the timebase they name REFERENCE alone. -/
theorem Keeps.of_eq (h : Keeps u s) (h0 : t.port0 = s.port0) (h1 : t.port1 = s.port1) (ht : t.topo = s.topo)
    (hr : t.rtu.state = .reference ↔ s.rtu.state = .reference) (hs : t.slots = s.slots) : Keeps u t where
  bounded p hp := by
    have hport : t.port p = s.port p := by cases p <;> assumption
    rw [hport]; exact h.bounded p hp
  root hroot := by
    have := h.root hroot
    unfold State.rootHeld at this ⊢
    rwa [ht, Ne, hr]
  lanes i hi := by
    have hslot : t.slot i = s.slot i := by unfold State.slot; rw [hs]
    rw [hslot]; exact h.lanes i hi

theorem Keeps.foldl {α : Type} {f : State → α → State} (h : Keeps u s) (l : List α) (hf : ∀ u a, Keeps u (f u a)) :
    Keeps u (l.foldl f s) := by
  induction l generalizing s with
  | nil => exact h
  | cons a l ih => exact ih (h.trans (hf s a))

/-! ## Ports -/

namespace Port
variable {r : Port}

theorem bounded_qTiming {q : List TimingItem} (h : r.bounded) (hq : q.length ≤ 8) : ({ r with qTiming := q } : Port).bounded := by
  obtain ⟨-, hrest⟩ := h
  exact ⟨hq, hrest⟩

theorem bounded_qLink {q : List LinkItem} (h : r.bounded) (hq : q.length ≤ 32) : ({ r with qLink := q } : Port).bounded := by
  obtain ⟨h1, -, hrest⟩ := h
  exact ⟨h1, hq, hrest⟩

theorem bounded_qStream {q : List StreamParcel} (h : r.bounded) (hq : q.length ≤ 128) :
    ({ r with qStream := q } : Port).bounded := by
  obtain ⟨h1, h2, -, hrest⟩ := h
  exact ⟨h1, h2, hq, hrest⟩

theorem bounded_qCompletion {q : List Completion} (h : r.bounded) (hq : q.length ≤ 16) :
    ({ r with qCompletion := q } : Port).bounded := by
  obtain ⟨h1, h2, h3, -, hrest⟩ := h
  exact ⟨h1, h2, h3, hq, hrest⟩

theorem bounded_qRequest {q : List Request} (h : r.bounded) (hq : q.length ≤ 16) :
    ({ r with qRequest := q } : Port).bounded := by
  obtain ⟨h1, h2, h3, h4, -, hrest⟩ := h
  exact ⟨h1, h2, h3, h4, hq, hrest⟩

theorem bounded_heldRequests {q : List HeldRequest} (h : r.bounded) (hq : q.length ≤ 8) :
    ({ r with heldRequests := q } : Port).bounded := by
  obtain ⟨h1, h2, h3, h4, h5, -, hrest⟩ := h
  exact ⟨h1, h2, h3, h4, h5, hq, hrest⟩

theorem bounded_heldCompletions {q : List HeldCompletion} (h : r.bounded) (hq : q.length ≤ 8) :
    ({ r with heldCompletions := q } : Port).bounded := by
  obtain ⟨h1, h2, h3, h4, h5, h6, -, hrest⟩ := h
  exact ⟨h1, h2, h3, h4, h5, h6, hq, hrest⟩

theorem bounded_txCredits {x : Credits} {q : Option Peer} (h : r.bounded)
    (hs : x.stream ≤ ({ r with peer := q } : Port).limit .stream)
    (hr : x.request ≤ ({ r with peer := q } : Port).limit .request)
    (hc : x.completion ≤ ({ r with peer := q } : Port).limit .completion) :
    ({ r with txCredits := x, peer := q } : Port).bounded := by
  obtain ⟨h1, h2, h3, h4, h5, h6, h7, -, -, -, hrest⟩ := h
  exact ⟨h1, h2, h3, h4, h5, h6, h7, hs, hr, hc, hrest⟩

theorem bounded_streamRun {n : Nat} (h : r.bounded) (hn : n ≤ 16) : ({ r with streamRun := n } : Port).bounded := by
  obtain ⟨h1, h2, h3, h4, h5, h6, h7, h8, h9, h10, -, hrest⟩ := h
  exact ⟨h1, h2, h3, h4, h5, h6, h7, h8, h9, h10, hn, hrest⟩

theorem bounded_badThisEpoch {n : Nat} (h : r.bounded) (hn : n ≤ 9) : ({ r with badThisEpoch := n } : Port).bounded := by
  obtain ⟨h1, h2, h3, h4, h5, h6, h7, h8, h9, h10, h11, -⟩ := h
  exact ⟨h1, h2, h3, h4, h5, h6, h7, h8, h9, h10, h11, hn⟩

theorem bounded_offerLink (h : r.bounded) (i : LinkItem) : (r.offerLink i).bounded := by
  rcases r.offerLink_cases i with ⟨hq, he⟩ | ⟨-, he⟩ <;> rw [he]
  · exact bounded_qLink h (by simpa using hq)
  · exact h

theorem bounded_offerTiming (h : r.bounded) (i : TimingItem) : (r.offerTiming i).bounded := by
  rcases r.offerTiming_cases i with ⟨hq, he⟩ | ⟨-, he⟩ <;> rw [he]
  · exact bounded_qTiming h (by simpa using hq)
  · exact h

theorem bounded_offerStream (h : r.bounded) (x : StreamParcel) : (r.offerStream x).bounded := by
  rcases r.offerStream_cases x with ⟨hq, he⟩ | ⟨-, he⟩ <;> rw [he]
  · exact bounded_qStream h (by simpa using hq)
  · exact h

theorem bounded_freeBuffer (h : r.bounded) (c : ParcelClass) : (r.freeBuffer c).bounded := by
  unfold freeBuffer
  split
  · dsimp only
    split
    · exact h
    · exact bounded_offerLink (r := { r with freed := r.freed.add c }) h .credit
  · exact h

/-- R3: a port torn down holds nothing. -/
theorem bounded_teardown (h : r.bounded) : r.teardown.bounded := by
  obtain ⟨-, -, -, -, -, -, -, -, -, -, -, hbad⟩ := h
  unfold bounded teardown
  simp [hbad]

theorem bounded_leave (h : r.bounded) : r.leave.bounded := by
  unfold leave
  split
  · exact bounded_teardown (r := r) h
  · split
    · exact bounded_qTiming (r := r) h (Nat.zero_le 8)
    · exact h

end Port

/-! ## The records -/

theorem Keeps.setPort {p : PortId} {r : Port} (h : Keeps u s) (hr : (s.port p).bounded → r.bounded) :
    Keeps u (s.setPort p r) where
  bounded q hq := by
    rw [State.port_setPort]
    split
    · next he => subst he; exact hr (h.bounded _ hq)
    · exact h.bounded q hq
  root hroot := by unfold State.rootHeld; simpa [State.rootHeld] using h.root hroot
  lanes i hi := by unfold State.slot; simpa [State.slot] using h.lanes i hi

theorem Keeps.updPort {p : PortId} {f : Port → Port} (h : Keeps u s) (hf : (s.port p).bounded → (f (s.port p)).bounded) :
    Keeps u (s.updPort p f) := h.setPort hf

theorem Keeps.countPort {p : PortId} {f : PortCounters → PortCounters} (h : Keeps u s) : Keeps u (s.countPort p f) :=
  h.updPort (fun hb => hb)

theorem Keeps.setSlot {i : Nat} {r : Slot} (h : Keeps u s) (hr : (s.slot i).laneHeld → r.laneHeld) :
    Keeps u (s.setSlot i r) where
  bounded q hq := h.bounded q hq
  root hroot := h.root hroot
  lanes j hj := by
    rw [State.slot_setSlot]
    split
    · next he => subst he; exact hr (h.lanes _ hj)
    · exact h.lanes j hj

theorem Keeps.updSlot {i : Nat} {f : Slot → Slot} (h : Keeps u s) (hf : (s.slot i).laneHeld → (f (s.slot i)).laneHeld) :
    Keeps u (s.updSlot i f) := h.setSlot hf

theorem Keeps.countSlot {i : Nat} {f : SlotCounters → SlotCounters} (h : Keeps u s) : Keeps u (s.countSlot i f) :=
  h.updSlot (fun hl => hl)

/-- A change of the topology record that leaves the straps, the number, the Rootward Port and the hops. -/
theorem Keeps.updTopo {f : Topology → Topology} (h : Keeps u s) (hr : (f s.topo).root = s.topo.root := by rfl)
    (hn : (f s.topo).frameNumber = s.topo.frameNumber := by rfl) (hw : (f s.topo).rootward = s.topo.rootward := by rfl)
    (hh : (f s.topo).hops = s.topo.hops := by rfl) : Keeps u (s.updTopo f) where
  bounded p hp := h.bounded p hp
  root hroot := by
    have := h.root hroot
    unfold State.rootHeld State.updTopo at *
    rwa [hr, hn, hw, hh]
  lanes i hi := h.lanes i hi

/-- A controller that is not the root may change any part of its topology record. -/
theorem Keeps.updTopo_of_not_root {f : Topology → Topology} (h : Keeps u s) (hn : u.rootHeld → s.topo.root = false)
    (hf : (f s.topo).root = s.topo.root) : Keeps u (s.updTopo f) where
  bounded p hp := h.bounded p hp
  root hroot := by
    have hs := hn hroot
    have hne := (h.root hroot).2 hs
    have hr : (s.updTopo f).topo.root = false := hf.trans hs
    exact ⟨fun ht => (Bool.false_ne_true (hr.symm.trans ht)).elim, fun _ => hne⟩
  lanes i hi := h.lanes i hi

theorem Keeps.setBinding {i : Nat} {b : Binding} (h : Keeps u s) : Keeps u (s.setBinding i b) := h.of_eq rfl rfl rfl .rfl rfl
theorem Keeps.setRoute {k : Nat} {e : RouteEntry} (h : Keeps u s) : Keeps u (s.setRoute k e) := h.of_eq rfl rfl rfl .rfl rfl
theorem Keeps.setChannel {c : Nat} {r : Channel} (h : Keeps u s) : Keeps u (s.setChannel c r) := h.of_eq rfl rfl rfl .rfl rfl
theorem Keeps.updTrans {f : Trans → Trans} (h : Keeps u s) : Keeps u (s.updTrans f) := h.of_eq rfl rfl rfl .rfl rfl
theorem Keeps.setOtt {i : Nat} {e : OttEntry} (h : Keeps u s) : Keeps u (s.setOtt i e) := h.of_eq rfl rfl rfl .rfl rfl
theorem Keeps.delOtt {i : Nat} (h : Keeps u s) : Keeps u (s.delOtt i) := h.of_eq rfl rfl rfl .rfl rfl
theorem Keeps.setIn {i : Nat} {e : InEntry} (h : Keeps u s) : Keeps u (s.setIn i e) := h.of_eq rfl rfl rfl .rfl rfl
theorem Keeps.delIn {i : Nat} (h : Keeps u s) : Keeps u (s.delIn i) := h.of_eq rfl rfl rfl .rfl rfl
theorem Keeps.setLock {i : Nat} {l : Lock} (h : Keeps u s) : Keeps u (s.setLock i l) := h.of_eq rfl rfl rfl .rfl rfl
theorem Keeps.setWindow {i : Nat} {w : Window} (h : Keeps u s) : Keeps u (s.setWindow i w) := h.of_eq rfl rfl rfl .rfl rfl
theorem Keeps.updTrig {f : TriggerUnit → TriggerUnit} (h : Keeps u s) : Keeps u (s.updTrig f) := h.of_eq rfl rfl rfl .rfl rfl
theorem Keeps.setEvent {k : Nat} {r : EventRecord} (h : Keeps u s) : Keeps u (s.setEvent k r) := h.of_eq rfl rfl rfl .rfl rfl
theorem Keeps.updMgmt {f : Mgmt → Mgmt} (h : Keeps u s) : Keeps u (s.updMgmt f) := h.of_eq rfl rfl rfl .rfl rfl
theorem Keeps.nextSerial (h : Keeps u s) : Keeps u s.nextSerial := h.of_eq rfl rfl rfl .rfl rfl
theorem Keeps.withRouter {x : Router} (h : Keeps u s) : Keeps u { s with router := x } := h.of_eq rfl rfl rfl .rfl rfl
theorem Keeps.withRtu {x : Rtu} (h : Keeps u s) (hx : x.state = .reference ↔ s.rtu.state = .reference) :
    Keeps u { s with rtu := x } := h.of_eq rfl rfl rfl hx rfl

/-! ## Events (R177) -/

theorem Keeps.raise {k : EventKind} (h : Keeps u s) : Keeps u (raise k s) := h.setEvent

theorem Keeps.raiseIf {b : Bool} {k : EventKind} (h : Keeps u s) : Keeps u (raiseIf b k s) := by
  cases b
  · exact h
  · exact h.raise

theorem Keeps.raiseAll {ks : List EventKind} (h : Keeps u s) : Keeps u (raiseAll ks s) :=
  h.foldl ks (fun u _ => (Keeps.refl u).raise)

theorem Keeps.clearKind {k : Nat} (h : Keeps u s) : Keeps u (clearKind s k) := by
  unfold Machine.clearKind
  dsimp only
  split
  · exact h.setEvent.updMgmt.updMgmt
  · exact h.setEvent.updMgmt

theorem Keeps.clearKinds {set : BitVec 32} (h : Keeps u s) : Keeps u (clearKinds set s) :=
  h.foldl _ (fun u _ => (Keeps.refl u).clearKind)

theorem Keeps.applyRtu {x : RtuStep} (h : Keeps u s) (hx : x.1.state = .reference ↔ s.rtu.state = .reference) :
    Keeps u (s.applyRtu x) := (h.withRtu hx).raiseAll

/-! ## The arbiter of the OTT (R141) -/

theorem Keeps.giveOne (h : Keeps u s) : Keeps u s.giveOne := by
  unfold State.giveOne
  split
  · exact h.updTrans
  · exact h

theorem Keeps.give {n : Nat} (h : Keeps u s) : Keeps u (State.give n s) := by
  induction n generalizing s with
  | zero => exact h
  | succ n ih => exact ih h.giveOne

theorem Keeps.noteFreed (h : Keeps u t) : Keeps u (s.noteFreed t) := by
  unfold State.noteFreed
  split
  · exact (h.updTrans.give).give
  · exact h

theorem Keeps.freeOtt {i : Nat} (h : Keeps u s) : Keeps u (s.freeOtt i) := h.delOtt.noteFreed

/-! ## The tree (chapter 2) -/

theorem Keeps.recommitPort {p : PortId} (h : Keeps u s) : Keeps u (recommitPort s p) := h.withRouter.raiseIf

theorem Keeps.recommit (h : Keeps u s) : Keeps u (recommit s) := h.recommitPort.recommitPort

theorem length_replaceHello (h : Hello) (q : List LinkItem) : (replaceHello h q).length = q.length := by
  induction q with
  | nil => rfl
  | cons i q ih => cases i <;> simp [replaceHello, ih]

theorem Keeps.sendHello {p : PortId} (h : Keeps u s) : Keeps u (sendHello s p) := by
  refine h.updPort (fun hb => ?_)
  split
  · dsimp only
    split
    · exact Port.bounded_qLink hb (by rw [length_replaceHello]; exact hb.2.1)
    · split
      · next hq => exact Port.bounded_qLink hb (by simpa using hq)
      · exact hb
  · exact hb

theorem Keeps.helloUpPorts (h : Keeps u s) : Keeps u (helloUpPorts s) :=
  h.foldl _ (fun u p => by
    split
    · exact (Keeps.refl u).sendHello
    · exact Keeps.refl u)

theorem Keeps.announceExcept {x : Option PortId} {a : Announce} (h : Keeps u s) : Keeps u (announceExcept x a s) :=
  h.foldl _ (fun u p => by
    split
    · exact (Keeps.refl u).updPort (fun hb => Port.bounded_offerLink hb _)
    · exact Keeps.refl u)

theorem Keeps.sendAnnounce (h : Keeps u s) : Keeps u (sendAnnounce s) := by
  unfold Machine.sendAnnounce
  split
  · exact h.announceExcept
  · exact h

theorem Keeps.purgePort {p : PortId} (h : Keeps u s) : Keeps u (purgePort p s) := h.updTopo

theorem Keeps.purgeLost (h : Keeps u s) : Keeps u (purgeLost t s) :=
  h.foldl _ (fun u p => by
    split
    · exact (Keeps.refl u).purgePort
    · exact Keeps.refl u)

theorem Keeps.treeChange (h : Keeps u s) : Keeps u (treeChange t s) := by
  unfold Machine.treeChange
  split
  · exact h
  · exact h.purgeLost.recommit

theorem referenceLost_reference (r : Rtu) : r.referenceLost.1.state = .reference ↔ r.state = .reference := by
  unfold Rtu.referenceLost
  split <;> simp_all

/-- R31: a root has no Rootward Port to change. -/
theorem Keeps.rootwardChange {x : Option PortId} (h : Keeps u s) (hn : u.rootHeld → s.topo.root = false) :
    Keeps u (rootwardChange x s) := by
  unfold Machine.rootwardChange
  have h6 := (h.updTopo_of_not_root (f := fun t => { t with
    rootward := x, hops := x.map (fun p => s.markHops p + 1), rootwardChanges := bump t.rootwardChanges }) hn rfl
    ).purgeLost (t := s) |>.helloUpPorts.raise (k := .rootChanged) |>.sendAnnounce.recommit
  dsimp only
  split
  · exact h6.applyRtu (referenceLost_reference _)
  · exact h6

theorem State.rootHeld.not_root {p : PortId} (h : s.rootHeld) (hp : s.topo.rootward = some p) : s.topo.root = false := by
  by_contra hr
  obtain ⟨-, hnone, -⟩ := h.1 (by simpa using hr)
  rw [hnone] at hp
  cases hp

theorem Keeps.rootwardLost {p q : PortId} (h : Keeps u s) (hq : s.topo.rootward = some q) : Keeps u (rootwardLost p s) :=
  h.rootwardChange (fun hr => (h.root hr).not_root hq)

theorem Keeps.dropStaleRootward (h : Keeps u s) : Keeps u (dropStaleRootward s) := by
  unfold Machine.dropStaleRootward
  split
  · next p hp =>
    split
    · split
      · exact h.rootwardLost hp
      · exact h
    · exact h
  · exact h

theorem Keeps.chooseRootward (h : Keeps u s) : Keeps u (chooseRootward s) := by
  unfold Machine.chooseRootward
  split
  · exact h
  · next hroot =>
    split
    · exact h.rootwardChange (fun _ => by simp at hroot; exact hroot.1)
    · exact h

theorem Keeps.topologyBoundary (h : Keeps u s) : Keeps u (topologyBoundary s) := by
  unfold Machine.topologyBoundary
  dsimp only
  split
  · exact h.updTopo.chooseRootward
  · exact h.updTopo.dropStaleRootward

theorem countLock_state (θ : Int) (x : RtuStep) :
    (Rtu.countLock θ x).1.state = .track ∨ (Rtu.countLock θ x).1.state = x.1.state := by
  unfold Rtu.countLock
  dsimp only
  split
  · split
    · exact .inl rfl
    · exact .inr rfl
  · exact .inr rfl

/-- R55: a mark leaves ACQUIRE for TRACK at most. -/
theorem acquireMark_state (θ : Int) (r : Rtu) :
    (Rtu.acquireMark θ r).1.state = .track ∨ (Rtu.acquireMark θ r).1.state = r.state := by
  unfold Rtu.acquireMark
  refine (countLock_state θ _).imp_right (fun h => h.trans ?_)
  split
  · rfl
  · split <;> rfl

/-- R53, R57: a mark leaves TRACK for ACQUIRE at most. -/
theorem trackMark_state (θ : Int) (r : Rtu) :
    (Rtu.trackMark θ r).1.state = .acquire ∨ (Rtu.trackMark θ r).1.state = r.state := by
  unfold Rtu.trackMark
  dsimp only
  split
  · split
    · exact .inr rfl
    · split
      · exact .inl rfl
      · exact .inr rfl
  · split
    · exact .inl rfl
    · exact .inr rfl

theorem acquireMark_ne_reference {θ : Int} {r : Rtu} (h : r.state ≠ .reference) :
    (Rtu.acquireMark θ r).1.state ≠ .reference := by
  rcases acquireMark_state θ r with he | he <;> rw [he]
  · decide
  · exact h

theorem trackMark_ne_reference {θ : Int} {r : Rtu} (h : r.state ≠ .reference) :
    (Rtu.trackMark θ r).1.state ≠ .reference := by
  rcases trackMark_state θ r with he | he <;> rw [he]
  · decide
  · exact h

/-- R44: no mark enters or leaves REFERENCE. -/
theorem usableMark_reference (θ : Int) (e : Nat) (r : Rtu) :
    (Rtu.usableMark θ e r).1.state = .reference ↔ r.state = .reference := by
  unfold Rtu.usableMark
  dsimp only
  split
  · exact Iff.rfl
  · next hs => exact iff_of_false (acquireMark_ne_reference (fun hx : Timebase.acquire = .reference => nomatch hx)) (by rw [hs]; decide)
  · next hs => exact iff_of_false (acquireMark_ne_reference (fun hx : Timebase.acquire = .reference => nomatch hx)) (by rw [hs]; decide)
  · next hs => exact iff_of_false (acquireMark_ne_reference (by rw [hs]; decide)) (by rw [hs]; decide)
  · next hs => exact iff_of_false (trackMark_ne_reference (by rw [hs]; decide)) (by rw [hs]; decide)

theorem Keeps.recordMark {p : PortId} {m : Mark} (h : Keeps u s) : Keeps u (recordMark p m s) :=
  h.updTopo (f := fun t => t.setMark p (some ⟨m.hops, s.rtu.epoch, 0⟩)) (by cases p <;> rfl) (by cases p <;> rfl)
    (by cases p <;> rfl) (by cases p <;> rfl)

theorem root_of_classifyMark {p : PortId} {m : Mark} (h : s.classifyMark p m = .rootward) : s.topo.root = false := by
  unfold State.classifyMark at h
  split at h
  · cases h
  · split at h
    · cases h
    · next hr => simpa using hr

theorem Keeps.acceptMark {p : PortId} {m : Mark} (h : Keeps u s) : Keeps u (acceptMark p m s) := by
  unfold Machine.acceptMark
  split
  · exact h.updTopo
  · exact h.updTopo
  · exact h.recordMark.updTopo
  · next hc =>
    have hroot := root_of_classifyMark hc
    have h1 : Keeps u ((Machine.recordMark p m s).updTopo (fun t => { t with hops := some (m.hops + 1) })) :=
      h.recordMark.updTopo_of_not_root (fun _ => by cases p <;> exact hroot) rfl
    dsimp only
    split
    · split
      · exact (h1.updPort (fun hb => Port.bounded_offerTiming hb _)).applyRtu (usableMark_reference _ _ _)
      · exact h1.applyRtu (usableMark_reference _ _ _)
    · refine Keeps.withRtu ?_ Iff.rfl
      split
      · exact h1.updPort (fun hb => Port.bounded_offerTiming hb _)
      · exact h1

theorem Keeps.forwardAnnounce {p : PortId} {a : Announce} (h : Keeps u s) : Keeps u (forwardAnnounce p a s) := by
  unfold Machine.forwardAnnounce
  split
  · exact h
  · exact h.announceExcept

theorem Keeps.acceptAnnounce {p : PortId} {a : Announce} (h : Keeps u s) : Keeps u (acceptAnnounce p a s) := by
  unfold Machine.acceptAnnounce
  split
  · exact h.updTopo
  · dsimp only
    split
    · exact h.updTopo.updTopo.forwardAnnounce
    · split
      · split
        · exact h.updTopo
        · exact h.updTopo.updTopo
      · exact h.updTopo.updTopo.forwardAnnounce

end Sys2Proof.Machine
end

section
/-! SUPPORT. What the answers, the cable ports and the trigger lines keep. -/

namespace Sys2Proof.Machine

variable {u s t : State}

/-! ## Answers (chapters 8 and 9) -/

theorem Keeps.faultChannel {c : Nat} {d : Bool} {st : Status} (h : Keeps u s) : Keeps u (faultChannel c d st s) :=
  h.setChannel.raise

theorem Keeps.chunkWritten {c : Nat} {x : Chunk} (h : Keeps u s) : Keeps u (chunkWritten c x s) := by
  unfold Machine.chunkWritten
  dsimp only
  split
  · exact h.setChannel.raise
  · exact h.setChannel

theorem Keeps.channelAnswer {c tag : Nat} {st : Status} {d : List Byte} (h : Keeps u s) :
    Keeps u (channelAnswer c tag st d s) := by
  unfold Machine.channelAnswer
  dsimp only
  split
  · exact h.setChannel
  · split
    · exact h.faultChannel
    · split
      · exact h.chunkWritten
      · exact h.setChannel

theorem Keeps.settleNotice {k : Nat} {n : NoticeState} (h : Keeps u s) : Keeps u (settleNotice k n s) := by
  unfold Machine.settleNotice
  dsimp only
  split
  · exact h.setEvent
  · exact h

theorem Keeps.noticeAnswer {tag : Nat} {st : Status} (h : Keeps u s) : Keeps u (noticeAnswer tag st s) := by
  unfold Machine.noticeAnswer
  split
  · exact h
  · split
    · exact h
    · dsimp only
      split
      · exact h.updMgmt
      · exact h.updMgmt.settleNotice

theorem Keeps.answerEntry {i : Nat} {st : Status} {d : List Byte} (h : Keeps u s) : Keeps u (answerEntry i st d s) := by
  unfold Machine.answerEntry
  split
  · exact h
  · dsimp only
    split
    · exact h.delOtt.channelAnswer.noteFreed
    · split
      · exact h.delOtt.noticeAnswer.noteFreed
      · exact h.setOtt.nextSerial

theorem Keeps.enterBackoff {i : Nat} {e : OttEntry} (h : Keeps u s) : Keeps u (enterBackoff i e s) := h.setOtt.updTrans

theorem Keeps.completionHere {id tag : Nat} {st : Status} {d : List Byte} (h : Keeps u s) :
    Keeps u (completionHere id tag st d s) := by
  unfold Machine.completionHere
  dsimp only
  split
  · exact h.updTrans
  · split
    · exact h.updTrans
    · split
      · exact h.updTrans
      · split
        · exact h.enterBackoff
        · exact h.answerEntry

theorem Keeps.sendCompletion {direct : Bool} {who : Requester} {st : Status} {d : List Byte} (h : Keeps u s)
    (ht : sendCompletion direct who st d s = some t) : Keeps u t := by
  unfold Machine.sendCompletion at ht
  split at ht
  · exact Option.some.inj ht ▸ h.completionHere
  · split at ht
    · exact Option.some.inj ht ▸ h.completionHere
    · split at ht
      · next hroom =>
        exact Option.some.inj ht ▸ h.updPort (fun hb => Port.bounded_qCompletion hb (by simpa using hroom.2))
      · cases ht
    · exact Option.some.inj ht ▸ h.updTrans

theorem Keeps.releaseLock {i : Nat} (h : Keeps u s) : Keeps u (releaseLock i s) := h.setLock

theorem Keeps.takeInbound {k : Nat} (h : Keeps u s) (ht : takeInbound k s = some t) : Keeps u t := by
  unfold Machine.takeInbound at ht
  split at ht
  · cases ht
  · split at ht
    · obtain ⟨v, hv, rfl⟩ := Option.map_eq_some_iff.mp ht
      exact (h.sendCompletion hv).delIn
    · cases ht

theorem Keeps.offerInbound {before : State} {k : Nat} (h : Keeps u s) : Keeps u (offerInbound before k s) := by
  unfold Machine.offerInbound
  split
  · next ht =>
    split
    · exact h
    · exact h.takeInbound ht
  · exact h

theorem Keeps.answerInbound {k : Nat} {st : Status} {d : List Byte} (h : Keeps u s) : Keeps u (answerInbound k st d s) := by
  unfold Machine.answerInbound
  split
  · exact h
  · refine Keeps.offerInbound ?_
    split
    · exact h.setIn.nextSerial.releaseLock
    · exact h.setIn.nextSerial

theorem Keeps.answerSlotInbound {i : Nat} {p : InState → Bool} {st : Status} (h : Keeps u s) :
    Keeps u (answerSlotInbound i p st s) := h.foldl _ (fun u _ => (Keeps.refl u).answerInbound)

theorem Keeps.dropSlotEntries {i : Nat} (h : Keeps u s) : Keeps u (dropSlotEntries i s) := h.updTrans.noteFreed

/-- A lane that loses its messages keeps its credits. -/
theorem laneHeld_of_committed_nil {r : Slot} (h : r.laneHeld) : ({ r with committed := [] } : Slot).laneHeld :=
  ⟨h.1, h.2.1, h.2.2.1, fun hl => ⟨(h.2.2.2 hl).1, rfl⟩⟩

theorem Keeps.clearLane {i : Nat} (h : Keeps u s) : Keeps u (clearLane i s) := h.updSlot laneHeld_of_committed_nil

theorem Keeps.departureCleanup {i : Nat} {st : Status} (h : Keeps u s) : Keeps u (departureCleanup i st s) :=
  h.releaseLock.answerSlotInbound.clearLane.dropSlotEntries

theorem Keeps.entryLinkDown {p : PortId} {i : Nat} (h : Keeps u s) : Keeps u (entryLinkDown p s i) := by
  unfold Machine.entryLinkDown
  split
  · exact h
  · split
    · split
      · split
        · exact h.setOtt
        · exact h.updTrans.answerEntry
      · exact h.setOtt
      · exact h
    · exact h

theorem Keeps.ottLinkDown {p : PortId} (h : Keeps u s) : Keeps u (ottLinkDown p s) :=
  h.foldl _ (fun u _ => (Keeps.refl u).entryLinkDown)

/-! ## Leaving a state (R2 to R4) -/

theorem Keeps.linkDown {p : PortId} (h : Keeps u s) : Keeps u (linkDown p s) := by
  unfold Machine.linkDown
  have h2 : Keeps u ((Machine.purgePort p s).updTopo (fun t => t.setMark p none)) :=
    h.purgePort.updTopo (by cases p <;> rfl) (by cases p <;> rfl) (by cases p <;> rfl) (by cases p <;> rfl)
  dsimp only
  split
  · next hp => exact (h2.rootwardLost hp).recommit.ottLinkDown
  · exact h2.recommit.ottLinkDown

theorem Keeps.leaveFor {p : PortId} {f : Port → Port} (h : Keeps u s)
    (hf : (s.port p).leave.bounded → (f (s.port p).leave).bounded) : Keeps u (leaveFor p f s) := by
  unfold Machine.leaveFor
  have h1 : Keeps u (s.setPort p (f (s.port p).leave)) := h.setPort (fun hb => hf (Port.bounded_leave hb))
  dsimp only
  split
  · exact h1.raise.linkDown
  · exact h1

theorem Keeps.enterTraining {p : PortId} (h : Keeps u s) : Keeps u (enterTraining p s) := h.leaveFor (fun hb => hb)

theorem Keeps.enterAbsent {p : PortId} (h : Keeps u s) : Keeps u (enterAbsent p s) := h.leaveFor (fun hb => hb)

theorem Keeps.enterLoopback {p : PortId} {f : LoopForm} (h : Keeps u s) : Keeps u (enterLoopback p f s) :=
  h.leaveFor (fun hb => hb)

theorem Keeps.leaveLoopback {p : PortId} (h : Keeps u s) : Keeps u (leaveLoopback p s) := by
  unfold Machine.leaveLoopback
  split
  · exact h.enterTraining
  · exact h.leaveFor (fun hb => hb)

/-! ## Retrains (R19 to R21) -/

theorem Keeps.countRetrain {p : PortId} (h : Keeps u s) : Keeps u (countRetrain p s) := by
  unfold Machine.countRetrain
  dsimp only
  split
  · split
    · exact Keeps.raise (h.setPort (fun hb => hb))
    · exact h.setPort (fun hb => hb)
  · exact h

theorem Keeps.retrainBad {p : PortId} (h : Keeps u s) : Keeps u (retrainBad p s) :=
  h.raise.countPort.countRetrain.enterTraining

theorem Keeps.symbolLockLoss {p : PortId} (h : Keeps u s) : Keeps u (symbolLockLoss p s) := by
  unfold Machine.symbolLockLoss
  dsimp only
  split
  · exact Keeps.enterTraining (Keeps.countRetrain h.countPort)
  · split
    · exact h.enterTraining
    · exact h

/-! ## Bursts (R8, R10, R11) -/

theorem Keeps.offerEcho {p : PortId} (h : Keeps u s) : Keeps u (offerEcho p s) := by
  refine h.updPort (fun hb => ?_)
  dsimp only
  split
  · exact hb
  · refine Port.bounded_offerTiming ?_ _
    exact hb

theorem Keeps.beginBurst {p : PortId} (h : Keeps u s) : Keeps u (beginBurst p s) := (h.updPort (fun hb => hb)).offerEcho

theorem Keeps.scheduleBurst {p : PortId} (h : Keeps u s) : Keeps u (scheduleBurst p s) := by
  unfold Machine.scheduleBurst
  split
  · exact h.beginBurst
  · exact h

theorem Keeps.enterUp {p : PortId} (h : Keeps u s) : Keeps u (enterUp p s) :=
  (Keeps.raise (h.updPort (fun hb => hb))).treeChange.recommit

theorem Keeps.settleDelay {p : PortId} {d : Option Nat} (h : Keeps u s) : Keeps u (settleDelay p d s) := by
  unfold Machine.settleDelay
  split
  · exact (h.updPort (fun hb => hb)).withRtu (by rw [State.updPort_rtu])
  · exact Keeps.raise (h.withRtu Iff.rfl)

theorem Keeps.endBurst {p : PortId} (h : Keeps u s) : Keeps u (endBurst p s) := by
  unfold Machine.endBurst
  dsimp only
  split
  · exact h
  · split
    · exact h
    · have h1 : Keeps u (s.setPort p { s.port p with burst := none, burstCount := 0 }) := h.setPort (fun hb => hb)
      split
      · exact h1.settleDelay.enterUp
      · exact h1.settleDelay
      · exact h1.updPort (fun hb => hb)
      · exact h1

theorem Keeps.acceptEchoReply {p : PortId} {n t2 t3 : Nat} (h : Keeps u s) : Keeps u (acceptEchoReply p n t2 t3 s) := by
  unfold Machine.acceptEchoReply
  dsimp only
  split
  · exact h.countPort
  · split
    · exact h.setPort (fun hb => hb)
    · exact h.countPort

/-! ## Receiving (R5 to R15) -/

theorem Keeps.freeBuffer {p : PortId} {c : ParcelClass} (h : Keeps u s) : Keeps u (s.updPort p (fun r => r.freeBuffer c)) :=
  h.updPort (fun hb => Port.bounded_freeBuffer hb c)

theorem Keeps.discardEarly {p : PortId} {c : ParcelClass} (h : Keeps u s) : Keeps u (discardEarly p c s) := by
  refine h.updPort (fun hb => ?_)
  dsimp only
  split
  · refine Port.bounded_freeBuffer ?_ c
    exact hb
  · exact hb

theorem Keeps.loopbackGood {p : PortId} {e : Option Nat} (h : Keeps u s) : Keeps u (loopbackGood p e s) := by
  unfold Machine.loopbackGood
  refine h.updPort (fun hb => ?_)
  dsimp only
  split
  · split <;> exact hb
  · exact hb

theorem Keeps.sendBack {p : PortId} {b : List Byte} (h : Keeps u s) : Keeps u (sendBack p b s) := by
  refine h.updPort (fun hb => ?_)
  split <;> exact hb

theorem Keeps.inLoopback {p : PortId} {e : Option Nat} {x : Parcel} (h : Keeps u s) : Keeps u (inLoopback p e x s) := by
  unfold Machine.inLoopback
  split
  · exact h.loopbackGood
  · exact h.sendBack

theorem Keeps.byState {p : PortId} {c : ParcelClass} {x : Parcel} {take : State → State} (h : Keeps u s)
    (ht : Keeps u (take s)) : Keeps u (byState p c x take s) := by
  unfold Machine.byState
  split
  · exact ht
  · exact h.discardEarly
  · exact h.discardEarly
  · exact h.inLoopback
  · exact h

theorem Keeps.completePairing {p : PortId} {x : Hello} (h : Keeps u s) : Keeps u (completePairing p x s) := by
  unfold Machine.completePairing
  exact (h.updPort (fun hb => Port.bounded_txCredits (x := ⟨x.limStream, x.limRequest, x.limCompletion⟩)
    (q := some (Peer.ofHello x)) hb (Nat.le_refl _) (Nat.le_refl _) (Nat.le_refl _))).beginBurst

theorem Keeps.helloPairing {p : PortId} {x : Hello} (h : Keeps u s) : Keeps u (helloPairing p x s) := by
  unfold Machine.helloPairing
  dsimp only
  split
  · exact Keeps.raiseIf (h.updPort (fun hb => hb))
  · split
    · exact h.enterLoopback
    · exact h.completePairing

/-- R7: a HELLO of the peer updates none of its advertised limits. -/
theorem Port.bounded_of_peer_update {r : Port} {f : Peer → Peer} (h : r.bounded)
    (hs : ∀ q, (f q).limStream = q.limStream) (hr : ∀ q, (f q).limRequest = q.limRequest)
    (hc : ∀ q, (f q).limCompletion = q.limCompletion) : ({ r with peer := r.peer.map f } : Port).bounded := by
  have hl : ∀ c, ({ r with peer := r.peer.map f } : Port).limit c = r.limit c := fun c => by
    unfold Port.limit
    cases r.peer <;> cases c <;> simp [hs, hr, hc]
  obtain ⟨-, -, -, -, -, -, -, h8, h9, h10, -⟩ := id h
  exact Port.bounded_txCredits (x := r.txCredits) h (by rw [hl]; exact h8) (by rw [hl]; exact h9) (by rw [hl]; exact h10)

theorem Keeps.helloUpdate {p : PortId} {x : Hello} (h : Keeps u s) : Keeps u (helloUpdate p x s) := by
  unfold Machine.helloUpdate
  have h2 : Keeps u (s.setPort p { s.port p with
      peer := (s.port p).peer.map (fun q => { q with frame := x.frame, hops := x.hops, rootward := x.rootward, fast := x.fast })
      peerFast := x.fast }) :=
    h.setPort (fun hb => Port.bounded_of_peer_update hb (fun _ => rfl) (fun _ => rfl) (fun _ => rfl))
  dsimp only
  split
  · split
    · exact Keeps.updPort h2.treeChange (fun hb => hb)
    · exact h2.treeChange.enterTraining
  · exact h2.treeChange

theorem Keeps.acceptHello {p : PortId} {x : Hello} (h : Keeps u s) : Keeps u (acceptHello p x s) := by
  have hlinked : Keeps u (if x.loopRequest then
        Machine.enterLoopback p .farServed (s.setPort p { s.port p with
          peerFast := if (s.port p).peer.map (·.uid) = some x.uid then x.fast else (s.port p).peerFast })
      else if (s.port p).peer.map (·.uid) ≠ some x.uid then Machine.enterTraining p s
      else Machine.helloUpdate p x s) := by
    split
    · exact Keeps.enterLoopback (h.setPort (fun hb => hb))
    · split
      · exact h.enterTraining
      · exact h.helloUpdate
  unfold Machine.acceptHello
  dsimp only
  split
  · exact h.helloPairing
  · exact hlinked
  · exact hlinked
  · exact h.inLoopback
  · exact h

theorem Keeps.acceptEcho {p : PortId} {n : Nat} (h : Keeps u s) : Keeps u (acceptEcho p n s) := by
  have hanswer : Keeps u (s.setPort p ((s.port p).offerTiming (.echoReply n s.rtu.stamp))) :=
    h.setPort (fun hb => Port.bounded_offerTiming hb _)
  unfold Machine.acceptEcho
  dsimp only
  split
  · split
    · exact h
    · exact hanswer
  · exact hanswer
  · exact hanswer
  · exact h.inLoopback
  · exact h

theorem Keeps.acceptCredit {p : PortId} {a b c : Nat} (h : Keeps u s) : Keeps u (acceptCredit p a b c s) :=
  h.updPort (fun hb => Port.bounded_txCredits (q := (s.port p).peer) hb (Nat.min_le_right _ _) (Nat.min_le_right _ _)
    (Nat.min_le_right _ _))

theorem Keeps.dropBuffer {p : PortId} {k : ParcelClass} (h : Keeps u s) : Keeps u (dropBuffer p k s) := by
  rcases dropBuffer_cases p k s with ⟨-, he⟩ | ⟨-, he⟩ <;> rw [he]
  · exact h.countPort
  · exact h.freeBuffer

theorem Keeps.badParcel {p : PortId} {f : ParcelFault} {c : Option ParcelClass} (h : Keeps u s) :
    Keeps u (badParcel p f c s) := by
  unfold Machine.badParcel
  dsimp only
  split
  · have h2 : Keeps u (match c with
        | some k => Machine.dropBuffer p k (s.countPort p (PortCounters.bad f))
        | none => s.countPort p (PortCounters.bad f)) := by
      split
      · exact Keeps.dropBuffer h.countPort
      · exact h.countPort
    have h3 := h2.updPort (p := p) (f := fun r => { r with badThisEpoch := min ((s.port p).badThisEpoch + 1) 9 })
      (fun hb => Port.bounded_badThisEpoch hb (Nat.min_le_right _ _))
    split
    · exact h3.retrainBad
    · exact h3
  · exact Keeps.countPort h.countPort

/-! ## Rate and transmission (R14, R17, R20) -/

theorem Keeps.changeRate {p : PortId} {x : Rate} (h : Keeps u s) : Keeps u (changeRate p x s) :=
  Keeps.sendHello (h.setPort (fun hb => hb))

theorem Keeps.sendTiming {p : PortId} {i : TimingItem} {rest : List TimingItem} (h : Keeps u s)
    (hq : rest.length ≤ (s.port p).qTiming.length) : Keeps u (sendTiming p i rest s) := by
  have hrest : (s.port p).bounded → ({ s.port p with qTiming := rest } : Port).bounded :=
    fun hb => Port.bounded_qTiming hb (hq.trans hb.1)
  unfold Machine.sendTiming
  dsimp only
  split
  · exact h.setPort hrest
  · split
    · have h1 := h.setPort (p := p) hrest
      exact Keeps.withRtu (h.setPort hrest) Iff.rfl
    · exact h.setPort hrest
  · refine h.setPort (fun hb => ?_)
    split <;> exact hrest hb
  · exact h.setPort hrest
  · exact h.setPort hrest

theorem Keeps.sendLink {p : PortId} {i : LinkItem} {rest : List LinkItem} (h : Keeps u s)
    (hq : rest.length ≤ (s.port p).qLink.length) : Keeps u (sendLink p i rest s) := by
  have hrest : (s.port p).bounded → ({ s.port p with qLink := rest } : Port).bounded :=
    fun hb => Port.bounded_qLink hb (hq.trans hb.2.1)
  unfold Machine.sendLink
  dsimp only
  split
  · split
    · exact Keeps.enterLoopback (h.setPort hrest)
    · split
      · exact Keeps.enterTraining (h.setPort hrest)
      · exact h.setPort hrest
  · exact h.setPort hrest
  · exact h.setPort hrest

/-- R15, R17: a parcel of a credited class leaves its queue for one credit. -/
theorem Port.bounded_of_sent {r : Port} {qs : List StreamParcel} {qc : List Completion} {qr : List Request} {x : Credits}
    {n : Nat} (h : r.bounded) (hqs : qs.length ≤ r.qStream.length) (hqc : qc.length ≤ r.qCompletion.length)
    (hqr : qr.length ≤ r.qRequest.length) (hs : x.stream ≤ r.txCredits.stream) (hr : x.request ≤ r.txCredits.request)
    (hc : x.completion ≤ r.txCredits.completion) (hn : n ≤ 16) :
    ({ r with qStream := qs, qCompletion := qc, qRequest := qr, txCredits := x, streamRun := n } : Port).bounded := by
  obtain ⟨h1, h2, h3, h4, h5, h6, h7, h8, h9, h10, -, h12⟩ := h
  exact ⟨h1, h2, hqs.trans h3, hqc.trans h4, hqr.trans h5, h6, h7, hs.trans h8, hr.trans h9, hc.trans h10, hn, h12⟩

theorem Keeps.transmit {p : PortId} (h : Keeps u s) : Keeps u (transmit p s) := by
  unfold Machine.transmit
  dsimp only
  split
  · exact h
  · split
    · exact h
    · split
      · next hq => exact h.sendTiming (by simp [hq])
      · exact h
    · split
      · next hq => exact h.sendLink (by simp [hq])
      · exact h
    · split
      · next hq =>
        refine h.setPort (fun hb => Port.bounded_of_sent hb (by simp [hq]) (Nat.le_refl _) (Nat.le_refl _) (Nat.sub_le _ _)
          (Nat.le_refl _) (Nat.le_refl _) ?_)
        split
        · exact Nat.min_le_right _ _
        · exact Nat.zero_le _
      · exact h
    · split
      · next hq =>
        exact h.setPort (fun hb => Port.bounded_of_sent hb (Nat.le_refl _) (by simp [hq]) (Nat.le_refl _) (Nat.le_refl _)
          (Nat.le_refl _) (Nat.sub_le _ _) (Nat.zero_le _))
      · exact h
    · split
      · next hq =>
        exact h.setPort (fun hb => Port.bounded_of_sent hb (Nat.le_refl _) (Nat.le_refl _) (by simp [hq]) (Nat.le_refl _)
          (Nat.sub_le _ _) (Nat.le_refl _) (Nat.zero_le _))
      · exact h

/-! ## Port commands (R11, R19, R22, R23) -/

theorem Keeps.startBurstCommand {p : PortId} (h : Keeps u s) : Keeps u (startBurstCommand p s) := by
  unfold Machine.startBurstCommand
  dsimp only
  split
  · exact h.beginBurst
  · exact h

theorem Keeps.retrainCommand {p : PortId} (h : Keeps u s) : Keeps u (retrainCommand p s) := by
  unfold Machine.retrainCommand
  split
  · exact Keeps.enterTraining h.countPort
  · exact h

theorem Keeps.nearCommand {p : PortId} (h : Keeps u s) : Keeps u (nearCommand p s) := by
  unfold Machine.nearCommand
  split
  · exact h
  · exact h.enterLoopback

theorem Keeps.farCommand {p : PortId} (h : Keeps u s) : Keeps u (farCommand p s) := by
  unfold Machine.farCommand
  split
  · exact Keeps.sendHello (h.updPort (fun hb => hb))
  · exact h

theorem Keeps.offCommand {p : PortId} (h : Keeps u s) : Keeps u (offCommand p s) := by
  unfold Machine.offCommand
  dsimp only
  split
  · split
    · exact h.leaveLoopback
    · exact h.setPort (fun hb => Port.bounded_qTiming (q := []) hb (Nat.zero_le 8))
    · exact h.enterTraining
    · exact h
  · exact h

/-! ## Triggers (chapter 4) -/

theorem Keeps.fireLine {line : Nat} (h : Keeps u s) : Keeps u (fireLine line s) := h.of_eq rfl rfl rfl .rfl rfl

theorem Keeps.fireUntimed {line : Nat} (h : Keeps u s) : Keeps u (fireUntimed line s) := h.fireLine.updTrig

theorem Keeps.fireLate {line : Nat} (h : Keeps u s) : Keeps u (fireLate line s) := Keeps.raise h.fireLine.updTrig

theorem Keeps.fireHead (h : Keeps u s) : Keeps u (fireHead s) := h.updTrig.foldl _ (fun u _ => (Keeps.refl u).fireLine)

theorem Keeps.fireSteppedOver (h : Keeps u s) : Keeps u (fireSteppedOver s) :=
  h.updTrig.foldl _ (fun u _ => (Keeps.refl u).fireLate)

theorem Keeps.offerTrigger {x : PendingTrigger} (h : Keeps u s) : Keeps u (offerTrigger x s) := by
  unfold Machine.offerTrigger
  split
  · exact h.updTrig
  · split
    · exact Keeps.raise h.updTrig
    · exact h.updTrig

theorem Keeps.sendTrigger {x : Option PortId} {m : Trigger} (h : Keeps u s) : Keeps u (sendTrigger x m s) :=
  h.foldl _ (fun u _ => by
    split
    · exact (Keeps.refl u).updPort (fun hb => Port.bounded_offerTiming hb _)
    · exact Keeps.refl u)

theorem Keeps.originate {line : Nat} (h : Keeps u s) : Keeps u (originate line s) := by
  unfold Machine.originate
  exact Keeps.updTrig h.updTrig

theorem Keeps.originateTimed {line : Nat} (h : Keeps u s) : Keeps u (originateTimed line s) := by
  unfold Machine.originateTimed
  refine Keeps.updTrig (Keeps.sendTrigger ?_)
  split
  · exact h.originate
  · exact h.originate.offerTrigger

theorem Keeps.originateUntimed {line : Nat} (h : Keeps u s) : Keeps u (originateUntimed line s) := by
  unfold Machine.originateUntimed
  refine Keeps.updTrig (Keeps.sendTrigger ?_)
  split
  · exact h.originate
  · exact h.originate.fireUntimed

theorem Keeps.edgeFromSlot {i line : Nat} (h : Keeps u s) : Keeps u (edgeFromSlot i line s) := by
  unfold Machine.edgeFromSlot
  dsimp only
  split
  · exact h.countSlot
  · split
    · split
      · exact h.updTrig.originateTimed
      · exact h.updTrig.originateUntimed
    · exact h.updTrig

theorem Keeps.localTrigger {m : Trigger} (h : Keeps u s) : Keeps u (localTrigger m s) := by
  unfold Machine.localTrigger
  dsimp only
  split
  · exact h.updTrig
  · split
    · exact h.fireUntimed
    · split
      · exact h.offerTrigger
      · exact h.fireLate

theorem Keeps.acceptTrigger {p : PortId} {m : Trigger} (h : Keeps u s) : Keeps u (acceptTrigger p m s) := by
  unfold Machine.acceptTrigger
  dsimp only
  split
  · exact h.updTrig.updTrig
  · split
    · exact h.updTrig.updTrig
    · split
      · exact h.updTrig.updTrig
      · split
        · exact h.updTrig.updTrig
        · exact Keeps.localTrigger (Keeps.sendTrigger h.updTrig.updTrig)

theorem Keeps.writeTriggerEntry {line : Nat} {e : TriggerEntry} (h : Keeps u s) :
    Keeps u (writeTriggerEntry line e s).2 := by
  unfold Machine.writeTriggerEntry
  split
  · exact h
  · dsimp only
    exact h.updTrig

end Sys2Proof.Machine
end

section
/-! SUPPORT. What the Delivery Unit, the Stream Router and the Slot Unit keep. -/

namespace Sys2Proof.Machine

variable {u s t : State}

/-! ## Lanes (R123, R124) -/

namespace Slot
variable {r : Slot}

/-- R124: a message is committed only to a lane in UP, so that no other lane holds one. -/
theorem laneHeld_commit {m : LaneMsg} {cost c : Nat} (hc : r.canCommit c = true) (h : r.laneHeld) :
    (r.commit m cost).laneHeld := by
  obtain ⟨hstate, havail, hadv, -⟩ := h
  exact ⟨hstate, (Nat.sub_le _ _).trans havail, hadv, fun hne => absurd (canCommit_up hc).1 hne⟩

/-- R99, R112: messages not sent give back no more credits than were advertised. -/
theorem laneHeld_unsend {p : LaneMsg → Bool} (h : r.laneHeld) : (r.unsend p).laneHeld := by
  unfold Slot.unsend
  split
  · exact h
  · next hm =>
    split
    · obtain ⟨hstate, -, hadv, hnone⟩ := h
      exact ⟨hstate, Nat.min_le_right _ _, hadv, fun hne => absurd ((hnone hne).2.symm.trans hm) (by simp)⟩
    · exact h

/-- R123: a lane that enters a state other than UP holds nothing. -/
theorem laneHeld_setLane {l : LaneState} (h : r.state.hasLane l = true) : (r.setLane l).laneHeld :=
  ⟨h, Nat.le_refl _, Nat.zero_le _, fun _ => ⟨rfl, rfl⟩⟩

end Slot

@[simp] theorem slot_noteAdmitted (i j : Nat) : (noteAdmitted i s).slot j = s.slot j := rfl

@[simp] theorem State.slot_freeOtt (k i : Nat) : (s.freeOtt k).slot i = s.slot i := by
  unfold State.freeOtt
  rcases noteFreed_cases s (s.delOtt k) with ⟨-, g, l, h⟩ | ⟨-, h⟩ <;> rw [h] <;> rfl

/-! ## Delivery (chapter 6) -/

theorem Keeps.placeIn {b i : Nat} {x : StreamParcel} (h : Keeps u s) : Keeps u (placeIn b i x s) := by
  unfold Machine.placeIn
  dsimp only
  split
  · exact h.setBinding
  · split
    · exact h.setBinding
    · exact h.of_eq rfl rfl rfl .rfl rfl

theorem Keeps.placeParcel {b : Nat} {x : StreamParcel} (h : Keeps u s) : Keeps u (placeParcel b x s) := by
  unfold Machine.placeParcel
  dsimp only
  split
  · exact h.setBinding
  · split
    · exact h.placeIn
    · split
      · exact h.setBinding
      · exact h.setBinding

theorem Keeps.sendParcelTo {x : StreamParcel} {i : Nat} (h : Keeps u s) : Keeps u (sendParcelTo x s i) := by
  unfold Machine.sendParcelTo
  dsimp only
  split
  · exact h
  · split
    · next hc => exact h.setSlot (fun hl => Slot.laneHeld_commit (r := { s.slot i with parcelsSent := _ }) hc hl)
    · exact h.setSlot (fun hl => hl)

theorem Keeps.sendParcel {sinks : SlotSet} {x : StreamParcel} (h : Keeps u s) : Keeps u (sendParcel sinks x s) :=
  h.foldl _ (fun u _ => (Keeps.refl u).sendParcelTo)

theorem Keeps.beginDelivery {b i k : Nat} (h : Keeps u s) : Keeps u (beginDelivery b i s k) := by
  unfold Machine.beginDelivery
  split
  · exact h.updSlot (fun hl => hl)
  · exact h.setBinding
  · exact h

theorem Keeps.beginDeliveries {b i : Nat} (h : Keeps u s) : Keeps u (beginDeliveries b i s) :=
  h.foldl _ (fun u _ => (Keeps.refl u).beginDelivery)

theorem Keeps.dropDeliveries {b : Nat} (h : Keeps u s) : Keeps u (dropDeliveries b s) :=
  h.foldl _ (fun u _ => (Keeps.refl u).updSlot (fun hl => Slot.laneHeld_unsend hl))

theorem Keeps.endDelivery {b i k : Nat} (h : Keeps u s) : Keeps u (endDelivery b i s k) := by
  unfold Machine.endDelivery
  dsimp only
  split
  · exact Keeps.raise (Keeps.setBinding (h.updSlot (fun hl => Slot.laneHeld_unsend hl)))
  · exact h

theorem Keeps.rotateBinding {n b : Nat} {untimed : Bool} (h : Keeps u s) : Keeps u (rotateBinding n untimed b s) := by
  have h1 : Keeps u ((List.range 16).foldl (Machine.endDelivery b (sectionIndex n 0)) s) :=
    h.foldl _ (fun u _ => (Keeps.refl u).endDelivery)
  unfold Machine.rotateBinding
  dsimp only
  split
  · exact Keeps.raiseIf (Keeps.beginDeliveries h1.setBinding)
  · exact h1.setBinding

theorem Keeps.restartBinding {n b : Nat} {untimed : Bool} (h : Keeps u s) : Keeps u (restartBinding n untimed b s) :=
  h.dropDeliveries.setBinding.beginDeliveries

theorem Keeps.deliveryBoundary {restart : Bool} (h : Keeps u s) : Keeps u (deliveryBoundary restart s) :=
  h.foldl _ (fun u _ => by
    split
    · split
      · exact (Keeps.refl u).restartBinding
      · exact (Keeps.refl u).rotateBinding
    · exact Keeps.refl u)

theorem Keeps.sendSegment {i : Nat} (h : Keeps u s) : Keeps u (sendSegment i s) := by
  unfold Machine.sendSegment
  split
  · dsimp only
    split
    · next hc => exact h.setSlot (fun hl => Slot.laneHeld_commit (r := { s.slot i with delivery := _, segmentsSent := _ }) hc hl)
    · exact h
  · exact h

theorem Keeps.writeBinding {b : Nat} {w : BindingWrite} (h : Keeps u s) : Keeps u (writeBinding b w s).2 := by
  unfold Machine.writeBinding
  dsimp only
  split
  · exact h
  · split
    · exact h
    · split
      · exact h
      · split
        · exact h
        · refine Keeps.setBinding ?_
          split
          · exact h.dropDeliveries
          · exact h

theorem Keeps.writeEach {α : Type} {f : Nat → α → State → Status × State} (hf : ∀ i w v, Keeps v (f i w v).2) {i : Nat}
    {ws : List α} (h : Keeps u s) : Keeps u (writeEach f i ws s).2 := by
  induction ws generalizing i s with
  | nil => exact h
  | cons w ws ih =>
    have hw := hf i w s
    unfold Machine.writeEach
    split
    · next heq =>
      rw [heq] at hw
      exact ih (h.trans hw)
    · exact h.trans hw

/-! ## Streams (chapter 5) -/

theorem Keeps.offerCopy {tag : Nat} {x : StreamParcel} {p : PortId} (h : Keeps u s) : Keeps u (offerCopy tag x s p) := by
  unfold Machine.offerCopy
  exact Keeps.updPort h.setRoute (fun hb => Port.bounded_offerStream hb x)

theorem Keeps.forwardStream {src : Option PortId} {x : StreamParcel} (h : Keeps u s) : Keeps u (forwardStream src x s) :=
  h.foldl _ (fun u _ => (Keeps.refl u).offerCopy)

theorem Keeps.handOver {e : RouteEntry} {x : StreamParcel} (h : Keeps u s) : Keeps u (handOver e x s) := by
  unfold Machine.handOver
  dsimp only
  split
  · exact h.sendParcel.placeParcel
  · exact h.sendParcel

theorem Keeps.countUnrouted {src : Option PortId} (h : Keeps u s) : Keeps u (countUnrouted src s) := by
  unfold Machine.countUnrouted
  split
  · exact h.withRouter
  · exact h

theorem Keeps.takeStream {src : Option PortId} {x : StreamParcel} (h : Keeps u s) : Keeps u (takeStream src x s) := by
  unfold Machine.takeStream
  dsimp only
  split
  · exact h.setRoute.countUnrouted
  · split
    · exact h.setRoute
    · split
      · exact h.setRoute
      · split
        · exact h.setRoute
        · exact h.setRoute.forwardStream.handOver

theorem Keeps.setPacker {tag : Nat} {k : Packer} (h : Keeps u s) : Keeps u (s.setPacker tag k) := h.setRoute

theorem Keeps.cutFull {tag : Nat} {k : Packer} (h : Keeps u s) : Keeps u (cutFull tag k s) := h.setPacker.takeStream

theorem Keeps.takeBurst {i tag : Nat} {d : List Byte} (h : Keeps u s) : Keeps u (takeBurst i tag d s) := by
  unfold Machine.takeBurst
  split
  · exact h.updSlot (fun hl => hl)
  · dsimp only
    split
    · exact h.cutFull
    · exact h.setPacker

theorem Keeps.closePacker {tag : Nat} (h : Keeps u s) : Keeps u (closePacker s tag) := by
  unfold Machine.closePacker
  split
  · exact h
  · split
    · exact h
    · split
      · exact h.takeStream
      · exact h.takeStream

theorem Keeps.closePackers (h : Keeps u s) : Keeps u (closePackers s) :=
  h.foldl _ (fun u _ => (Keeps.refl u).closePacker)

theorem Keeps.reopenPacker {tag : Nat} (h : Keeps u s) : Keeps u (reopenPacker s tag) := by
  unfold Machine.reopenPacker
  split
  · exact h
  · exact h.setPacker

theorem Keeps.reopenPackers (h : Keeps u s) : Keeps u (reopenPackers s) :=
  h.foldl _ (fun u _ => (Keeps.refl u).reopenPacker)

theorem Keeps.noteAdmitted {i : Nat} (h : Keeps u s) : Keeps u (noteAdmitted i s) := h.withRouter

theorem Keeps.writeRoute {tag : Nat} {w : RouteWrite} (h : Keeps u s) : Keeps u (writeRoute tag w s).2 := by
  unfold Machine.writeRoute
  dsimp only
  split
  · exact h
  · split
    · exact h
    · split
      · exact h
      · split
        · exact h
        · exact Keeps.setRoute (h.foldl _ (fun u _ => (Keeps.refl u).withRouter))

theorem Keeps.writeRouteGuard {w : GuardWrite} (h : Keeps u s) : Keeps u (writeRouteGuard w s).2 := h.withRouter

/-! ## Slots (chapter 7) -/

theorem Keeps.enterPowering {i : Nat} {c : Cause} (h : Keeps u s) : Keeps u (enterPowering i c s) :=
  h.updSlot (fun _ => Slot.laneHeld_setLane (by dsimp only; split <;> rfl))

/-- R119, R139: a slot enters INSERTED from a state whose lane is OFF. -/
theorem Keeps.enterInserted {i : Nat} {c : Cause} (h : Keeps u s) (hoff : (s.slot i).laneHeld → (s.slot i).lane = .off) :
    Keeps u (enterInserted i c s) := by
  have h1 : Keeps u (s.updSlot i (fun r => { r with state := .inserted, timer := none, removal := false, lastCause := c })) :=
    h.updSlot (fun hl => ⟨by simp [SlotState.hasLane, hoff hl], hl.2⟩)
  unfold Machine.enterInserted
  dsimp only
  split
  · exact h1.enterPowering
  · exact h1

theorem Keeps.enterEmpty {i : Nat} {c : Cause} (h : Keeps u s) : Keeps u (enterEmpty i c s) :=
  h.updSlot (fun _ => Slot.laneHeld_setLane rfl)

theorem Keeps.enterFaulted {i : Nat} {c : Cause} (h : Keeps u s) : Keeps u (enterFaulted i c s) :=
  Keeps.raise (h.updSlot (fun _ => Slot.laneHeld_setLane rfl))

theorem Keeps.enterQuiesced {i : Nat} {c : Cause} (h : Keeps u s) : Keeps u (enterQuiesced i c s) :=
  Keeps.raise (h.updSlot (fun _ => Slot.laneHeld_setLane rfl))

theorem Keeps.quiesceEarly {i : Nat} {c : Cause} (h : Keeps u s) : Keeps u (quiesceEarly i c s) :=
  h.enterQuiesced.departureCleanup

theorem Keeps.settleDrain {i : Nat} (h : Keeps u s) : Keeps u (settleDrain s i) := by
  unfold Machine.settleDrain
  dsimp only
  split
  · exact h
  · split
    · split
      · exact h.enterQuiesced
      · exact h.setSlot (fun hl => hl)
    · exact h

theorem Keeps.settleDrains (h : Keeps u s) : Keeps u (settleDrains s) :=
  h.foldl _ (fun u _ => (Keeps.refl u).settleDrain)

theorem Keeps.passBoundary {i : Nat} (h : Keeps u s) : Keeps u (passBoundary s i) := h.updSlot (fun hl => hl)

/-- R130: a slot enters EXTRACTING with its lane UP or DORMANT. -/
theorem Keeps.enterExtracting {i : Nat} {c : Cause} (h : Keeps u s)
    (hlane : (s.slot i).laneHeld → SlotState.extracting.hasLane (s.slot i).lane = true) : Keeps u (enterExtracting i c s) := by
  unfold Machine.enterExtracting
  refine Keeps.settleDrain (Keeps.answerSlotInbound (Keeps.raise (h.updSlot (fun hl => ?_))))
  refine Slot.laneHeld_unsend ?_
  exact ⟨hlane hl, hl.2⟩

/-- R122, R134: an ADMITTED slot's lane is UP and a PARKED one's DORMANT. -/
theorem Slot.extracting_hasLane {r : Slot} (hs : r.state = .admitted ∨ r.state = .parked) (hl : r.laneHeld) :
    SlotState.extracting.hasLane r.lane = true := by
  have hlane := hl.1
  rcases hs with hs | hs <;> rw [hs] at hlane <;> simp [SlotState.hasLane] at hlane ⊢ <;> simp [hlane]

theorem Keeps.presenceShown {i : Nat} (h : Keeps u s) : Keeps u (presenceShown i s) :=
  h.updSlot (fun hl => by split <;> exact hl)

/-- The lane of a slot in EMPTY or FAULTED is OFF. -/
theorem Slot.lane_off {r : Slot} (hs : r.state = .empty ∨ r.state = .faulted) (hl : r.laneHeld) : r.lane = .off := by
  have hlane := hl.1
  rcases hs with hs | hs <;> rw [hs] at hlane <;> simpa [SlotState.hasLane] using hlane

theorem Keeps.debounceDone {i : Nat} (h : Keeps u s) : Keeps u (debounceDone i s) := by
  unfold Machine.debounceDone
  dsimp only
  split
  · next hs =>
    refine Keeps.enterInserted (Keeps.raise h.countSlot) ?_
    rw [raise_slot, State.countSlot, State.slot_updSlot_same]
    exact Slot.lane_off (.inl hs.1)
  · exact h

theorem Keeps.surpriseRemoval {i : Nat} (h : Keeps u s) : Keeps u (surpriseRemoval i s) :=
  h.countSlot.enterEmpty.raise.departureCleanup

theorem Keeps.presenceGone {i : Nat} (h : Keeps u s) : Keeps u (presenceGone i s) := by
  unfold Machine.presenceGone
  split
  · exact h.updSlot (fun hl => hl)
  · exact Keeps.enterEmpty h.countSlot
  · exact Keeps.raise (Keeps.enterEmpty h.countSlot)
  · exact h.enterEmpty
  · exact h.enterEmpty
  · exact h.surpriseRemoval
  · exact h.surpriseRemoval
  · exact h.surpriseRemoval

theorem Keeps.powerShown {i : Nat} (h : Keeps u s) : Keeps u (powerShown i s) := by
  refine h.updSlot (fun hl => ?_)
  split
  · next hs => exact Slot.laneHeld_setLane (by dsimp only; rw [hs.1]; rfl)
  · exact hl

theorem Keeps.powerFault {i : Nat} (h : Keeps u s) : Keeps u (powerFault i s) := Keeps.enterFaulted h.countSlot

theorem Keeps.powerGone {i : Nat} (h : Keeps u s) : Keeps u (powerGone i s) := by
  have h1 : Keeps u (s.setSlot i { s.slot i with powerGood := false }) := h.setSlot (fun hl => hl)
  unfold Machine.powerGone
  dsimp only
  split
  · split
    · exact h1.powerFault
    · exact h1
  · exact h1.powerFault.departureCleanup
  · exact h1.powerFault.departureCleanup
  · exact h1.powerFault.departureCleanup
  · exact h1

theorem Keeps.powerExpired {i : Nat} (h : Keeps u s) : Keeps u (powerExpired i s) := by
  unfold Machine.powerExpired
  dsimp only
  split
  · exact Keeps.enterFaulted h.countSlot
  · exact h

theorem Keeps.drainExpired {i : Nat} (h : Keeps u s) : Keeps u (drainExpired i s) := by
  unfold Machine.drainExpired
  dsimp only
  split
  · exact Keeps.quiesceEarly h.countSlot
  · exact h

theorem Keeps.laneAdvertised {i n : Nat} (h : Keeps u s) : Keeps u (laneAdvertised i n s) := by
  unfold Machine.laneAdvertised
  dsimp only
  split
  · next hc =>
    have h1 : Keeps u (s.setSlot i { s.slot i with
        state := .admitted, lane := .up, advertised := n, available := n, timer := none
        lastCause := if (s.slot i).lastCause = .laneLost then .laneLost else .laneUp
        counters := { (s.slot i).counters with admissions := bump (s.slot i).counters.admissions } }) :=
      h.setSlot (fun _ => ⟨rfl, Nat.le_refl _, hc.2.2.2, fun hne => (hne rfl).elim⟩)
    split
    · refine h1.noteAdmitted.raise.enterExtracting (Slot.extracting_hasLane (.inl ?_))
      rw [raise_slot, slot_noteAdmitted, State.slot_setSlot_same]
    · exact h1.noteAdmitted.raise
  · split
    · exact h.countSlot
    · exact h

theorem Keeps.laneGone {i : Nat} (h : Keeps u s) : Keeps u (laneGone i s) := by
  unfold Machine.laneGone
  dsimp only
  split
  · split
    · exact Keeps.departureCleanup (Keeps.enterPowering h.countSlot)
    · exact Keeps.quiesceEarly h.countSlot
    · exact h.countSlot
  · exact h

theorem Keeps.handleOpens {i : Nat} (h : Keeps u s) : Keeps u (handleOpens i s) := by
  have h1 : Keeps u (s.updSlot i (fun r => { r with handleOpen := true })) := h.updSlot (fun hl => hl)
  unfold Machine.handleOpens
  dsimp only
  split
  · next hs => exact h1.enterExtracting (Slot.extracting_hasLane (.inl (by simpa [State.slot_updSlot] using hs)))
  · next hs => exact h1.enterExtracting (Slot.extracting_hasLane (.inr (by simpa [State.slot_updSlot] using hs)))
  · exact h1

theorem Keeps.handleCloses {i : Nat} (h : Keeps u s) : Keeps u (handleCloses i s) := by
  have h1 : Keeps u (s.updSlot i (fun r => { r with handleOpen := false })) := h.updSlot (fun hl => hl)
  unfold Machine.handleCloses
  dsimp only
  split
  · exact h1.enterPowering
  · exact h1

theorem Keeps.fromModule {i : Nat} {take : State → State} (h : Keeps u s) (ht : Keeps u (take s)) :
    Keeps u (fromModule i take s) := by
  unfold Machine.fromModule
  split
  · exact ht
  · exact h.countSlot
  · exact h

theorem Keeps.laneError {i : Nat} (h : Keeps u s) : Keeps u (laneError i s) := h.countSlot

theorem Keeps.burstArrives {i tag : Nat} {d : List Byte} (h : Keeps u s) : Keeps u (burstArrives i tag d s) := by
  unfold Machine.burstArrives
  split
  · exact h.laneError
  · exact h.takeBurst

theorem Keeps.commitCompletion {i : Nat} (h : Keeps u s) (ht : commitCompletion i s = some t) : Keeps u t := by
  unfold Machine.commitCompletion at ht
  dsimp only at ht
  split at ht
  · split at ht
    · next hc =>
      refine Option.some.inj ht ▸ Keeps.setSlot h.freeOtt (fun hl => ?_)
      rw [State.slot_freeOtt] at hl
      exact Slot.laneHeld_commit hc hl
    · cases ht
  · split at ht
    · split at ht
      · next hc =>
        refine Option.some.inj ht ▸ Keeps.setSlot h.updTrans (fun hl => ?_)
        exact Slot.laneHeld_commit (r := { s.slot i with waiting := _ }) (Bool.and_eq_true_iff.mp hc).2 hl
      · cases ht
    · cases ht

theorem Keeps.commitInbound {i : Nat} (h : Keeps u s) (ht : commitInbound i s = some t) : Keeps u t := by
  unfold Machine.commitInbound at ht
  dsimp only at ht
  split at ht
  · split at ht
    · next hc => exact Option.some.inj ht ▸ Keeps.setSlot h.setIn (fun hl => Slot.laneHeld_commit hc hl)
    · cases ht
  · cases ht

theorem Keeps.commitSegment {i : Nat} (h : Keeps u s) (ht : commitSegment i s = some t) : Keeps u t := by
  unfold Machine.commitSegment at ht
  split at ht
  · exact Option.some.inj ht ▸ h.sendSegment
  · cases ht

theorem Keeps.arbitrateLane {i : Nat} (h : Keeps u s) (ht : arbitrateLane i s = some t) : Keeps u t := by
  unfold Machine.arbitrateLane at ht
  split at ht
  · next hc => exact Option.some.inj ht ▸ h.commitCompletion hc
  · split at ht
    · next hc => exact Option.some.inj ht ▸ h.commitInbound hc
    · exact h.commitSegment ht

theorem Keeps.serveLane {i n : Nat} (h : Keeps u s) : Keeps u (serveLane i n s) := by
  induction n generalizing s with
  | zero => exact h
  | succ n ih =>
    unfold Machine.serveLane
    split
    · next ht => exact ih (h.arbitrateLane ht)
    · exact h

theorem Keeps.creditsReturned {i n : Nat} (h : Keeps u s) : Keeps u (creditsReturned i n s) := by
  unfold Machine.creditsReturned
  exact Keeps.settleDrain (Keeps.serveLane (h.updSlot (fun hl => ⟨hl.1, Nat.min_le_right _ _, hl.2.2⟩)))

theorem Keeps.admitCommand {i : Nat} (h : Keeps u s) : Keeps u (admitCommand i s).2 := by
  unfold Machine.admitCommand
  split
  · exact h.enterPowering
  · exact h.enterPowering
  · exact h
  · exact h
  · exact h

theorem Keeps.ejectCommand {i : Nat} (h : Keeps u s) : Keeps u (ejectCommand i s).2 := by
  unfold Machine.ejectCommand
  split
  · next hs => exact h.enterExtracting (Slot.extracting_hasLane (.inl hs))
  · next hs => exact h.enterExtracting (Slot.extracting_hasLane (.inr hs))
  · exact h
  · exact h
  · exact h

theorem Keeps.parkSlot {i : Nat} (h : Keeps u s) : Keeps u (parkSlot i s) :=
  Keeps.departureCleanup (h.updSlot (fun _ => Slot.laneHeld_setLane rfl))

theorem Keeps.parkCommand {i : Nat} (h : Keeps u s) : Keeps u (parkCommand i s).2 := by
  unfold Machine.parkCommand
  split
  · split
    · exact h
    · exact h.parkSlot
  · exact h
  · exact h

theorem Keeps.unparkCommand {i : Nat} (h : Keeps u s) : Keeps u (unparkCommand i s).2 := by
  unfold Machine.unparkCommand
  split
  · exact h.enterPowering
  · exact h
  · exact h

theorem Keeps.clearCommand {i : Nat} (h : Keeps u s) : Keeps u (clearCommand i s).2 := by
  unfold Machine.clearCommand
  split
  · next hs => exact h.enterInserted (Slot.lane_off (.inr hs))
  · exact h

theorem Keeps.resetSlot {i : Nat} (h : Keeps u s) : Keeps u (resetSlot i s) :=
  Keeps.departureCleanup (Keeps.enterPowering h.countSlot)

theorem Keeps.slotResetCommand {i : Nat} (h : Keeps u s) : Keeps u (slotResetCommand i s).2 := by
  unfold Machine.slotResetCommand
  split
  · exact h.resetSlot
  · exact h

theorem Keeps.slotCommand {i code : Nat} (h : Keeps u s) : Keeps u (slotCommand i code s).2 := by
  unfold Machine.slotCommand
  split
  · exact h.admitCommand
  · exact h.ejectCommand
  · exact h.parkCommand
  · exact h.unparkCommand
  · exact h.clearCommand
  · exact h.slotResetCommand
  · exact h

theorem Keeps.expireSlotTimers {i : Nat} (h : Keeps u s) : Keeps u (expireSlotTimers i s) := by
  unfold Machine.expireSlotTimers
  dsimp only
  split
  · exact h.powerExpired
  · split
    · exact h.drainExpired
    · exact h

theorem Keeps.powerInserted {i : Nat} (h : Keeps u s) : Keeps u (powerInserted s i) := by
  unfold Machine.powerInserted
  dsimp only
  split
  · exact h.enterPowering
  · exact h

theorem Keeps.writeSlotSettings {i : Nat} {w : SlotSettings} (h : Keeps u s) : Keeps u (writeSlotSettings i w s).2 := by
  unfold Machine.writeSlotSettings
  split
  · exact h
  · exact Keeps.powerInserted (Keeps.expireSlotTimers (h.updSlot (fun hl => hl)))

theorem Keeps.attentionRaised {i : Nat} (h : Keeps u s) : Keeps u (attentionRaised i s) := by
  unfold Machine.attentionRaised
  dsimp only
  split
  · exact h.updMgmt.raise
  · exact h

theorem Keeps.removeAttention {set : SlotSet} (h : Keeps u s) : Keeps u (removeAttention set s) := by
  unfold Machine.removeAttention
  dsimp only
  split
  · exact h.updMgmt.clearKind
  · exact h.updMgmt

end Sys2Proof.Machine
end

section
/-! SUPPORT. What the records' writes, the resets and the accesses to controller space keep, and what an answer leaves
alone. -/

namespace Sys2Proof.Machine

variable {u s t : State}

/-! ## What an answer leaves alone (R151, R152, R156) -/

/-- From `s` to `t` no unit changes but the Transaction Unit, the channels and the Management Unit. -/
def AnswersOnly (s t : State) : Prop := ∃ tr ch m n, t = { s with trans := tr, channels := ch, mgmt := m, serial := n }

theorem AnswersOnly.refl (s : State) : AnswersOnly s s := ⟨_, _, _, _, rfl⟩

theorem AnswersOnly.trans (h : AnswersOnly s t) (h' : AnswersOnly t u) : AnswersOnly s u := by
  obtain ⟨_, _, _, _, rfl⟩ := h
  obtain ⟨_, _, _, _, rfl⟩ := h'
  exact ⟨_, _, _, _, rfl⟩

theorem AnswersOnly.topo (h : AnswersOnly s t) : t.topo = s.topo := by obtain ⟨_, _, _, _, rfl⟩ := h; rfl

theorem AnswersOnly.port (h : AnswersOnly s t) (p : PortId) : t.port p = s.port p := by
  obtain ⟨_, _, _, _, rfl⟩ := h; cases p <;> rfl

theorem AnswersOnly.slot (h : AnswersOnly s t) (i : Nat) : t.slot i = s.slot i := by obtain ⟨_, _, _, _, rfl⟩ := h; rfl

theorem AnswersOnly.noteFreed (h : AnswersOnly s t) : AnswersOnly s (u.noteFreed t) := by
  rcases noteFreed_cases u t with ⟨-, g, l, he⟩ | ⟨-, he⟩ <;> rw [he]
  · exact h.trans ⟨_, _, _, _, rfl⟩
  · exact h

theorem answersOnly_channelAnswer (c tag : Nat) (st : Status) (d : List Byte) (s : State) :
    AnswersOnly s (channelAnswer c tag st d s) := by
  unfold channelAnswer chunkWritten
  dsimp only
  split
  · exact ⟨_, _, _, _, rfl⟩
  · split
    · exact ⟨_, _, _, _, rfl⟩
    · split
      · split
        · exact ⟨_, _, _, _, rfl⟩
        · exact ⟨_, _, _, _, rfl⟩
      · exact ⟨_, _, _, _, rfl⟩

theorem answersOnly_settleNotice (k : Nat) (n : NoticeState) (s : State) : AnswersOnly s (settleNotice k n s) := by
  unfold settleNotice
  dsimp only
  split
  · exact ⟨_, _, _, _, rfl⟩
  · exact .refl s

theorem answersOnly_noticeAnswer (tag : Nat) (st : Status) (s : State) : AnswersOnly s (noticeAnswer tag st s) := by
  have hmgmt : ∀ f, AnswersOnly s (s.updMgmt f) := fun _ => ⟨_, _, _, _, rfl⟩
  unfold noticeAnswer
  split
  · exact .refl s
  · split
    · exact .refl s
    · dsimp only
      split
      · exact hmgmt _
      · exact (hmgmt _).trans (answersOnly_settleNotice _ _ _)

theorem answersOnly_answerEntry (i : Nat) (st : Status) (d : List Byte) (s : State) :
    AnswersOnly s (answerEntry i st d s) := by
  have hdel : AnswersOnly s (s.delOtt i) := ⟨_, _, _, _, rfl⟩
  unfold answerEntry
  split
  · exact .refl s
  · dsimp only
    split
    · exact (hdel.trans (answersOnly_channelAnswer _ _ _ _ _)).noteFreed
    · split
      · exact (hdel.trans (answersOnly_noticeAnswer _ _ _)).noteFreed
      · exact ⟨_, _, _, _, rfl⟩

theorem answersOnly_completionHere (id tag : Nat) (st : Status) (d : List Byte) (s : State) :
    AnswersOnly s (completionHere id tag st d s) := by
  unfold completionHere
  dsimp only
  split
  · exact ⟨_, _, _, _, rfl⟩
  · split
    · exact ⟨_, _, _, _, rfl⟩
    · split
      · exact ⟨_, _, _, _, rfl⟩
      · split
        · exact ⟨_, _, _, _, rfl⟩
        · exact answersOnly_answerEntry _ _ _ _

theorem sendCompletion_topo {direct : Bool} {who : Requester} {st : Status} {d : List Byte}
    (h : sendCompletion direct who st d s = some t) : t.topo = s.topo := by
  unfold sendCompletion at h
  split at h
  · exact Option.some.inj h ▸ (answersOnly_completionHere _ _ _ _ s).topo
  · split at h
    · exact Option.some.inj h ▸ (answersOnly_completionHere _ _ _ _ s).topo
    · split at h
      · exact Option.some.inj h ▸ State.updPort_topo s _ _
      · cases h
    · exact Option.some.inj h ▸ rfl

/-! ## Writes of the records (chapters 3, 8, 9 and 10) -/

theorem Keeps.writeRootTrim {v : Int} (h : Keeps u s) : Keeps u (writeRootTrim v s).2 := by
  unfold Machine.writeRootTrim
  split
  · exact h.withRtu Iff.rfl
  · exact h

theorem Keeps.writeLoad {v : Nat} (h : Keeps u s) : Keeps u (writeLoad v s).2 := by
  unfold Machine.writeLoad
  split
  · exact h.withRtu Iff.rfl
  · exact h

theorem Keeps.writeTimebase {w : TimebaseSettings} (h : Keeps u s) : Keeps u (writeTimebase w s).2 := by
  unfold Machine.writeTimebase
  split
  · exact Keeps.withRtu h Iff.rfl
  · exact h

theorem Keeps.writeTransSettings {w : TransSettings} (h : Keeps u s) : Keeps u (writeTransSettings w s).2 := by
  unfold Machine.writeTransSettings
  split
  · dsimp only
    exact h.updTrans
  · exact h

theorem Keeps.writeWindow {i : Nat} {w : WindowWrite} (h : Keeps u s) : Keeps u (writeWindow i w s).2 := by
  unfold Machine.writeWindow
  split
  · exact h
  · split
    · exact h
    · split
      · exact h.setWindow
      · exact h

theorem Keeps.writeWindowGuard {w : GuardWrite} (h : Keeps u s) : Keeps u (writeWindowGuard w s).2 := by
  unfold Machine.writeWindowGuard
  dsimp only
  exact h.updTrans

theorem Keeps.writeChannel {c : Nat} {w : ChannelSetup} (h : Keeps u s) : Keeps u (writeChannel c w s).2 := by
  unfold Machine.writeChannel
  dsimp only
  split
  · exact h
  · split
    · exact h.setChannel
    · exact h

theorem Keeps.startCommand {c : Nat} (h : Keeps u s) : Keeps u (startCommand c s).2 := by
  unfold Machine.startCommand
  dsimp only
  split
  · exact h
  · exact h.setChannel

theorem Keeps.pauseCommand {c : Nat} (h : Keeps u s) : Keeps u (pauseCommand c s).2 := by
  unfold Machine.pauseCommand
  dsimp only
  split
  · exact h.setChannel
  · exact h
  · exact h

theorem Keeps.resumeCommand {c : Nat} (h : Keeps u s) : Keeps u (resumeCommand c s).2 := by
  unfold Machine.resumeCommand
  dsimp only
  split
  · exact h.setChannel
  · exact h
  · exact h

theorem Keeps.channelCommand {c code : Nat} (h : Keeps u s) : Keeps u (channelCommand c code s).2 := by
  unfold Machine.channelCommand
  split
  · exact h.startCommand
  · exact h.pauseCommand
  · exact h.resumeCommand
  · exact h.setChannel
  · exact h

theorem Keeps.writeManager {f i : Nat} (h : Keeps u s) : Keeps u (writeManager f i s).2 := by
  unfold Machine.writeManager
  split
  · dsimp only
    exact h.updMgmt
  · exact h

theorem Keeps.writeClear {set : BitVec 32} (h : Keeps u s) : Keeps u (writeClear set s).2 := h.clearKinds

theorem Keeps.writeNotice {e : BitVec 32} {a : Nat} (h : Keeps u s) : Keeps u (writeNotice e a s).2 := by
  unfold Machine.writeNotice
  split
  · exact h
  · exact h.updMgmt.foldl _ (fun u _ => (Keeps.refl u).setEvent)

theorem Keeps.writeRemoval {set : SlotSet} (h : Keeps u s) : Keeps u (writeRemoval set s).2 := h.removeAttention

theorem Keeps.writeRate {p : PortId} {v : Nat} (h : Keeps u s) : Keeps u (writeRate p v s).2 := by
  unfold Machine.writeRate
  split
  · dsimp only
    split
    · exact h
    · exact h.changeRate
  · dsimp only
    split
    · exact h
    · exact h.changeRate
  · exact h

theorem Keeps.portCommand {p : PortId} {code : Nat} (h : Keeps u s) : Keeps u (portCommand p code s).2 := by
  unfold Machine.portCommand
  split
  · exact h.retrainCommand
  · exact h.startBurstCommand
  · exact h.nearCommand
  · exact h.farCommand
  · exact h.offCommand
  · exact h

/-! ## Resets (R181, R182) -/

theorem Port.bounded_reset {r : Port} (h : r.bounded) : (resetPort r).bounded := by
  obtain ⟨h1, h2, h3, h4, h5, h6, h7, h8, h9, h10, h11, -⟩ := h
  exact ⟨h1, h2, h3, h4, h5, h6, h7, h8, h9, h10, h11, Nat.zero_le 9⟩

theorem Keeps.resetUnits (h : Keeps u s) : Keeps u (resetUnits s) where
  bounded p hp := by
    have := h.bounded p hp
    cases p
    · exact Port.bounded_reset this
    · exact Port.bounded_reset this
  root hroot := by
    obtain ⟨hyes, -⟩ := h.root hroot
    refine ⟨fun hr => ?_, fun hr => ?_⟩
    · obtain ⟨hn, hw, hh, -⟩ := hyes hr
      exact ⟨hn, hw, hh, if_pos hr⟩
    · intro he
      have hacq : (if s.topo.root then Timebase.reference else Timebase.acquire) = .reference := he
      rw [show s.topo.root = false from hr] at hacq
      cases hacq
  lanes i hi := h.lanes i hi

theorem Keeps.abortEntry {i : Nat} (h : Keeps u s) : Keeps u (abortEntry s i) := by
  unfold Machine.abortEntry
  split
  · split
    · exact h
    · exact h.answerEntry
  · exact h

theorem Keeps.resetTrans (h : Keeps u s) : Keeps u (resetTrans s) := by
  unfold Machine.resetTrans
  exact Keeps.updTrans (Keeps.foldl (h.updTrans.foldl _ (fun u _ => (Keeps.refl u).abortEntry)) _
    (fun u _ => (Keeps.refl u).answerInbound))

/-- R117, R181: a slot's record after a controller reset keeps its lane and both credit counts. -/
theorem Slot.laneHeld_reset {r : Slot} (h : r.laneHeld) : (resetSlotRecord r).laneHeld := by
  unfold resetSlotRecord Slot.unsend
  dsimp only
  split
  · exact h
  · next hm =>
    split
    · obtain ⟨hstate, havail, hadv, hnone⟩ := h
      exact ⟨hstate, havail, hadv, fun hne => absurd ((hnone hne).2.symm.trans hm) (by simp)⟩
    · exact h

theorem Keeps.controllerResetAct (h : Keeps u s) : Keeps u (controllerResetAct s) := by
  have h1 : Keeps u (Machine.resetTrans (Machine.resetUnits s)) := h.resetUnits.resetTrans
  unfold Machine.controllerResetAct
  generalize Machine.resetTrans (Machine.resetUnits s) = v at h1 ⊢
  have h2 : Keeps u { v with channels := tmap {} resetChannel v.channels } := h1.of_eq rfl rfl rfl .rfl rfl
  exact (h2.foldl (List.range 16) (fun u i =>
    Keeps.powerInserted ((Keeps.refl u).updSlot (fun hl => Slot.laneHeld_reset hl)))).raise

theorem Keeps.releaseAct (h : Keeps u s) (hn : u.rootHeld → s.topo.root = false) : Keeps u (releaseAct s) :=
  Keeps.announceExcept (Keeps.helloUpPorts (h.updTopo_of_not_root hn rfl))

/-! ## Controller space (R175) -/

theorem Keeps.controllerCommand {code : Nat} (h : Keeps u s) : Keeps u (controllerCommand code s).2 := by
  unfold Machine.controllerCommand
  split
  · split <;> exact h
  · exact h
  · exact h

theorem Keeps.writeField {f : Field} {ws : List Nat} (h : Keeps u s) : Keeps u (writeField f ws s).2 := by
  unfold Machine.writeField
  cases f
  case manager =>
    dsimp only
    split
    · exact h.writeManager
    · exact h
  case controllerCommand => exact h.controllerCommand
  case rate => exact h.writeRate
  case portCommand => exact h.portCommand
  case rootTrim => exact h.writeRootTrim
  case load => exact h.writeLoad
  case timebase => exact h.writeTimebase
  case slotSettings => exact h.writeSlotSettings
  case slotCommand => exact h.slotCommand
  case trigger => exact h.writeTriggerEntry
  case clearSet => exact h.writeClear
  case removal => exact h.writeRemoval
  case notice => exact h.writeNotice
  case route => exact h.writeRoute
  case routeGuard => exact h.writeRouteGuard
  case binding => exact h.writeBinding
  case window => exact h.writeWindow
  case windowGuard => exact h.writeWindowGuard
  case transSettings => exact h.writeTransSettings
  case channelSetup => exact h.writeChannel
  case channelCommand => exact h.channelCommand

theorem Keeps.writeFields {lo : Nat} {ws : List Nat} {fs : List (Nat × Field)} (h : Keeps u s) :
    Keeps u (writeFields lo ws fs s).2 := by
  induction fs generalizing s with
  | nil => exact h
  | cons x fs ih =>
    obtain ⟨k, f⟩ := x
    have hf : Keeps u (Machine.writeField f ((ws.drop (k - lo)).take f.size) s).2 := h.writeField
    unfold Machine.writeFields
    split
    · next heq =>
      rw [heq] at hf
      exact ih hf
    · exact hf

theorem Keeps.writeRegion {r : Region} {lo : Nat} {ws : List Nat} (h : Keeps u s) : Keeps u (writeRegion r lo ws s).2 := by
  unfold Machine.writeRegion
  dsimp only
  split
  · exact h
  · split
    · exact h
    · exact h.writeFields

/-- An access keeps the three, and gives the number up only where the controller is not the root (R40). -/
structure Served.Keeps (u : State) (x : Served) : Prop where
  state : Machine.Keeps u x.state
  release : x.post = .release → x.state.topo.root = false

theorem Served.keeps_of_none {x : Served} (h : Machine.Keeps u x.state) (hp : x.post = .none) : x.Keeps u :=
  ⟨h, fun hr => by rw [hp] at hr; cases hr⟩

theorem serveBad_keeps : (serveBad s).Keeps s := by
  refine Served.keeps_of_none ?_ rfl
  unfold serveBad
  dsimp only
  exact (Keeps.refl s).updMgmt

theorem serveDenied_keeps : (serveDenied s).Keeps s := by
  refine Served.keeps_of_none ?_ rfl
  unfold serveDenied
  dsimp only
  exact (Keeps.refl s).updMgmt

theorem serveWrite_keeps {who : Requester} {op : State → Status × State} {post : Status → Post}
    (hop : ∀ v, Keeps v (op v).2) (hpost : ∀ v, post (op v).1 = .release → (op v).2.topo.root = false) :
    (serveWrite who op post s).Keeps s := by
  unfold serveWrite
  split
  · exact ⟨(Keeps.refl s).updMgmt.trans (hop _), hpost _⟩
  · exact serveDenied_keeps

/-- R40, R175: the write of the release command is OK only away from the root, and changes nothing by itself. -/
theorem postOf_release {r : Region} {lo : Nat} {ws : List Nat} {v : State}
    (h : postOf r lo ws (writeRegion r lo ws v).1 = .release) : (writeRegion r lo ws v).2.topo.root = false := by
  unfold postOf at h
  split at h
  · next hc =>
    obtain ⟨rfl, rfl, hok⟩ := hc
    split at h
    · have hw : writeRegion .identity 4 [1] v = if v.topo.root then (.badRequest, v) else (.ok, v) := by
        cases hr : v.topo.root <;> simp [writeRegion, fieldsIn, Field.size, Field.isCommand, writeFields, writeField, controllerCommand, hr]
      rw [hw] at hok ⊢
      cases hr : v.topo.root
      · simpa using hr
      · simp [hr] at hok
    · cases h
    · cases h
  · cases h

theorem serveController_keeps {who : Requester} {op : Op} {a l : Nat} {d : List Byte} :
    (serveController who op a l d s).Keeps s := by
  unfold serveController
  split
  · exact serveBad_keeps
  · split
    · exact serveBad_keeps
    · split
      · refine Served.keeps_of_none ?_ rfl
        dsimp only
        exact (Keeps.refl s).updMgmt
      · split
        · exact serveBad_keeps
        · exact serveWrite_keeps (fun v => (Keeps.refl v).writeRegion) (fun _ => postOf_release)
      · exact serveBad_keeps

theorem serveNumbered_keeps {x : Served} (h : x.Keeps s) : (serveNumbered x s).Keeps s := by
  unfold serveNumbered
  split
  · exact h
  · exact Served.keeps_of_none (Keeps.refl s) rfl

theorem Served.Keeps.completeServed {direct : Bool} {who : Requester} {x : Served} (h : x.Keeps u)
    (ht : completeServed direct who x = some t) : Machine.Keeps u t := by
  unfold Machine.completeServed at ht
  obtain ⟨v, hv, rfl⟩ := Option.map_eq_some_iff.mp ht
  have hsent : Machine.Keeps u v := h.state.sendCompletion hv
  unfold applyPost
  split
  · exact hsent
  · next hp => exact hsent.releaseAct (fun _ => by rw [sendCompletion_topo hv]; exact h.release hp)
  · exact hsent.controllerResetAct

theorem Keeps.managerCommand {who : Requester} {op : State → Status × State} {post : Status → Post}
    (hop : ∀ v, Keeps v (op v).2) (hpost : ∀ v, post (op v).1 = .release → (op v).2.topo.root = false) :
    Keeps s (managerCommand who op post s) :=
  getD_of_forall (P := Keeps s) (fun _ ht => (serveNumbered_keeps (serveWrite_keeps hop hpost)).completeServed ht) (Keeps.refl s)

theorem Keeps.managed {who : Requester} {op : State → Status × State} (hop : ∀ v, Keeps v (op v).2) :
    Keeps s (managed who op s) := Keeps.managerCommand hop (fun _ hr => nomatch hr)

theorem Keeps.spaceWrite {who : Requester} {a : Nat} {d : List Byte} : Keeps s (spaceWrite who a d s) :=
  getD_of_forall (P := Keeps s) (fun _ ht => (serveNumbered_keeps serveController_keeps).completeServed ht) (Keeps.refl s)

end Sys2Proof.Machine
end

section
/-! SUPPORT. What requests, the boundary event, the arrivals and so every step keep. -/

namespace Sys2Proof.Machine

variable {u s t : State}

/-! ## The target side and the cables (R149 to R162) -/

theorem Keeps.countAnswer {st : Status} (h : Keeps u s) : Keeps u (countAnswer st s) := by
  unfold Machine.countAnswer
  split
  · exact h.updTrans
  · exact h

/-- R16: a request joins a queue that has room for it. -/
theorem Keeps.pushRequest {p : PortId} {r : Request} (h : Keeps u s) (hroom : (s.port p).qRequest.length < 16) :
    Keeps u (pushRequest p r s) :=
  h.updPort (fun hb => Port.bounded_qRequest hb (by simpa using hroom))

theorem Keeps.joinInbound {src : Via} {r : Request} {k : Nat} (h : Keeps u s) : Keeps u (joinInbound src r k s) :=
  h.setIn.setLock.nextSerial

theorem Keeps.serveSlot {src : Via} {r : Request} (h : Keeps u s) (ht : serveSlot src r s = some t) : Keeps u t := by
  unfold Machine.serveSlot at ht
  dsimp only at ht
  split at ht
  · exact h.updTrans.sendCompletion ht
  · split at ht
    · exact h.updTrans.sendCompletion ht
    · split at ht
      · exact h.updTrans.sendCompletion ht
      · split at ht
        · exact h.updTrans.sendCompletion ht
        · split at ht
          · exact h.updTrans.sendCompletion ht
          · exact h.updTrans.sendCompletion ht
          · exact Option.some.inj ht ▸ h.joinInbound

theorem Keeps.targetSide {src : Via} {r : Request} (h : Keeps u s) (ht : targetSide src r s = some t) : Keeps u t := by
  unfold Machine.targetSide at ht
  split at ht
  · exact h.trans (serveController_keeps.completeServed ht)
  · split at ht
    · exact h.sendCompletion ht
    · exact h.serveSlot ht

/-- R39: only an unnumbered controller takes a number, and the root has one. -/
theorem requestFate_takeNumber {src : Option PortId} {r : Request} (hf : s.requestFate src r = .takeNumber) :
    s.topo.frameNumber = none := by
  have hout : ∀ q p x, sendOut q p x ≠ .takeNumber := fun q p x => by
    unfold sendOut
    split
    · exact fun hx => nomatch hx
    · split
      · exact fun hx => nomatch hx
      · exact fun hx => nomatch hx
  have honward : ∀ q x, s.nextOnward q x ≠ .takeNumber := fun q x => by
    unfold State.nextOnward
    split
    · exact hout _ _ _
    · exact fun hx => nomatch hx
  unfold State.requestFate at hf
  split at hf
  · cases hf
  · split at hf
    · cases hf
    · split at hf
      · unfold State.nextFate at hf
        split at hf
        · cases hf
        · split at hf
          · exact absurd hf (honward _ _)
          · next hn => simpa using hn
      · split at hf
        · cases hf
        · exact absurd hf (hout _ _ _)
        · cases hf

theorem State.rootHeld.not_root_of_unnumbered (h : s.rootHeld) (hn : s.topo.frameNumber = none) : s.topo.root = false := by
  obtain ⟨hyes, -⟩ := h
  cases hr : s.topo.root
  · rfl
  · rw [(hyes hr).1] at hn
    cases hn

theorem Keeps.takeNumber {r : Request} (h : Keeps u s) (hn : s.topo.frameNumber = none) (ht : takeNumber r s = some t) :
    Keeps u t := by
  unfold Machine.takeNumber at ht
  dsimp only at ht
  obtain ⟨v, hv, rfl⟩ := Option.map_eq_some_iff.mp ht
  have hnumbered := h.updTopo_of_not_root (f := fun t => { t with
    frameNumber := some (beNat r.data), directory := tput t.directory (beNat r.data) ⟨.here, 0, s.unitId⟩
    assignsTaken := bump t.assignsTaken }) (fun hu => (h.root hu).not_root_of_unnumbered hn) rfl
  exact (hnumbered.updMgmt.sendCompletion hv).helloUpPorts.sendAnnounce

theorem Keeps.examineRequest {p : PortId} {r : Request} (h : Keeps u s) (ht : examineRequest p r s = some t) : Keeps u t := by
  unfold Machine.examineRequest at ht
  split at ht
  · split at ht
    · next hroom => exact Option.some.inj ht ▸ h.pushRequest (by simpa [State.requestRoom] using (Bool.and_eq_true_iff.mp hroom).2)
    · cases ht
  · exact h.targetSide ht
  · next hf => exact h.takeNumber (requestFate_takeNumber hf) ht
  · exact h.countAnswer.sendCompletion ht

theorem Keeps.examineCompletion {p : PortId} {c : Completion} (h : Keeps u s) (ht : examineCompletion p c s = some t) :
    Keeps u t := by
  unfold Machine.examineCompletion at ht
  dsimp only at ht
  split at ht
  · exact Option.some.inj ht ▸ h.completionHere
  · split at ht
    · exact Option.some.inj ht ▸ h.updTrans
    · split at ht
      · split at ht
        · exact Option.some.inj ht ▸ h.updTrans
        · split at ht
          · next hroom =>
            exact Option.some.inj ht ▸ h.updPort (fun hb => Port.bounded_qCompletion hb (by simpa using hroom.2))
          · cases ht
      · exact Option.some.inj ht ▸ h.updTrans

/-- R13: a held parcel takes a buffer of its class. -/
theorem Keeps.holdRequest {p : PortId} {r : Request} (h : Keeps u s) (hroom : (s.port p).heldRequests.length < 8) :
    Keeps u (holdRequest p r s) :=
  Keeps.nextSerial (h.updPort (fun hb => Port.bounded_heldRequests hb (by simpa using hroom)))

theorem Keeps.holdCompletion {p : PortId} {c : Completion} (h : Keeps u s) (hroom : (s.port p).heldCompletions.length < 8) :
    Keeps u (holdCompletion p c s) :=
  Keeps.nextSerial (h.updPort (fun hb => Port.bounded_heldCompletions hb (by simpa using hroom)))

theorem Keeps.arriveRequest {p : PortId} {r : Request} (h : Keeps u s) : Keeps u (arriveRequest p r s) := by
  unfold Machine.arriveRequest
  split
  · exact h.countPort
  · next hfull =>
    have hroom := Nat.lt_of_not_le hfull
    split
    · next ht =>
      split
      · exact h.holdRequest hroom
      · exact (h.examineRequest ht).freeBuffer
    · exact h.holdRequest hroom

theorem Keeps.arriveCompletion {p : PortId} {c : Completion} (h : Keeps u s) : Keeps u (arriveCompletion p c s) := by
  unfold Machine.arriveCompletion
  split
  · exact h.countPort
  · next hfull =>
    have hroom := Nat.lt_of_not_le hfull
    split
    · next ht =>
      split
      · exact h.holdCompletion hroom
      · exact (h.examineCompletion ht).freeBuffer
    · exact h.holdCompletion hroom

/-! ## The OTT (R141 to R155) -/

theorem Keeps.routeEntry {i : Nat} (h : Keeps u s) : Keeps u (routeEntry i s) := by
  unfold Machine.routeEntry
  split
  · exact h
  · dsimp only
    split
    · split
      · next hroom =>
        simp only [State.requestRoom, Bool.and_eq_true, decide_eq_true_eq] at hroom
        exact h.setOtt.pushRequest hroom.1.2
      · exact h.setOtt
    · exact getD_of_forall (P := Keeps u) (fun _ ht => h.setOtt.targetSide ht) h.setOtt
    · exact h.countAnswer.answerEntry
    · exact h.countAnswer.answerEntry

theorem Keeps.rerouteEntry {i : Nat} (h : Keeps u s) : Keeps u (rerouteEntry s i) := by
  unfold Machine.rerouteEntry
  split
  · split
    · exact h.routeEntry
    · exact h
  · exact h

theorem Keeps.rerouteAll {n : Nat} (h : Keeps u s) : Keeps u (rerouteAll n s) := by
  induction n generalizing s with
  | zero => exact h
  | succ n ih =>
    unfold Machine.rerouteAll
    split
    · exact ih (h.foldl _ (fun u _ => (Keeps.refl u).rerouteEntry))
    · exact h

theorem Keeps.finish (h : Keeps u s) : Keeps u (finish s) := h.rerouteAll.settleDrains

theorem Keeps.takeEntry {arb : Trans} {k : Nat} {e : OttEntry} {w : Option Status} (h : Keeps u s) :
    Keeps u (takeEntry arb k e w s) := by
  have h1 : ∀ f, Keeps u ((s.setOtt k { e with order := s.serial }).updTrans f).nextSerial :=
    fun _ => h.setOtt.updTrans.nextSerial
  unfold Machine.takeEntry
  dsimp only
  split
  · exact Keeps.answerEntry (Keeps.countAnswer (Keeps.updTrans (h1 _)))
  · exact (h1 _).routeEntry

theorem Keeps.refuseHead {i : Nat} (h : Keeps u s) : Keeps u (refuseHead i s) := by
  have h1 : ∀ w : Slot → List WaitingRequest, Keeps u (s.updSlot i (fun r => { r with waiting := w r })) := fun _ => h.updSlot (fun hl => hl)
  unfold Machine.refuseHead
  dsimp only
  split
  · exact getD_of_forall (P := Keeps u) (fun _ ht => (h1 _).commitCompletion ht) (h1 _)
  · exact h1 _

theorem Keeps.takeHead {i : Nat} (h : Keeps u s) : Keeps u (takeHead i s) := by
  unfold Machine.takeHead
  dsimp only
  split
  · split
    · exact h.refuseHead
    · split
      · exact Keeps.takeEntry (h.setSlot (fun hl => hl))
      · exact h
  · exact h

theorem Keeps.slotRequest {i : Nat} {x : Option LaneRequest} (h : Keeps u s) : Keeps u (slotRequest i x s) := by
  unfold Machine.slotRequest
  split
  · exact h.fromModule (Keeps.takeHead (h.updSlot (fun hl => hl)))
  · exact h.takeHead

theorem Keeps.startRead {c : Nat} (h : Keeps u s) : Keeps u (startRead c s) := by
  unfold Machine.startRead
  dsimp only
  split
  · exact h
  · split
    · exact h
    · exact h.setChannel.takeEntry

theorem Keeps.startWrite {c : Nat} (h : Keeps u s) : Keeps u (startWrite c s) := by
  unfold Machine.startWrite
  dsimp only
  split
  · exact h.setChannel.takeEntry
  · exact h

theorem Keeps.issueNotice (h : Keeps u s) : Keeps u (issueNotice s) := by
  unfold Machine.issueNotice
  split
  · exact h.updMgmt.takeEntry
  · exact h

/-! ## Room in a port's transaction queues (R150) -/

theorem Keeps.releaseRequest {x : HeldReq} (h : Keeps u s) : Keeps u (releaseRequest x s) := by
  refine h.updPort (fun hb => ?_)
  split
  · refine Port.bounded_freeBuffer (Port.bounded_heldRequests hb ?_) .request
    obtain ⟨-, -, -, -, -, hheld, -⟩ := hb
    exact (List.length_filter_le _ _).trans hheld
  · exact hb

theorem Keeps.releaseCompletion {q : PortId} {x : HeldCompletion} (h : Keeps u s) : Keeps u (releaseCompletion q x s) := by
  refine h.updPort (fun hb => ?_)
  split
  · refine Port.bounded_freeBuffer (Port.bounded_heldCompletions hb ?_) .completion
    obtain ⟨-, -, -, -, -, -, hheld, -⟩ := hb
    exact (List.length_filter_le _ _).trans hheld
  · exact hb

theorem Keeps.retryRequest {x : HeldReq} (h : Keeps u s) (ht : retryRequest x s = some t) : Keeps u t := by
  obtain ⟨v, hv, rfl⟩ := Option.map_eq_some_iff.mp ht
  exact (h.examineRequest hv).releaseRequest

theorem Keeps.retryHeld {x : HeldAny} (h : Keeps u s) (ht : retryHeld x s = some t) : Keeps u t := by
  cases x with
  | req r => exact h.retryRequest ht
  | comp q k =>
    obtain ⟨v, hv, rfl⟩ := Option.map_eq_some_iff.mp ht
    exact (h.examineCompletion hv).releaseCompletion

theorem Keeps.takeRequestRoom {p : PortId} (h : Keeps u s) : Keeps u (takeRequestRoom p s) := by
  have hheld : ∀ x : HeldReq, Keeps u (((Machine.retryRequest x s).map
      (fun s => s.updPort p (fun r => { r with reqTookHeld := true }))).getD s) := fun x =>
    getD_of_forall (P := Keeps u) (fun v hv => by
      obtain ⟨v', hv', rfl⟩ := Option.map_eq_some_iff.mp hv
      exact (h.retryRequest hv').updPort (fun hb => hb)) h
  unfold Machine.takeRequestRoom
  dsimp only
  split
  · exact h
  · next hroom =>
    simp only [State.requestRoom, Bool.not_eq_true', Bool.not_eq_false, Bool.and_eq_true, decide_eq_true_eq] at hroom
    have hown : ∀ k e, Keeps u ((Machine.sendQueued p k e s).updPort p (fun r => { r with reqTookHeld := false })) :=
      fun k e => Keeps.updPort (Keeps.pushRequest h.setOtt hroom.2) (fun hb => hb)
    split
    · split
      · exact hown _ _
      · exact hheld _
    · exact hheld _
    · exact hown _ _
    · exact h

theorem Keeps.markTaken {p : PortId} {held : Bool} (h : Keeps u t) : Keeps u (markTaken p held s t) := by
  unfold Machine.markTaken
  split
  · exact h.updPort (fun hb => hb)
  · exact h

theorem Keeps.takeCompletionRoom {p : PortId} (h : Keeps u s) : Keeps u (takeCompletionRoom p s) := by
  have hheld : ∀ v, (((s.heldFor p).insertionSort (fun a b => a.order ≤ b.order)).findSome?
      (fun x => Machine.retryHeld x s)).map (Machine.markTaken p true s) = some v → Keeps u v := fun v hv => by
    obtain ⟨w, hw, rfl⟩ := Option.map_eq_some_iff.mp hv
    obtain ⟨x, -, hx⟩ := List.exists_of_findSome?_eq_some hw
    exact (h.retryHeld hx).markTaken
  have hown : ∀ v, (s.oldestInboundAnswer p).bind
      (fun x => (Machine.takeInbound x.1 s).map (Machine.markTaken p false s)) = some v → Keeps u v := fun v hv => by
    obtain ⟨x, -, hx⟩ := Option.bind_eq_some_iff.mp hv
    obtain ⟨w, hw, rfl⟩ := Option.map_eq_some_iff.mp hx
    exact (h.takeInbound hw).markTaken
  unfold Machine.takeCompletionRoom
  dsimp only
  refine getD_of_forall (P := Keeps u) (fun v hv => ?_) h
  split at hv
  · rcases Option.or_eq_some_iff.mp (Option.orElse_eq_or.symm.trans hv) with hv | ⟨-, hv⟩
    · exact hown v hv
    · exact hheld v hv
  · rcases Option.or_eq_some_iff.mp (Option.orElse_eq_or.symm.trans hv) with hv | ⟨-, hv⟩
    · exact hheld v hv
    · exact hown v hv

/-! ## Deadlines and replies (R153, R158, R159, R163) -/

theorem Keeps.entryExpires {i : Nat} (h : Keeps u s) : Keeps u (entryExpires i s) := by
  unfold Machine.entryExpires
  split
  · exact h
  · split
    · split
      · exact h.enterBackoff
      · exact h.updTrans.answerEntry
    · exact h

theorem Keeps.backoffOver {i : Nat} (h : Keeps u s) : Keeps u (backoffOver i s) := by
  unfold Machine.backoffOver
  split
  · exact h
  · split
    · exact h.setOtt.routeEntry
    · exact h

theorem Keeps.responseExpires {k : Nat} (h : Keeps u s) : Keeps u (responseExpires k s) := by
  unfold Machine.responseExpires
  split
  · exact h
  · split
    · exact h
    · exact h.updTrans.answerInbound

theorem Keeps.replyArrives {i k code : Nat} {d : List Byte} (h : Keeps u s) : Keeps u (replyArrives i k code d s) := by
  unfold Machine.replyArrives
  dsimp only
  split
  · exact h.updTrans
  · split
    · exact h.answerInbound
    · exact h.updTrans

theorem Keeps.lockExpires {i : Nat} (h : Keeps u s) : Keeps u (lockExpires i s) := by
  unfold Machine.lockExpires
  dsimp only
  split
  · exact h.releaseLock.updTrans.raise
  · exact h

/-! ## The boundary event (R43) -/

theorem Port.bounded_boundary {r : Port} {d : Bool} (h : r.bounded) : (r.boundary d).bounded := by
  obtain ⟨h1, h2, h3, h4, h5, h6, h7, h8, h9, h10, h11, -⟩ := h
  refine ⟨?_, h2, h3, h4, h5, h6, h7, h8, h9, h10, h11, Nat.zero_le 9⟩
  unfold Port.boundary
  dsimp only
  split
  · rwa [List.length_map]
  · exact h1

theorem Keeps.rootMarks (h : Keeps u s) : Keeps u (rootMarks s) := by
  unfold Machine.rootMarks
  split
  · refine h.foldl _ (fun u p => ?_)
    split
    · exact (Keeps.refl u).updPort (fun hb => Port.bounded_offerTiming hb _)
    · exact Keeps.refl u
  · exact h

theorem Keeps.ageSeen (h : Keeps u s) : Keeps u (ageSeen s) := h.updTrig

theorem Keeps.triggerBoundary {d : Bool} (h : Keeps u s) : Keeps u (triggerBoundary d s) := by
  unfold Machine.triggerBoundary
  dsimp only
  split
  · exact h.ageSeen.updTrig.fireSteppedOver
  · exact h.ageSeen.updTrig

theorem Keeps.channelsBoundary (h : Keeps u s) : Keeps u (channelsBoundary s) := h.of_eq rfl rfl rfl .rfl rfl

theorem holdoverOver_reference (r : Rtu) : r.holdoverOver.1.state = .reference ↔ r.state = .reference := by
  unfold Rtu.holdoverOver
  split
  · next h => simp [h.1]
  · exact Iff.rfl

theorem boundaryCounts_reference (r : Rtu) : r.boundaryCounts.1.state = .reference ↔ r.state = .reference := by
  have hmissed : ({ r with markGap := min (r.markGap + 1) 3 } : Rtu).referenceLost.1.state = .reference ↔
      r.state = .reference := referenceLost_reference _
  unfold Rtu.boundaryCounts
  split
  · dsimp only
    split
    · exact hmissed
    · exact Iff.rfl
  · dsimp only
    split
    · exact hmissed
    · exact Iff.rfl
  · exact holdoverOver_reference { r with holdoverEpochs := r.holdoverEpochs + 1 }
  · exact Iff.rfl

theorem boundaryInstant_state (r : Rtu) : r.boundaryInstant.1.1.state = r.state := by
  rcases hl : r.pendingLoad with _ | v
  · rcases hp : r.pendingStep with _ | a <;> simp [Rtu.boundaryInstant, hl, hp]
  · simp [Rtu.boundaryInstant, hl]

theorem Keeps.portBoundaries {d : Bool} (h : Keeps u s) :
    Keeps u { s with port0 := s.port0.boundary d, port1 := s.port1.boundary d } where
  bounded p hp := by
    have := h.bounded p hp
    cases p
    · exact Port.bounded_boundary this
    · exact Port.bounded_boundary this
  root hroot := h.root hroot
  lanes i hi := h.lanes i hi

theorem Keeps.boundaryEvent {d restart : Bool} (h : Keeps u s) : Keeps u (boundaryEvent d restart s) := by
  unfold Machine.boundaryEvent
  dsimp only
  refine Keeps.scheduleBurst (Keeps.scheduleBurst (Keeps.rootMarks (Keeps.channelsBoundary (Keeps.foldl ?_ _
    (fun u _ => (Keeps.refl u).passBoundary)))))
  refine Keeps.deliveryBoundary (Keeps.reopenPackers (Keeps.triggerBoundary (Keeps.topologyBoundary ?_)))
  exact h.portBoundaries.applyRtu (boundaryCounts_reference _)

theorem Keeps.epochBoundary (h : Keeps u s) : Keeps u (epochBoundary s) :=
  (h.closePackers.applyRtu (by rw [boundaryInstant_state])).boundaryEvent

/-! ## Arrivals (R12, R13, R184) -/

theorem Keeps.receiveStream {p : PortId} {x : StreamParcel} (h : Keeps u s) : Keeps u (receiveStream p x s) :=
  h.byState h.takeStream.freeBuffer

theorem Keeps.receiveEchoReply {p : PortId} {n t2 t3 : Nat} (h : Keeps u s) : Keeps u (receiveEchoReply p n t2 t3 s) := by
  unfold Machine.receiveEchoReply
  split
  · exact h.acceptEchoReply
  · exact h.byState h.acceptEchoReply

theorem Keeps.receiveCredit {p : PortId} {a b c : Nat} (h : Keeps u s) : Keeps u (receiveCredit p a b c s) := by
  unfold Machine.receiveCredit
  split
  · exact h.acceptCredit
  · exact h.byState h.acceptCredit

theorem Keeps.receiveRequest {p : PortId} {r : Request} (h : Keeps u s) : Keeps u (receiveRequest p r s) :=
  h.byState h.arriveRequest

theorem Keeps.receiveCompletion {p : PortId} {c : Completion} (h : Keeps u s) : Keeps u (receiveCompletion p c s) :=
  h.byState h.arriveCompletion

theorem Keeps.receiveParcel {p : PortId} {x : Parcel} (h : Keeps u s) : Keeps u (receiveParcel p x s) := by
  cases x with
  | stream x => exact h.receiveStream
  | mark m => exact h.byState h.acceptMark
  | echo n => exact h.acceptEcho
  | echoReply n t2 t3 => exact h.receiveEchoReply
  | trigger m => exact h.byState h.acceptTrigger
  | hello x => exact h.acceptHello
  | announce a => exact h.byState h.acceptAnnounce
  | credit a b c => exact h.receiveCredit
  | request r => exact h.receiveRequest
  | completion c => exact h.receiveCompletion

theorem Keeps.receiveBytes {p : PortId} {b : List Byte} (h : Keeps u s) : Keeps u (receiveBytes p b s) := by
  unfold Machine.receiveBytes
  split
  · split
    · exact h.badParcel
    · split
      · exact h.receiveParcel
      · exact h
  · exact h.sendBack

theorem Keeps.leaveLoop {p : PortId} {b : List Byte} (h : Keeps u s) : Keeps u (leaveLoop p b s) := by
  refine h.updPort (fun hb => ?_)
  split
  · split <;> exact hb
  · exact hb

theorem Keeps.loopbackReturn {p : PortId} {b : List Byte} (h : Keeps u s) : Keeps u (loopbackReturn p b s) := by
  unfold Machine.loopbackReturn
  split
  · exact h.leaveLoop.receiveBytes
  · exact h

theorem Keeps.receiveLaneBytes {i : Nat} {b : List Byte} (h : Keeps u s) : Keeps u (receiveLaneBytes i b s) := by
  refine h.fromModule ?_
  split
  · exact h.laneError
  · exact h.burstArrives
  · exact h.slotRequest
  · exact h.replyArrives
  · exact h.creditsReturned

/-! ## The inputs and timers of a port -/

theorem Keeps.senseShown {p : PortId} (h : Keeps u s) : Keeps u (senseShown p s) := by
  have h1 : Keeps u (s.updPort p (fun r => { r with cableSense := true })) := h.updPort (fun hb => hb)
  unfold Machine.senseShown
  dsimp only
  split
  · exact h1.enterTraining
  · exact h1

theorem Keeps.senseGone {p : PortId} (h : Keeps u s) : Keeps u (senseGone p s) := by
  have hstays : Keeps u (s.updPort p (fun r => { r with cableSense := false })) := h.updPort (fun hb => hb)
  unfold Machine.senseGone
  dsimp only
  split
  · exact hstays
  · split
    · exact h.enterAbsent
    · exact hstays
  · exact h.enterAbsent

theorem Keeps.lockGained {p : PortId} (h : Keeps u s) : Keeps u (lockGained p s) := by
  unfold Machine.lockGained
  dsimp only
  split
  · exact Keeps.sendHello (h.setPort (fun hb => hb))
  · exact h

theorem Keeps.fallToBase {p : PortId} (h : Keeps u s) : Keeps u (s.updPort p fallToBase) :=
  h.updPort (fun hb => by unfold Machine.fallToBase; split <;> exact hb)

theorem Keeps.helloTick {p : PortId} (h : Keeps u s) : Keeps u (helloTick p s) := by
  unfold Machine.helloTick
  dsimp only
  split
  · exact Keeps.sendHello (h.setPort (fun hb => hb))
  · exact h

theorem Keeps.pairingLapses {p : PortId} (h : Keeps u s) : Keeps u (pairingLapses p s) := by
  unfold Machine.pairingLapses
  split
  · exact h.enterTraining
  · exact h

theorem Keeps.echoTick {p : PortId} (h : Keeps u s) : Keeps u (echoTick p s) := by
  unfold Machine.echoTick
  split
  · split
    · exact h.offerEcho
    · exact h
  · exact h

theorem Keeps.silenceOver {p : PortId} (h : Keeps u s) : Keeps u (silenceOver p s) := by
  unfold Machine.silenceOver
  dsimp only
  split
  · exact h.leaveLoopback
  · exact h

/-! ## Rack time -/

theorem Keeps.ageOutSeen (h : Keeps u s) : Keeps u (ageOutSeen s) := by
  unfold Machine.ageOutSeen
  split
  · exact h.updTrig
  · exact h.ageSeen

theorem loseMarks_reference (r : Rtu) : (loseMarks r).1.state = .reference ↔ r.state = .reference := by
  unfold loseMarks
  split
  · exact referenceLost_reference r
  · exact Iff.rfl

theorem Keeps.streamArrives {p : PortId} {x : StreamParcel} (h : Keeps u s) : Keeps u (streamArrives p x s) := by
  unfold Machine.streamArrives
  split
  · exact h.badParcel.finish
  · exact h.receiveStream

theorem Keeps.queueTake {p : PortId} {q : TxClass} (h : Keeps u s) : Keeps u (queueTake p q s) := by
  cases q
  · exact h.takeRequestRoom
  · exact h.takeCompletionRoom

/-! ## Every command, and every cycle -/

theorem Keeps.powerOn {root : Bool} {mgr : Nat} : Keeps s (powerOn root mgr s) where
  bounded p _ := by cases p <;> exact bounded_of_fresh _
  root _ := by
    cases root
    · exact ⟨fun hr => (nomatch hr), fun _ hr => (nomatch hr)⟩
    · exact ⟨fun _ => ⟨rfl, rfl, rfl, rfl⟩, fun hr => nomatch hr⟩
  lanes i _ := by
    have hslot : (Machine.powerOn root mgr s).slot i = if i ∈ List.range 16 then powerOnSlot (s.slot i) else {} :=
      tgetD_foldl_tset ({} : Slot) (fun i => powerOnSlot (s.slot i)) (List.range 16) [] i
    rw [hslot]
    split
    · exact laneHeld_default
    · exact laneHeld_default

theorem controllerCommand_ok_release {v : State}
    (h : (if (controllerCommand 1 v).1 = .ok then Post.release else .none) = .release) :
    (controllerCommand 1 v).2.topo.root = false := by
  cases hr : v.topo.root <;> simp_all [controllerCommand]

/-- Every command keeps the three. -/
theorem exec_keeps {c : Instr} (h : exec c s = .next t) : Keeps s t := by
  have hr := Keeps.refl s
  cases c
  all_goals obtain rfl := Host.Outcome.next.inj h
  case powerOnReset => exact .powerOn
  case controllerReset =>
    refine Keeps.finish (Keeps.managerCommand (fun v => (Keeps.refl v).controllerCommand) (fun v hp => ?_))
    split at hp <;> cases hp
  case releaseNumber =>
    exact Keeps.finish (Keeps.managerCommand (fun v => (Keeps.refl v).controllerCommand) (fun v hp => controllerCommand_ok_release hp))
  case assign => exact hr.receiveRequest.finish
  case cableSensePresent => exact hr.senseShown
  case cableSenseLost => exact hr.senseGone.finish
  case symbolLock => exact hr.lockGained
  case peerTrainingAtBase => exact hr.fallToBase
  case symbolLockLost => exact hr.symbolLockLoss.finish
  case helloTimer => exact hr.helloTick
  case pairingTimeout => exact hr.pairingLapses
  case helloReceived => exact hr.acceptHello.finish
  case echoReceived => exact hr.acceptEcho
  case echoSpacing => exact hr.echoTick
  case echoReplyReceived => exact hr.receiveEchoReply
  case loopbackParcelReturned => exact hr.loopbackReturn
  case burstEnd => exact hr.endBurst
  case burstSchedule => exact hr.scheduleBurst
  case startBurst => exact .managed (fun v => (Keeps.refl v).portCommand)
  case retrain => exact Keeps.finish (.managed (fun v => (Keeps.refl v).portCommand))
  case loopbackNear => exact Keeps.finish (.managed (fun v => (Keeps.refl v).portCommand))
  case loopbackFar => exact .managed (fun v => (Keeps.refl v).portCommand)
  case loopbackOff => exact .managed (fun v => (Keeps.refl v).portCommand)
  case loopbackSilenceEnd => exact hr.silenceOver
  case rateRequestWrite => exact .managed (fun v => (Keeps.refl v).writeRate)
  case creditReceived => exact hr.receiveCredit
  case parcelTransmit => exact hr.transmit.finish
  case epochBoundary => exact hr.epochBoundary.finish
  case seenListAgeOut => exact hr.ageOutSeen
  case rootwardStale => exact hr.dropStaleRootward
  case markGapLoss => exact hr.applyRtu (loseMarks_reference _)
  case holdoverLimit => exact hr.applyRtu (holdoverOver_reference _)
  case retrainHistoryAgeOut => exact hr.updPort (fun hb => hb)
  case slewEnd => exact hr.withRtu Iff.rfl
  case markReceived => exact hr.byState hr.acceptMark
  case announceReceived => exact hr.byState hr.acceptAnnounce
  case rootTrimWrite => exact .managed (fun v => (Keeps.refl v).writeRootTrim)
  case rackTimeLoad => exact .managed (fun v => (Keeps.refl v).writeLoad)
  case timebaseSettingsWrite => exact .managed (fun v => (Keeps.refl v).writeTimebase)
  case triggerMapWrite => exact .managed (fun v => (Keeps.refl v).writeTriggerEntry)
  case triggerEdge => exact hr.edgeFromSlot
  case triggerReceived => exact hr.byState hr.acceptTrigger
  case triggerFire => exact hr.fireHead
  case routeTableWrite => exact .managed (fun v => (Keeps.refl v).writeEach (fun _ _ w => (Keeps.refl w).writeRoute))
  case routeGuardWrite => exact .managed (fun v => (Keeps.refl v).writeRouteGuard)
  case sampleBurst => exact hr.fromModule hr.burstArrives
  case streamParcelReceived => exact hr.streamArrives
  case bindingWrite => exact .managed (fun v => (Keeps.refl v).writeEach (fun _ _ w => (Keeps.refl w).writeBinding))
  case sectionSegmentSend => exact hr.sendSegment
  case presenceAssert => exact hr.presenceShown
  case debounceExpiry => exact hr.debounceDone
  case presenceLost => exact hr.presenceGone.finish
  case powerGood => exact hr.powerShown
  case powerGoodLost => exact hr.powerGone.finish
  case powerTimeout => exact hr.powerExpired
  case laneAdvertisement => exact hr.laneAdvertised.finish
  case laneLost => exact hr.laneGone.finish
  case laneCreditReturn => exact hr.fromModule hr.creditsReturned
  case undefinedLaneMessage => exact hr.receiveLaneBytes.finish
  case handleOpen => exact hr.handleOpens.finish
  case handleClose => exact hr.handleCloses
  case drainLimit => exact hr.drainExpired.finish
  case slotSettingsWrite => exact Keeps.finish (.managed (fun v => (Keeps.refl v).writeSlotSettings))
  case admitSlot => exact .managed (fun v => (Keeps.refl v).slotCommand)
  case eject => exact Keeps.finish (.managed (fun v => (Keeps.refl v).slotCommand))
  case park => exact Keeps.finish (.managed (fun v => (Keeps.refl v).slotCommand))
  case unpark => exact .managed (fun v => (Keeps.refl v).slotCommand)
  case clear => exact .managed (fun v => (Keeps.refl v).slotCommand)
  case slotReset => exact Keeps.finish (.managed (fun v => (Keeps.refl v).slotCommand))
  case slotRequestTaken => exact hr.slotRequest.finish
  case requestReceived => exact hr.receiveRequest.finish
  case transactionQueueTake => exact hr.queueTake.finish
  case completionReceived => exact hr.receiveCompletion.finish
  case transactionDeadline => exact hr.entryExpires.finish
  case backoffEnd => exact hr.backoffOver.finish
  case completionLaneSend => exact Keeps.finish (getD_of_forall (P := Keeps s) (fun _ ht => hr.commitCompletion ht) hr)
  case inboundSend => exact getD_of_forall (P := Keeps s) (fun _ ht => hr.commitInbound ht) hr
  case moduleReply => exact (hr.fromModule hr.replyArrives).finish
  case responseDeadline => exact hr.responseExpires.finish
  case lockExpiry => exact hr.lockExpires.finish
  case transactionSettingsWrite => exact .managed (fun v => (Keeps.refl v).writeTransSettings)
  case windowWrite => exact .managed (fun v => (Keeps.refl v).writeEach (fun _ _ w => (Keeps.refl w).writeWindow))
  case windowGuardWrite => exact .managed (fun v => (Keeps.refl v).writeWindowGuard)
  case channelSetupWrite => exact .managed (fun v => (Keeps.refl v).writeChannel)
  case start => exact .managed (fun v => (Keeps.refl v).channelCommand)
  case pause => exact .managed (fun v => (Keeps.refl v).channelCommand)
  case resume => exact .managed (fun v => (Keeps.refl v).channelCommand)
  case abort => exact .managed (fun v => (Keeps.refl v).channelCommand)
  case chunkReadStart => exact hr.startRead.finish
  case chunkWriteStart => exact hr.startWrite.finish
  case attentionEdge => exact hr.attentionRaised
  case noticeIssue => exact hr.issueNotice.finish
  case eventSummaryClear => exact .managed (fun v => (Keeps.refl v).writeClear)
  case noticeEnableWrite => exact .managed (fun v => (Keeps.refl v).writeNotice)
  case attentionRemovalWrite => exact .managed (fun v => (Keeps.refl v).writeRemoval)
  case managerWrite => exact .managed (fun v => (Keeps.refl v).writeManager)
  case controllerWrite => exact Keeps.spaceWrite.finish
  case badParcelArrival => exact hr.receiveBytes.finish

/-- R124: what a lane has sent leaves it. -/
theorem Keeps.drainLane {i : Nat} (h : Keeps u s) : Keeps u (drainLane s i) := by
  unfold Machine.drainLane
  split
  · exact h
  · next hm =>
    split
    · refine h.updSlot (fun hl => ?_)
      obtain ⟨hstate, havail, hadv, hnone⟩ := hl
      exact ⟨hstate, havail, hadv, fun hne => absurd ((hnone hne).2.symm.trans hm) (by simp)⟩
    · exact h

theorem tick_keeps (s : State) : Keeps s (tick s) := by
  have h0 : Keeps s { s with localTime := s.localTime + 1, rtu := s.rtu.cycle, sideband := [] } :=
    (Keeps.refl s).of_eq rfl rfl rfl .rfl rfl
  have hadv : Keeps s (advance s) := h0.foldl (List.range 16) (fun u _ => (Keeps.refl u).drainLane)
  unfold tick
  generalize advance s = v at hadv ⊢
  exact hadv.of_eq rfl rfl rfl .rfl rfl

/-- Every step keeps the three. -/
theorem step_keeps (h : step s = .next t) : Keeps s t := by
  rcases step_cases h with ⟨c, rest, -, hc⟩ | ⟨-, rfl⟩
  · have h0 : Keeps s { s with pending := rest } := (Keeps.refl s).of_eq rfl rfl rfl .rfl rfl
    exact h0.trans (exec_keeps hc)
  · exact tick_keeps s

/-- Settles O7. -/
theorem stepsKeepPortBounds : Obligations.StepsKeepPortBounds := fun _ _ hs h =>
  ⟨(step_keeps h).bounded .p0 hs.1, (step_keeps h).bounded .p1 hs.2⟩

/-- Settles O8. -/
theorem stepsKeepTheRoot : Obligations.StepsKeepTheRoot := fun _ _ hs h => (step_keeps h).root hs

/-- Settles O9. -/
theorem stepsKeepLanesWithSlots : Obligations.StepsKeepLanesWithSlots := fun _ _ hs h i => (step_keeps h).lanes i (hs i)

end Sys2Proof.Machine
end

section
/-! SUPPORT. Ports: what an entry to a state, a HELLO and an offer do to a port's record, and the statements about
training, pairing, retrains, credits and the rate. -/

namespace Sys2Proof.Machine

variable {s : State} {p : PortId}

/-! ## Leaving a state (R2 to R6, R22, R23) -/

/-- R3: what leaving a state does to the port's record, by the state left. -/
theorem Port.leave_linked {r : Port} (h : r.state.linked = true) : r.leave = r.tornDown := by
  simp [Port.leave, Port.tornDown, Port.released, Port.teardown, Port.queuedParcels, h]

theorem Port.leave_idle {r : Port} (h : r.state = .absent ∨ r.state = .training) : r.leave = r.released := by
  rcases h with h | h <;> simp [Port.leave, Port.released, PortState.linked, h]

theorem Port.leave_loopback {r : Port} (h : r.state = .loopback) :
    r.leave = { r.released with burst := none, qTiming := [], looped := [] } := by
  simp [Port.leave, Port.released, PortState.linked, h]

theorem linked_iff {x : PortState} : x.linked = true ↔ x = .pairing ∨ x = .measure ∨ x = .up := by
  cases x <;> simp [PortState.linked]

/-- R3: an entry to another state is a leaving of the present one with the new record. -/
theorem enterTraining_eq (p : PortId) (s : State) : enterTraining p s = s.leaving p { (s.port p).leave with
    state := .training
    trainRate := if (s.port p).leave.rateRequest = .fast ∧ (s.port p).leave.peerFast = true then .fast else .base } := rfl

theorem enterAbsent_eq (p : PortId) (s : State) : enterAbsent p s = s.leaving p { (s.port p).leave with
    state := .absent, cableSense := false, peerFast := false, retrainHistory := [] } := rfl

theorem enterLoopback_eq (p : PortId) (f : LoopForm) (s : State) : enterLoopback p f s =
    s.leaving p { (s.port p).leave with state := .loopback, loopForm := f } := rfl

/-- R4: the training rate of a record that keeps Rate Request and Peer FAST Capability. -/
theorem Port.newTrainRate_leave (r : Port) :
    (if r.leave.rateRequest = .fast ∧ r.leave.peerFast = true then Rate.fast else .base) = r.newTrainRate := by
  have hrate : r.leave.rateRequest = r.rateRequest := by unfold Port.leave; dsimp only; split_ifs <;> rfl
  have hfast : r.leave.peerFast = r.peerFast := by unfold Port.leave; dsimp only; split_ifs <;> rfl
  rw [hrate, hfast, Port.newTrainRate]

theorem enterTraining_linked (h : (s.port p).state.linked = true) : enterTraining p s = s.leaving p { (s.port p).tornDown with
    state := .training, trainRate := (s.port p).newTrainRate } := by
  rw [enterTraining_eq, Port.newTrainRate_leave, Port.leave_linked h]

theorem enterAbsent_linked (h : (s.port p).state.linked = true) : enterAbsent p s = s.leaving p { (s.port p).tornDown with
    state := .absent, cableSense := false, peerFast := false, retrainHistory := [] } := by
  rw [enterAbsent_eq, Port.leave_linked h]

theorem enterLoopback_linked {f : LoopForm} (h : (s.port p).state.linked = true) : enterLoopback p f s =
    s.leaving p { (s.port p).tornDown with state := .loopback, loopForm := f } := by
  rw [enterLoopback_eq, Port.leave_linked h]

/-- R3: away from UP a port leaves its state without a link-down event. -/
theorem leaving_of_not_up {r : Port} (h : (s.port p).state ≠ .up) : s.leaving p r = s.setPort p r := if_neg h

/-- R3: a record written just before the port leaves its state is replaced. -/
theorem leaving_setPort {r r' : Port} (h : r.state = (s.port p).state) : (s.setPort p r).leaving p r' = s.leaving p r' := by
  unfold State.leaving
  rw [State.port_setPort_same, h, State.setPort_setPort]

theorem enterTraining_setPort {r : Port} (h : r.state.linked = true) (hs : r.state = (s.port p).state) :
    enterTraining p (s.setPort p r) = s.leaving p { r.tornDown with state := .training, trainRate := r.newTrainRate } := by
  rw [enterTraining_linked (by rwa [State.port_setPort_same]), leaving_setPort hs, State.port_setPort_same]

theorem enterLoopback_setPort {r : Port} {f : LoopForm} (h : r.state.linked = true) (hs : r.state = (s.port p).state) :
    enterLoopback p f (s.setPort p r) = s.leaving p { r.tornDown with state := .loopback, loopForm := f } := by
  rw [enterLoopback_linked (by rwa [State.port_setPort_same]), leaving_setPort hs, State.port_setPort_same]

theorem enterTraining_idle {r : Port} (h : r.state = .absent ∨ r.state = .training) (hs : r.state = (s.port p).state) :
    enterTraining p (s.setPort p r) = s.setPort p { r.released with state := .training, trainRate := r.newTrainRate } := by
  have hnotup : (s.port p).state ≠ .up := by rw [← hs]; rcases h with h | h <;> rw [h] <;> exact fun hx => nomatch hx
  rw [enterTraining_eq, leaving_setPort hs, leaving_of_not_up hnotup, State.port_setPort_same, Port.newTrainRate_leave,
    Port.leave_idle h]

/-! ## HELLOs (R16, R25) -/

theorem replaceHello_of_mem (h x : Hello) (a b : List LinkItem) (ha : ∀ i ∈ a, ∀ y, i ≠ .hello y) :
    replaceHello h (a ++ .hello x :: b) = a ++ .hello h :: b := by
  induction a with
  | nil => rfl
  | cons i a ih =>
    have htail := ih (fun j hj => ha j (List.mem_cons_of_mem i hj))
    cases i with
    | hello y => exact absurd rfl (ha (.hello y) List.mem_cons_self y)
    | announce y => exact congrArg _ htail
    | credit => exact congrArg _ htail

theorem helloWaits_iff {r : Port} : r.helloWaits = true ↔ ∃ x, LinkItem.hello x ∈ r.qLink := by
  unfold Port.helloWaits
  rw [List.any_eq_true]
  constructor
  · rintro ⟨i, hi, hm⟩
    cases i with
    | hello x => exact ⟨x, hi⟩
    | announce y => cases hm
    | credit => cases hm
  · rintro ⟨x, hx⟩
    exact ⟨_, hx, rfl⟩

theorem helloWaits_of_none {r : Port} (h : ∀ i ∈ r.qLink, ∀ x, i ≠ .hello x) : r.helloWaits = false := by
  by_contra hw
  obtain ⟨x, hx⟩ := helloWaits_iff.mp (Bool.eq_true_of_not_eq_false hw)
  exact h _ hx x rfl

/-- R16: a HELLO is queued behind what waits, where no other waits and there is room. -/
theorem sendHello_append (hstate : (s.port p).state.linked = true) (hnone : ∀ i ∈ (s.port p).qLink, ∀ x, i ≠ .hello x)
    (hroom : (s.port p).qLink.length < 32) :
    sendHello s p = s.setPort p { s.port p with qLink := (s.port p).qLink ++ [.hello (s.buildHello p)] } := by
  have hlinked := linked_iff.mp hstate
  simp [sendHello, State.updPort, hlinked, helloWaits_of_none hnone, hroom]

/-- R16: a HELLO takes the place of the one that waits. -/
theorem sendHello_replace {a b : List LinkItem} {x : Hello} (hstate : (s.port p).state.linked = true)
    (hq : (s.port p).qLink = a ++ .hello x :: b) (hnone : ∀ i ∈ a, ∀ y, i ≠ .hello y) :
    sendHello s p = s.setPort p { s.port p with qLink := a ++ .hello (s.buildHello p) :: b } := by
  have hlinked := linked_iff.mp hstate
  have hwaits : (s.port p).helloWaits = true := helloWaits_iff.mpr ⟨x, by simp [hq]⟩
  have hput := replaceHello_of_mem (s.buildHello p) x a b hnone
  rw [← hq] at hput
  simp [sendHello, State.updPort, hlinked, hwaits, hput]

/-- R25: the fields of a HELLO, of which a port's own record gives two. -/
theorem buildHello_setPort {r : Port} : (s.setPort p r).buildHello p =
    { uid := s.unitId, frame := s.topo.frameNumber.getD 63
      hops := if s.topo.root = true then 0
        else ((s.topo.rootward.bind s.topo.mark).map (fun m => m.hops + 1)).getD 255
      root := s.topo.root, rootward := decide (s.topo.rootward = some p), fast := decide (r.rateRequest = .fast)
      loopRequest := r.loopPending, limStream := 64, limRequest := 8, limCompletion := 8 } := by
  simp only [State.buildHello, State.setPort_unitId, State.setPort_topo, State.port_setPort_same, State.frameCode,
    beq_eq_decide, unnumberedCode]
  cases s.topo.rootward with
  | none => rfl
  | some q =>
    cases hm : s.topo.mark q with
    | none => simp [hm]
    | some m => simp [hm]

/-! ## Training, pairing and leaving (O12 to O14) -/

/-- Settles O12. -/
theorem trainingAndPairing : Obligations.TrainingAndPairing := by
  intro p s
  refine ⟨fun h => ?sense, fun h => ?lock, fun h => ?base, fun h => ?timeout⟩
  case sense =>
    show Host.Outcome.next (senseShown p s) = _
    simp only [senseShown, if_pos h, State.updPort_eq]
    exact congrArg _ (enterTraining_idle (r := { s.port p with cableSense := true }) (.inl h) rfl)
  case lock =>
    show Host.Outcome.next (lockGained p s) = _
    simp only [lockGained, if_pos h]
    rfl
  case base =>
    show Host.Outcome.next (s.updPort p fallToBase) = _
    simp only [State.updPort_eq, fallToBase, if_pos h]
  case timeout =>
    show Host.Outcome.next (pairingLapses p s) = _
    simp only [pairingLapses, if_pos h]
    rw [enterTraining_linked (linked_iff.mpr (.inl h)), leaving_of_not_up (by rw [h]; exact fun hx => nomatch hx)]

/-- Settles O13. -/
theorem helloTimerSendsCurrentValues : Obligations.HelloTimerSendsCurrentValues := by
  intro p s
  dsimp only
  intro hstate
  have hlinked : (s.port p).state.linked = true := linked_iff.mpr (hstate.imp_right .inl)
  have htick : ∀ t, sendHello (s.setPort p { s.port p with helloAt := s.localTime + 125000 }) p = t →
      exec (.helloTimer p) s = .next t := fun t ht => by
    show Host.Outcome.next (helloTick p s) = _
    simp only [helloTick, if_pos hstate]
    exact congrArg _ ht
  refine ⟨fun ⟨hnone, hroom⟩ => htick _ ?_, fun a x b ⟨hq, hnone⟩ => htick _ ?_⟩
  · rw [sendHello_append (by simpa using hlinked) (by simpa using hnone) (by simpa using hroom), buildHello_setPort,
      State.setPort_setPort, State.port_setPort_same]
  · rw [sendHello_replace (by simpa using hlinked) (by rw [State.port_setPort_same]; exact hq) hnone, buildHello_setPort,
      State.setPort_setPort, State.port_setPort_same]

/-! ## Retrains (O14, O21) -/

/-- R19: the loss of symbol lock in a linked port counts a retrain and trains the port anew. -/
theorem symbolLockLoss_linked (h : (s.port p).state.linked = true) :
    symbolLockLoss p s = enterTraining p (countRetrain p (bumpRetrains p s)) := by
  simp [symbolLockLoss, h]

/-- R19, R21: a retrain is counted at FAST alone. -/
theorem countRetrain_base (h : (s.port p).rate ≠ .fast) : countRetrain p s = s := by simp [countRetrain, h]

/-- Settles O14. -/
theorem leavingTearsTheLinkDown : Obligations.LeavingTearsTheLinkDown := by
  intro p s r
  refine ⟨fun h => ?sense, fun ⟨h, hbase⟩ => ?lock, fun ⟨h, hnear⟩ => ?near⟩
  case sense =>
    have hnotup : r.state ≠ .up := by rcases h with h | h <;> rw [h] <;> exact fun hx => nomatch hx
    have hgone : senseGone p s = enterAbsent p s := by
      unfold senseGone
      have hstate : (s.port p).state = .pairing ∨ (s.port p).state = .measure := h
      rcases hstate with h | h <;> simp only [h]
    show Host.Outcome.next (finish (senseGone p s)) = _
    rw [hgone, enterAbsent_linked (linked_iff.mpr (h.imp_right .inl)), leaving_of_not_up hnotup]
  case lock =>
    have hl : r.state.linked = true := linked_iff.mpr h
    have hslow : ((bumpRetrains p s).port p).rate ≠ .fast := by
      rw [bumpRetrains, State.countPort, State.port_updPort_same]
      exact fun hx => nomatch hbase.symm.trans hx
    show Host.Outcome.next (finish (symbolLockLoss p s)) = _
    rw [symbolLockLoss_linked hl, countRetrain_base hslow]
    exact congrArg (fun t => Host.Outcome.next (finish t)) (enterTraining_setPort (r := { r with
      counters := { r.counters with retrains := bump r.counters.retrains } }) hl rfl)
  case near =>
    show Host.Outcome.next (finish (senseGone p s)) = _
    have hgone : senseGone p s = s.updPort p (fun r => { r with cableSense := false }) := by
      simp [senseGone, show (s.port p).state = _ from h, show (s.port p).loopForm = _ from hnear]
    rw [hgone, State.updPort_eq]

/-- R21: the two ways in which a retrain at FAST counts. -/
theorem countRetrain_third (hfast : (s.port p).rate = .fast) (hlen : (s.port p).retrainHistory.length = 2) :
    countRetrain p s = raise .rateFallback (s.setPort p { s.port p with rateRequest := .base, retrainHistory := [] }) := by
  simp [countRetrain, hfast, hlen]

theorem countRetrain_earlier (hfast : (s.port p).rate = .fast) (hlen : (s.port p).retrainHistory.length < 2) :
    countRetrain p s = s.setPort p { s.port p with retrainHistory := (s.port p).retrainHistory ++ [0] } := by
  have : ¬ 3 ≤ (s.port p).retrainHistory.length + 1 := by omega
  simp [countRetrain, hfast, this]

/-- Settles O21. -/
theorem fallbackAfterThreeRetrains : Obligations.FallbackAfterThreeRetrains := by
  intro p s r linked
  have hport : (bumpRetrains p s).port p = { r with counters := { r.counters with retrains := bump r.counters.retrains } } := by
    rw [bumpRetrains, State.countPort, State.port_updPort_same]
  have hset : ∀ x, (bumpRetrains p s).setPort p x = s.setPort p x := fun x => State.setPort_setPort _ _ _ _
  refine ⟨fun ⟨hl, hfast, hlen⟩ => ?third, fun ⟨hl, hfast, hlen⟩ => ?earlier, ?ages⟩
  case third =>
    have hl : r.state.linked = true := linked_iff.mpr hl
    show Host.Outcome.next (finish (symbolLockLoss p s)) = _
    rw [symbolLockLoss_linked hl, countRetrain_third (by rw [hport]; exact hfast) (by rw [hport]; exact hlen), hset, hport,
      raise_setPort]
    exact congrArg (fun t => Host.Outcome.next (finish t)) (enterTraining_setPort hl (by cases p <;> rfl))
  case earlier =>
    have hl : r.state.linked = true := linked_iff.mpr hl
    show Host.Outcome.next (finish (symbolLockLoss p s)) = _
    rw [symbolLockLoss_linked hl, countRetrain_earlier (by rw [hport]; exact hfast) (by rw [hport]; exact hlen), hset, hport]
    exact congrArg (fun t => Host.Outcome.next (finish t)) (enterTraining_setPort hl rfl)
  case ages =>
    refine ⟨s.setPort p { r with retrainHistory := dropOld r.retrainHistory }, rfl, ?_, ?_, fun a ha => ?_⟩
    · rw [State.port_setPort_same]
      exact fun a ha => by simpa using (List.mem_filter.mp ha).2
    · rw [State.port_setPort_same]
    · rw [State.port_setPort_same]
      exact List.count_filter (by simpa using ha)

/-! ## Credits (O22) -/

/-- Settles O22. -/
theorem creditsAreClamped : Obligations.CreditsAreClamped := by
  intro p a b c s q
  dsimp only
  intro hstate hpeer
  have hexec : exec (.creditReceived p a b c) s = .next (acceptCredit p a b c s) := by
    show Host.Outcome.next (receiveCredit p a b c s) = _
    rcases hstate with h | h
    · simp only [receiveCredit, if_pos h]
    · have hne : (s.port p).state ≠ .measure := by rw [h]; exact fun hx => nomatch hx
      rw [receiveCredit, if_neg hne, byState_up _ _ _ _ _ h]
  have hlimits : (s.port p).limit .stream = q.limStream ∧ (s.port p).limit .request = q.limRequest ∧
      (s.port p).limit .completion = q.limCompletion := by
    unfold Port.limit
    rw [hpeer]
    exact ⟨rfl, rfl, rfl⟩
  obtain ⟨hs, hr, hc⟩ := hlimits
  have hport : (acceptCredit p a b c s).port p = { s.port p with
      txCredits := ⟨min ((s.port p).txCredits.stream + a) q.limStream, min ((s.port p).txCredits.request + b) q.limRequest,
        min ((s.port p).txCredits.completion + c) q.limCompletion⟩
      counters := { (s.port p).counters with
        creditExcess := bumpBy (((s.port p).txCredits.stream + a - q.limStream)
            + ((s.port p).txCredits.request + b - q.limRequest) + ((s.port p).txCredits.completion + c - q.limCompletion))
          (s.port p).counters.creditExcess } } := by
    rw [acceptCredit, State.port_updPort_same, creditSum, creditSum, creditSum, hs, hr, hc]
  refine ⟨_, hexec, ?_, ?_⟩
  · rw [hport, acceptCredit, State.updPort_eq, creditSum, creditSum, creditSum, hs, hr, hc]
  · rw [hport]
    exact ⟨rfl, rfl, rfl, rfl⟩

end Sys2Proof.Machine
end

section
/-! SUPPORT. Ports under command: how a Manager's write of a port is answered, and the statements about the port
commands, Rate Request and the echo exchange. -/

namespace Sys2Proof.Machine

variable {s : State} {p : PortId}

/-! ## What a write of a port answers (R151, R175) -/

@[simp] theorem port_wrote (s : State) (p : PortId) : s.wrote.port p = s.port p := by cases p <;> rfl

/-- R151: a completion's way does not depend on Writes. -/
@[simp] theorem accepts_wrote (s : State) (f : Nat) : s.wrote.accepts f = s.accepts f := rfl

/-- R151: nor on a port's record, as long as the port stays in UP, or out of it, with the completions it had. -/
theorem accepts_setPort {r : Port} (hup : r.state = .up ↔ (s.port p).state = .up)
    (hq : r.qCompletion = (s.port p).qCompletion) (f : Nat) : (s.setPort p r).accepts f = s.accepts f := by
  refine accepts_congr f ?_ (fun q => ?_) (fun q => ?_)
  · rw [State.routeTo, State.routeTo, State.setPort_topo]
  · rw [State.isUp, State.isUp, State.port_setPort]
    split
    · next he => subst he; rw [beq_eq_decide, beq_eq_decide]; exact decide_eq_decide.mpr hup
    · rfl
  · rw [State.port_setPort]
    split
    · next he => subst he; rw [hq]
    · rfl

/-- R16, R25: what sending a HELLO touches of a port's record. -/
theorem sendHello_frame (s : State) (p : PortId) : ∃ q l t k, sendHello s p = s.setPort p { s.port p with
    qLink := q, loopPending := l, retrainPending := t, counters := k } := by
  unfold sendHello State.updPort
  dsimp only
  split
  · split
    · exact ⟨_, _, _, _, rfl⟩
    · split
      · exact ⟨_, _, _, _, rfl⟩
      · exact ⟨_, _, _, _, rfl⟩
  · exact ⟨_, _, _, _, rfl⟩

theorem accepts_sendHello (f : Nat) : (sendHello s p).accepts f = s.accepts f := by
  obtain ⟨q, l, t, k, h⟩ := sendHello_frame s p
  rw [h]
  refine accepts_setPort ?_ ?_ f
  · exact Iff.rfl
  · rfl

/-- R161, R175: a Manager's write of one command, answered. -/
theorem answered_of_accepts {who : Requester} {op : State → Status × State} {i : Instr} {s1 : State} {st : Status}
    (hi : exec i s = .next (managed who op s)) (ho : s.obeys who = true) (hop : op s.wrote = (st, s1))
    (ha : s1.accepts who.frame = true) : ∃ t, exec i s = .next t ∧ Answered who st s1 t :=
  ⟨_, hi, managed_of_accepts ho hop ha⟩

theorem finished_of_accepts {who : Requester} {op : State → Status × State} {i : Instr} {s1 : State} {st : Status}
    (hi : exec i s = .next (finish (managed who op s))) (ho : s.obeys who = true) (hop : op s.wrote = (st, s1))
    (ha : s1.accepts who.frame = true) : ∃ t, exec i s = .next (finish t) ∧ Answered who st s1 t :=
  ⟨_, hi, managed_of_accepts ho hop ha⟩

/-! ## Rate Request (R20) -/

/-- Settles O25. -/
theorem rateRequestIsWritten : Obligations.RateRequestIsWritten := by
  intro p who s ho ha
  dsimp only
  have hwrite : ∀ {v st s1}, writeRate p v s.wrote = (st, s1) → s1.accepts who.frame = true →
      ∃ t, exec (.rateRequestWrite who p v) s = .next t ∧ Answered who st s1 t :=
    fun hop hacc => answered_of_accepts rfl ho hop hacc
  have hchanged : ∀ r : Port, r.state = (s.port p).state → r.qCompletion = (s.port p).qCompletion →
      (sendHello (s.wrote.setPort p r) p).accepts who.frame = true := fun r hstate hq => by
    rw [accepts_sendHello, accepts_setPort (by rw [port_wrote, hstate]) (by rw [port_wrote, hq]), accepts_wrote, ha]
  refine ⟨hwrite ?same ha, fun h => hwrite ?fast (hchanged _ rfl rfl), fun h => hwrite ?base (hchanged _ rfl rfl),
    fun v hv => hwrite ?refused ha⟩
  case same => cases h : (s.port p).rateRequest <;> simp [writeRate, h]
  case fast =>
    have hpending : ((s.port p).state == .up && (s.port p).rate != .fast && (Rate.fast == .base || (s.port p).peerFast)) =
        decide ((s.port p).state = .up ∧ (s.port p).rate = .base ∧ (s.port p).peerFast = true) := by
      cases (s.port p).rate <;> cases (s.port p).peerFast <;> simp [beq_eq_decide]
    simp only [writeRate, port_wrote, h, changeRate, hpending]
    rfl
  case base =>
    have hpending : ((s.port p).state == .up && (s.port p).rate != .base && (Rate.base == .base || (s.port p).peerFast)) =
        decide ((s.port p).state = .up ∧ (s.port p).rate = .fast) := by
      cases (s.port p).rate <;> simp [beq_eq_decide]
    simp only [writeRate, port_wrote, h, changeRate, hpending]
    rfl
  case refused =>
    unfold writeRate
    split
    · omega
    · omega
    · rfl

/-! ## Bursts (R10, R11) -/

/-- R10: the next echo of a burst is offered to a timing queue that has room. -/
theorem offerEcho_eq {b : Burst} (hb : (s.port p).burst = some b) (hroom : (s.port p).qTiming.length < 8) :
    offerEcho p s = s.setPort p ((s.port p).offeredEcho b.echoes s.localTime) := by
  simp only [offerEcho, State.updPort_eq, hb, Port.offerTiming, if_pos hroom]
  rfl

/-- R10: a burst starts with its first echo. -/
theorem beginBurst_eq (hroom : (s.port p).qTiming.length < 8) :
    beginBurst p s = s.setPort p ((s.port p).offeredEcho [] s.localTime) := by
  rw [beginBurst, State.updPort_eq, offerEcho_eq (b := ⟨[], s.localTime⟩) (by rw [State.port_setPort_same])
    (by rwa [State.port_setPort_same]), State.port_setPort_same, State.setPort_setPort, State.setPort_localTime]
  rfl

theorem inLoop_iff {r : Port} : r.inLoop = true ↔ r.state = .loopback ∧ (r.loopForm = .near ∨ r.loopForm = .far) := by
  simp [Port.inLoop]

/-! ## The port commands (R11, R19, R22, R23) -/

/-- R22, R23: the record with which a port leaves LOOPBACK. -/
theorem leaveLoopback_eq (h : (s.port p).state = .loopback) :
    leaveLoopback p s = s.setPort p (if (s.port p).cableSense = true then
      { { (s.port p).released with burst := none, qTiming := [], looped := [] } with
        state := .training, trainRate := (s.port p).newTrainRate }
    else { { (s.port p).released with burst := none, qTiming := [], looped := [] } with state := .absent }) := by
  have hnotup : (s.port p).state ≠ .up := by rw [h]; exact fun hx => nomatch hx
  unfold leaveLoopback
  split
  · rw [enterTraining_eq, leaving_of_not_up hnotup, Port.newTrainRate_leave, Port.leave_loopback h]
  · show s.leaving p { (s.port p).leave with state := .absent } = _
    rw [leaving_of_not_up hnotup, Port.leave_loopback h]

/-- R22: NEAR is entered from any other state. -/
theorem enterNear_eq (h : (s.port p).state ≠ .loopback) : enterLoopback p .near s = s.leaving p
    { (if (s.port p).state = .pairing ∨ (s.port p).state = .measure ∨ (s.port p).state = .up then (s.port p).tornDown
       else (s.port p).released) with state := .loopback, loopForm := .near } := by
  have hleave : (s.port p).leave = if (s.port p).state = .pairing ∨ (s.port p).state = .measure ∨ (s.port p).state = .up
      then (s.port p).tornDown else (s.port p).released := by
    split
    · next hl => exact Port.leave_linked (linked_iff.mpr hl)
    · next hl =>
      refine Port.leave_idle ?_
      cases hs : (s.port p).state <;> simp_all
  rw [enterLoopback_eq, hleave]

/-- Settles O24. -/
theorem portCommandsAct : Obligations.PortCommandsAct := by
  intro p who s ho
  dsimp only
  have hup : ∀ r : Port, r.state = (s.port p).state → r.qCompletion = (s.port p).qCompletion →
      s.accepts who.frame = true → (s.wrote.setPort p r).accepts who.frame = true := fun r hstate hq ha => by
    rw [accepts_setPort (by rw [port_wrote, hstate]) (by rw [port_wrote, hq]), accepts_wrote, ha]
  refine ⟨fun ⟨hstate, hburst, hroom, ha⟩ => answered_of_accepts rfl ho ?burst (hup _ rfl rfl ha),
    fun hnot ha => answered_of_accepts rfl ho ?noBurst ha,
    fun ⟨hl, ha⟩ => finished_of_accepts rfl ho ?retrain ha,
    fun ⟨hl, ha⟩ => finished_of_accepts rfl ho ?noRetrain ha,
    fun ⟨hne, ha⟩ => finished_of_accepts rfl ho ?near ha,
    fun ⟨he, ha⟩ => finished_of_accepts rfl ho ?noNear ha,
    fun ⟨hl, ha⟩ => answered_of_accepts rfl ho ?far ((accepts_sendHello _).trans (hup _ rfl rfl ha)),
    fun ⟨hl, ha⟩ => answered_of_accepts rfl ho ?noFar ha,
    fun ⟨hs, hform, ha⟩ => answered_of_accepts rfl ho ?off ?offAccepts,
    fun ⟨hs, hform, ha⟩ => answered_of_accepts rfl ho ?offFar (hup _ rfl rfl ha),
    fun ⟨hnot, ha⟩ => answered_of_accepts rfl ho ?noOff ha,
    fun hs => ?silence⟩
  case burst =>
    have hcan : ((s.port p).state = .up ∨ (s.port p).inLoop = true) ∧ (s.port p).burst.isNone = true :=
      ⟨hstate.imp_right inLoop_iff.mpr, by rw [hburst]; rfl⟩
    simp only [portCommand, startBurstCommand, port_wrote, if_pos hcan]
    rw [beginBurst_eq (by rwa [port_wrote]), port_wrote]
    rfl
  case noBurst =>
    have hcannot : ¬(((s.port p).state = .up ∨ (s.port p).inLoop = true) ∧ (s.port p).burst.isNone = true) := by
      rintro ⟨hstate, hnone⟩
      exact hnot.elim (fun h => h (hstate.imp_right inLoop_iff.mp)) (fun h => h (by simpa using hnone))
    simp only [portCommand, startBurstCommand, port_wrote, if_neg hcannot]
  case retrain =>
    have hl : (s.port p).state.linked = true := linked_iff.mpr hl
    simp only [portCommand, retrainCommand, port_wrote, if_pos hl, Prod.mk.injEq, true_and]
    have hcount : bumpRetrains p s.wrote = s.wrote.setPort p { s.port p with
        counters := { (s.port p).counters with retrains := bump (s.port p).counters.retrains } } := by
      rw [bumpRetrains, State.countPort, State.updPort_eq, port_wrote]
    rw [hcount]
    exact enterTraining_setPort hl (by rw [port_wrote])
  case noRetrain =>
    have hl : ¬(s.port p).state.linked = true := fun h => hl (linked_iff.mp h)
    simp only [portCommand, retrainCommand, port_wrote, if_neg hl]
  case near =>
    simp only [portCommand, nearCommand, port_wrote, if_neg hne]
    rw [enterNear_eq (by rwa [port_wrote]), port_wrote]
  case noNear => simp only [portCommand, nearCommand, port_wrote, if_pos he]
  case far =>
    have hl : (s.port p).state.linked = true := linked_iff.mpr hl
    simp only [portCommand, farCommand, port_wrote, if_pos hl, State.updPort_eq]
  case noFar =>
    have hl : ¬(s.port p).state.linked = true := fun h => hl (linked_iff.mp h)
    simp only [portCommand, farCommand, port_wrote, if_neg hl]
  case off =>
    simp only [portCommand, offCommand, port_wrote, if_pos hs]
    rcases hform with hform | ⟨hform, hsense⟩
    · rw [hform]
      dsimp only
      rw [leaveLoopback_eq (by rwa [port_wrote]), port_wrote]
    · rw [hform]
      dsimp only
      have hleft : enterTraining p s.wrote = leaveLoopback p s.wrote := by rw [leaveLoopback, port_wrote, if_pos hsense]
      rw [hleft, leaveLoopback_eq (by rwa [port_wrote]), port_wrote]
  case offAccepts =>
    rw [accepts_setPort (by rw [port_wrote, hs]; split <;> simp) (by rw [port_wrote]; split <;> rfl), accepts_wrote, ha]
  case offFar => simp only [portCommand, offCommand, port_wrote, if_pos hs, hform]; rfl
  case noOff =>
    simp only [portCommand, offCommand, port_wrote]
    split
    · next hs =>
      rcases hnot with hnot | hform
      · exact absurd hs hnot
      · rw [hform]
    · rfl
  case silence =>
    show Host.Outcome.next (silenceOver p s) = _
    simp only [silenceOver, if_pos hs]
    rw [leaveLoopback_eq hs.1]

end Sys2Proof.Machine
end

section
/-! SUPPORT. Echoes: how an echo is answered, sampled and sent, and the statements about the echo exchange and bursts. -/

namespace Sys2Proof.Machine

variable {s : State} {p : PortId}

/-! ## Answers to echoes (R10) -/

/-- R10: a reply answers the first unanswered echo of its number. -/
theorem answerEcho_of_mem {n : Nat} {x : Nat × Nat × Nat} {pre post : List Echo} {e : Echo}
    (hpre : ∀ y ∈ pre, y.number ≠ n) (hn : e.number = n) (hr : e.reply = none) :
    answerEcho n x (pre ++ e :: post) = some (pre ++ { e with reply := some x } :: post) := by
  induction pre with
  | nil => simp [answerEcho, hn, hr]
  | cons y pre ih =>
    have hy : y.number ≠ n := hpre y List.mem_cons_self
    have htail := ih (fun z hz => hpre z (List.mem_cons_of_mem y hz))
    simp [answerEcho, hy, htail]

/-- R10: where every echo of a number is answered, a reply to it answers none. -/
theorem answerEcho_of_answered {n : Nat} {x : Nat × Nat × Nat} {es : List Echo}
    (h : ∀ e ∈ es, e.number = n → e.reply.isSome = true) : answerEcho n x es = none := by
  induction es with
  | nil => rfl
  | cons e es ih =>
    have htail := ih (fun z hz => h z (List.mem_cons_of_mem e hz))
    have hhead : ¬(e.number = n ∧ e.reply.isNone = true) := fun ⟨hn, hnone⟩ => by
      have := h e List.mem_cons_self hn
      simp_all
    rw [answerEcho, if_neg hhead, htail, Option.map_none]

/-- R8, R10: in MEASURE and UP an ECHO_REPLY is accepted. -/
theorem receiveEchoReply_linked {n t2 t3 : Nat} (h : (s.port p).state = .measure ∨ (s.port p).state = .up) :
    receiveEchoReply p n t2 t3 s = acceptEchoReply p n t2 t3 s := by
  rcases h with h | h
  · simp only [receiveEchoReply, if_pos h]
  · have hne : (s.port p).state ≠ .measure := by rw [h]; exact fun hx => nomatch hx
    rw [receiveEchoReply, if_neg hne, byState_up _ _ _ _ _ h]

/-- Settles O18. -/
theorem echoExchange : Obligations.EchoExchange := by
  intro p s
  dsimp only
  refine ⟨fun n ⟨hstate, hroom⟩ => ?echo, fun b ⟨hb, hlen, hroom⟩ => ?spacing,
    fun n t2 t3 b pre e post ⟨hstate, hb, hes, hpre, hn, hr⟩ => ?reply, fun n t2 t3 ⟨hstate, hall⟩ => ?stale⟩
  case echo =>
    show Host.Outcome.next (acceptEcho p n s) = _
    have hoffer : s.setPort p ((s.port p).offerTiming (.echoReply n s.rtu.stamp)) =
        s.setPort p { s.port p with qTiming := (s.port p).qTiming ++ [.echoReply n s.rtu.stamp] } := by
      rw [Port.offerTiming, if_pos hroom]
    have haccept : acceptEcho p n s = s.setPort p ((s.port p).offerTiming (.echoReply n s.rtu.stamp)) := by
      rcases hstate with h | h | ⟨h, hconflict, hself⟩
      · simp only [acceptEcho, h]
      · simp only [acceptEcho, h]
      · simp [acceptEcho, h, hconflict, hself]
    exact congrArg _ (haccept.trans hoffer)
  case spacing =>
    show Host.Outcome.next (echoTick p s) = _
    simp only [echoTick, hb, if_pos hlen]
    rw [offerEcho_eq hb hroom]
  case reply =>
    show Host.Outcome.next (receiveEchoReply p n t2 t3 s) = _
    rw [receiveEchoReply_linked hstate]
    simp only [acceptEchoReply, hb, hes, answerEcho_of_mem hpre hn hr]
    rfl
  case stale =>
    show Host.Outcome.next (receiveEchoReply p n t2 t3 s) = _
    rw [receiveEchoReply_linked hstate]
    refine congrArg _ (?_ : _ = s.countPort p (fun c => { c with stale := bump c.stale }))
    cases hb : (s.port p).burst with
    | none => simp only [acceptEchoReply, hb]
    | some b => simp only [acceptEchoReply, hb, answerEcho_of_answered (hall b hb)]

/-! ## Samples and their mean (R48, R49) -/

/-- The distance from `b` to `a` on a counter of 60 bits. -/
theorem natDist_eq (a b : Nat) (hb : b < 2 ^ 60) : (((a + 2 ^ 60 - b) % 2 ^ 60 : Nat) : Int) = ((a : Int) - b) % 2 ^ 60 := by
  have h : ((a + 2 ^ 60 - b : Nat) : Int) = (a : Int) - b + 2 ^ 60 := by omega
  rw [Int.natCast_mod, h]
  omega

/-- R48: an echo without both its stamps, or over a step, has no sample. -/
theorem sample_of_incomplete {e : Echo} (h : e.t1 = none ∨ e.reply = none ∨ e.spanned = true) : e.sample = none := by
  unfold Echo.sample
  split
  · next h1 h2 =>
    rcases h with h | h | h
    · rw [h] at h1; cases h1
    · rw [h] at h2; cases h2
    · simp [h]
  · rfl

/-- R49: the mean of at least four samples is the nearest whole number, a half counting up. -/
theorem burstResult_mean {es : List Echo} (h : 4 ≤ (es.filterMap Echo.sample).length) :
    ∃ d, burstResult es = some d ∧
      2 * (es.filterMap Echo.sample).length * d ≤ 2 * (es.filterMap Echo.sample).sum + (es.filterMap Echo.sample).length ∧
      2 * (es.filterMap Echo.sample).sum + (es.filterMap Echo.sample).length <
        2 * (es.filterMap Echo.sample).length * (d + 1) := by
  refine ⟨_, by rw [burstResult, if_neg (Nat.not_lt.mpr h)], Nat.mul_div_le _ _, ?_⟩
  exact Nat.lt_mul_div_succ _ (by omega)

end Sys2Proof.Machine
end

section
/-! SUPPORT. Trees: what a change of the tree, a recomputation of the commitments and the end of an act touch, and the
statements about the end of a burst and the HELLO. -/

namespace Sys2Proof.Machine

variable {s t b : State} {p : PortId}

/-! ## Events (R177) -/

theorem event_raise_other {k : EventKind} {j : Nat} (h : j ≠ k.code) : (raise k s).event j = s.event j := by
  rw [raise_event, if_neg h]

theorem event_raiseIf_other {c : Bool} {k : EventKind} {j : Nat} (h : j ≠ k.code) : (raiseIf c k s).event j = s.event j := by
  cases c
  · rfl
  · exact event_raise_other h

theorem raiseIf_frame (c : Bool) (k : EventKind) (s : State) : raiseIf c k s = { s with mgmt := (raiseIf c k s).mgmt } := by
  cases c <;> rfl

/-! ## Commitments and purges (R30, R34, R91) -/

theorem recommitPort_frame (s : State) (p : PortId) :
    recommitPort s p = { s with router := (recommitPort s p).router, mgmt := (recommitPort s p).mgmt } := by
  unfold recommitPort raiseIf
  dsimp only
  split <;> rfl

theorem recommit_frame (s : State) : recommit s = { s with router := (recommit s).router, mgmt := (recommit s).mgmt } := by
  unfold recommit
  rw [recommitPort_frame (recommitPort s .p0) .p1, recommitPort_frame s .p0]

theorem event_recommit {k : Nat} (h : k ≠ EventKind.overcommit.code) : (recommit s).event k = s.event k := by
  have hport : ∀ (u : State) (p : PortId), (recommitPort u p).event k = u.event k := fun u p => event_raiseIf_other h
  rw [recommit, hport, hport]

@[simp] theorem recommit_topo (s : State) : (recommit s).topo = s.topo := by rw [recommit_frame]
@[simp] theorem recommit_trans (s : State) : (recommit s).trans = s.trans := by rw [recommit_frame]
@[simp] theorem recommit_slots (s : State) : (recommit s).slots = s.slots := by rw [recommit_frame]
@[simp] theorem recommit_rtu (s : State) : (recommit s).rtu = s.rtu := by rw [recommit_frame]

@[simp] theorem recommit_port (s : State) (p : PortId) : (recommit s).port p = s.port p := by
  rw [recommit_frame]; cases p <;> rfl

/-- R34: of the directory stays what does not go by a port that is a tree port no more. -/
theorem purgeLost_eq (b s : State) : purgeLost b s = s.updTopo (fun t => { t with
    directory := t.directory.filter (fun e =>
      PortId.all.all (fun q => !(b.isTree q && !s.isTree q) || e.2.via != .port q)) }) := by
  have hstep : ∀ u q, (purgePort q u).isTree .p1 = u.isTree .p1 := fun u q => State.isTree_updTopo (by rfl) _
  unfold purgeLost
  simp only [PortId.all, List.foldl_cons, List.foldl_nil, List.all_cons, List.all_nil, Bool.and_true]
  cases h0 : b.isTree .p0 && !s.isTree .p0
  · simp only [Bool.false_eq_true, if_false]
    cases h1 : b.isTree .p1 && !s.isTree .p1
    · simp [State.updTopo]
    · simp [purgePort, State.updTopo]
  · simp only [if_true, hstep]
    cases h1 : b.isTree .p1 && !s.isTree .p1
    · simp [purgePort, State.updTopo]
    · simp [purgePort, State.updTopo, List.filter_filter, Bool.and_comm]

@[simp] theorem purgeLost_port (b s : State) (p : PortId) : (purgeLost b s).port p = s.port p := by
  rw [purgeLost_eq, State.port_updTopo]

theorem purgeLost_event (b s : State) (k : Nat) : (purgeLost b s).event k = s.event k := by rw [purgeLost_eq]; rfl

/-- R34: no entry goes by a port that is a tree port no more. -/
theorem purgeLost_directory (hb : b.isTree p = true) (hs : s.isTree p = false) :
    ∀ e ∈ (purgeLost b s).topo.directory, e.2.via ≠ .port p := by
  intro e he
  rw [purgeLost_eq] at he
  have hall := (List.mem_filter.mp he).2
  have hp : p ∈ PortId.all := by cases p <;> decide
  have := List.all_eq_true.mp hall p hp
  simpa [hb, hs] using this

/-- R34: where no tree port is lost, the topology record stays. -/
theorem purgeLost_of_kept (h : ∀ q, b.isTree q = true → s.isTree q = true) : purgeLost b s = s := by
  have hnone : ∀ q, (b.isTree q && !s.isTree q) = false := fun q => by
    cases hb : b.isTree q
    · rfl
    · simp [h q hb]
  rw [purgeLost_eq]
  simp [State.updTopo, hnone, PortId.all]

/-- R30: a tree change is the purge and the recomputation, where a child flag moved. -/
theorem treeChange_cases (b s : State) :
    (treeChange b s = s ∧ ∀ q, b.isChild q = s.isChild q) ∨ treeChange b s = recommit (purgeLost b s) := by
  unfold treeChange
  split
  · next h => exact .inl ⟨rfl, fun q => by cases q; exacts [h.1, h.2]⟩
  · exact .inr rfl

theorem treeChange_of_same (h : ∀ q, b.isChild q = s.isChild q) : treeChange b s = s := if_pos ⟨h .p0, h .p1⟩

theorem treeChange_of_moved (h : b.isChild p ≠ s.isChild p) : treeChange b s = recommit (purgeLost b s) := by
  refine if_neg (fun ⟨h0, h1⟩ => h ?_)
  cases p; exacts [h0, h1]

@[simp] theorem treeChange_port (b s : State) (p : PortId) : (treeChange b s).port p = s.port p := by
  rcases treeChange_cases b s with ⟨h, -⟩ | h <;> rw [h]
  rw [recommit_port, purgeLost_port]

theorem event_treeChange {k : Nat} (h : k ≠ EventKind.overcommit.code) : (treeChange b s).event k = s.event k := by
  rcases treeChange_cases b s with ⟨he, -⟩ | he <;> rw [he]
  rw [event_recommit h, purgeLost_event]

theorem treeChange_trans (b s : State) : (treeChange b s).trans = s.trans := by
  rcases treeChange_cases b s with ⟨he, -⟩ | he <;> rw [he]
  rw [recommit_trans, purgeLost_eq]
  rfl

/-! ## The end of an act (R131, R155) -/

theorem settleDrain_frame (s : State) (i : Nat) :
    settleDrain s i = { s with slots := (settleDrain s i).slots, mgmt := (settleDrain s i).mgmt } := by
  unfold settleDrain
  dsimp only
  split
  · rfl
  · split
    · split
      · rfl
      · rfl
    · rfl

theorem settleDrains_frame (s : State) : ∃ sl m, settleDrains s = { s with slots := sl, mgmt := m } := by
  unfold settleDrains
  generalize List.range 16 = l
  induction l generalizing s with
  | nil => exact ⟨_, _, rfl⟩
  | cons i l ih =>
    obtain ⟨sl, m, h⟩ := ih (settleDrain s i)
    refine ⟨sl, m, ?_⟩
    rw [List.foldl_cons, h, settleDrain_frame]

/-- R155: where nothing awaits routing, the end of an act touches the slots and their events alone. -/
theorem finish_frame (h : s.routed) : ∃ sl m, finish s = { s with slots := sl, mgmt := m } := by
  rw [finish, rerouteAll_of_routed 33 h]
  exact settleDrains_frame s

theorem event_settleDrains {k : Nat} (hk : k ≠ EventKind.slotQuiesced.code) : (settleDrains s).event k = s.event k := by
  unfold settleDrains
  generalize List.range 16 = l
  induction l generalizing s with
  | nil => rfl
  | cons i l ih =>
    rw [List.foldl_cons, ih]
    unfold settleDrain
    dsimp only
    split
    · rfl
    · split
      · split
        · exact event_raise_other hk
        · rfl
      · rfl

/-! ## The end of a burst (R8, R10, R49) -/

/-- R8: what the entry to UP leaves in the port and in LINK_UP. -/
theorem enterUp_port : (enterUp p s).port p = { s.port p with state := .up, burstCount := 0 } := by
  rw [enterUp]
  simp only [recommit_port, treeChange_port]
  rw [State.updPort_eq, raise_setPort, State.port_setPort_same]

theorem enterUp_event : (enterUp p s).event 0 = (s.event 0).raise (s.mgmt.noticeEnable.getLsbD 0) := by
  rw [enterUp, event_recommit (by decide), event_treeChange (by decide), raise_event]
  cases p <;> rfl

@[simp] theorem event_setPort (s : State) (p : PortId) (r : Port) (k : Nat) : (s.setPort p r).event k = s.event k := by
  cases p <;> rfl

/-- R49: what a burst's result leaves in the port. -/
theorem settleDelay_port {d : Option Nat} : (settleDelay p d s).port p =
    { s.port p with delay := d.getD (s.port p).delay, delayValid := (s.port p).delayValid || d.isSome } := by
  cases d with
  | none => cases p <;> simp [settleDelay, raise, State.port, State.setEvent]
  | some d => cases p <;> simp [settleDelay, State.port, State.updPort, State.setPort]

theorem settleDelay_event {d : Option Nat} : (settleDelay p d s).event 0 = s.event 0 := by
  cases d with
  | none => exact event_raise_other (by decide)
  | some d => cases p <;> rfl

/-- R48: the sample of an echo with both its stamps, in whole numbers. -/
theorem sample_eq {e : Echo} {t1 t2 t3 t4 : Nat} (h1 : e.t1 = some t1) (hr : e.reply = some (t2, t3, t4))
    (hs : e.spanned = false) : e.sample =
      if 65535 < (t4 + 2 ^ 60 - t1) % 2 ^ 60 ∨ (t4 + 2 ^ 60 - t1) % 2 ^ 60 < (t3 + 2 ^ 60 - t2) % 2 ^ 60 then none
      else some (((t4 + 2 ^ 60 - t1) % 2 ^ 60 - (t3 + 2 ^ 60 - t2) % 2 ^ 60 + 1) / 2) := by
  simp only [Echo.sample, h1, hr, hs, Bool.false_or, Bool.or_eq_true, decide_eq_true_eq]

/-- R48: an echo's sample is half its round trip less the hold, rounded half up. -/
theorem sample_of_complete {e : Echo} {t1 t2 t3 t4 : Nat} (b1 : t1 < 2 ^ 60) (b2 : t2 < 2 ^ 60) (h1 : e.t1 = some t1)
    (hr : e.reply = some (t2, t3, t4)) (hs : e.spanned = false) :
    (65535 < ((t4 : Int) - t1) % 2 ^ 60 ∨ ((t4 : Int) - t1) % 2 ^ 60 < ((t3 : Int) - t2) % 2 ^ 60 → e.sample = none) ∧
    (((t4 : Int) - t1) % 2 ^ 60 ≤ 65535 ∧ ((t3 : Int) - t2) % 2 ^ 60 ≤ ((t4 : Int) - t1) % 2 ^ 60 →
      ∃ d : Nat, e.sample = some d ∧ (2 * (d : Int) = ((t4 : Int) - t1) % 2 ^ 60 - ((t3 : Int) - t2) % 2 ^ 60 ∨
        2 * (d : Int) = ((t4 : Int) - t1) % 2 ^ 60 - ((t3 : Int) - t2) % 2 ^ 60 + 1)) := by
  rw [← natDist_eq t4 t1 b1, ← natDist_eq t3 t2 b2, sample_eq h1 hr hs]
  generalize (t4 + 2 ^ 60 - t1) % 2 ^ 60 = trip
  generalize (t3 + 2 ^ 60 - t2) % 2 ^ 60 = hold
  refine ⟨fun h => if_pos (by omega), fun h => ⟨_, if_neg (by omega), ?_⟩⟩
  omega

/-- R10: the port's record once its burst is over. -/
def Port.burstOver (r : Port) : Port := { r with burst := none, burstCount := 0 }

/-- R10: the end of a burst of eight echoes, by the port's state. -/
theorem endBurst_eq {k : Burst} (hb : (s.port p).burst = some k) (hlen : 8 ≤ k.echoes.length) :
    ((s.port p).state = .measure →
      endBurst p s = enterUp p (settleDelay p (burstResult k.echoes) (s.setPort p (s.port p).burstOver))) ∧
    ((s.port p).state = .up → endBurst p s = settleDelay p (burstResult k.echoes) (s.setPort p (s.port p).burstOver)) ∧
    ((s.port p).state = .loopback →
      endBurst p s = s.setPort p { (s.port p).burstOver with loopDelay := burstResult k.echoes }) := by
  have hover : endBurst p s =
      match (s.port p).state with
      | .measure => enterUp p (settleDelay p (burstResult k.echoes) (s.setPort p (s.port p).burstOver))
      | .up => settleDelay p (burstResult k.echoes) (s.setPort p (s.port p).burstOver)
      | .loopback => (s.setPort p (s.port p).burstOver).updPort p (fun r => { r with loopDelay := burstResult k.echoes })
      | _ => s.setPort p (s.port p).burstOver := by
    simp only [endBurst, hb, if_neg (Nat.not_lt.mpr hlen)]
    rfl
  refine ⟨fun hs => hover.trans (by rw [hs]), fun hs => hover.trans (by rw [hs]), fun hs => hover.trans ?_⟩
  rw [hs]
  dsimp only
  rw [State.updPort_eq, State.port_setPort_same, State.setPort_setPort]

/-- R49: a valid result is written and counted. -/
theorem settleDelay_some (r : Port) (d : Nat) : settleDelay p (some d) (s.setPort p r) =
    (s.setPort p { r with delay := d, delayValid := true }).applyRtu
      ({ s.rtu with burstsValid := bump s.rtu.burstsValid }, []) := by
  simp only [settleDelay, State.updPort_eq, State.port_setPort_same, State.setPort_setPort, State.setPort_rtu,
    State.applyRtu, raiseAll, List.foldl_nil]

/-- Settles O19. -/
theorem burstsStartAndEnd : Obligations.BurstsStartAndEnd := by
  refine ⟨fun e => ⟨sample_of_incomplete, fun t1 t2 t3 t4 b1 b2 h1 hr hs => sample_of_complete b1 b2 h1 hr hs⟩,
    fun es => ⟨fun h => if_pos h, burstResult_mean⟩, fun p s => ?_⟩
  dsimp only
  refine ⟨fun b d ⟨hs, hb, hlen, hres⟩ => ?valid, fun b ⟨hs, hb, hlen, hres⟩ => ?invalid, fun b ⟨hs, hb, hlen⟩ => ?first,
    fun b ⟨hs, hb, hlen⟩ => ?loop, fun ⟨hs, hb, hroom, hdue⟩ => ?start⟩
  case valid =>
    refine congrArg Host.Outcome.next (((endBurst_eq hb hlen).2.1 hs).trans ?_)
    rw [hres, settleDelay_some]
    rfl
  case invalid =>
    refine congrArg Host.Outcome.next (((endBurst_eq hb hlen).2.1 hs).trans ?_)
    simp only [hres, settleDelay, State.setPort_rtu]
    rfl
  case first =>
    refine ⟨_, congrArg Host.Outcome.next ((endBurst_eq hb hlen).1 hs), ?_⟩
    simp [enterUp_port, enterUp_event, settleDelay_port, settleDelay_event, Port.burstOver, EventRecord.raise]
  case loop => exact congrArg Host.Outcome.next ((endBurst_eq hb hlen).2.2 hs)
  case start =>
    have hdue' : (s.port p).burstDue s.rtu.delayRepeat = true := by
      rcases hdue with ⟨hv, hc⟩ | ⟨hv, hrep, hc⟩ <;> simp [Port.burstDue, *]
    show Host.Outcome.next (scheduleBurst p s) = _
    simp only [scheduleBurst, if_pos hdue']
    rw [beginBurst_eq hroom]

/-! ## The HELLO (R5 to R7, R20, R23, R30) -/

/-- R7: the port's record with what a HELLO of its peer tells. -/
def Port.knowing (r : Port) (h : Hello) (q : Peer) : Port := { r with
  peer := some { q with frame := h.frame, hops := h.hops, rootward := h.rootward, fast := h.fast }, peerFast := h.fast }

/-- R30: a port that stays as it is, but for its peer, is a child port as its peer claims. -/
theorem isChild_knowing (h : Hello) (q : Peer) : (s.setPort p ((s.port p).knowing h q)).isChild p =
    ((s.port p).state == .up && s.topo.rootward != some p && h.rootward) := by
  simp [State.isChild, State.isUp, Port.knowing, Port.peerClaims]

theorem isChild_setPort_other {r : Port} {q : PortId} (hq : q ≠ p) : (s.setPort p r).isChild q = s.isChild q := by
  simp [State.isChild, State.isUp, State.port_setPort, hq]

/-- R7, R30: a HELLO that changes no child flag. -/
theorem treeChange_knowing {h : Hello} {q : Peer} (hpeer : (s.port p).peer = some q)
    (hkeep : (s.port p).state = .measure ∨ h.rootward = q.rootward) :
    treeChange s (s.setPort p ((s.port p).knowing h q)) = s.setPort p ((s.port p).knowing h q) := by
  refine treeChange_of_same (fun x => ?_)
  by_cases hx : x = p
  · subst hx
    rw [isChild_knowing]
    rcases hkeep with hm | hr
    · simp [State.isChild, State.isUp, hm, beq_eq_decide]
    · simp [State.isChild, State.isUp, Port.peerClaims, hpeer, hr]
  · rw [isChild_setPort_other hx]

/-- R7, R20: what a HELLO of the present peer does, the tree apart. -/
theorem helloUpdate_of_peer {h : Hello} {q : Peer} (hpeer : (s.port p).peer = some q) : helloUpdate p h s =
    if (s.port p).state = .up ∧ (s.port p).rate = .base ∧ (s.port p).rateRequest = .fast ∧ h.fast = true ∧
        (s.port p).peerFast = false then
      if ((s.port p).knowing h q).helloWaits then
        (treeChange s (s.setPort p ((s.port p).knowing h q))).updPort p (fun r => { r with retrainPending := true })
      else enterTraining p (treeChange s (s.setPort p ((s.port p).knowing h q)))
    else treeChange s (s.setPort p ((s.port p).knowing h q)) := by
  unfold helloUpdate
  simp only [hpeer, Option.map_some, treeChange_port, State.port_setPort_same, Bool.not_eq_true']
  rfl

/-- R23, R30: what the tree change of a HELLO leaves, where the child flag of its port moves. -/
theorem treeChange_knowing_topo {h : Hello} {q : Peer} (hup : (s.port p).state = .up) (hpeer : (s.port p).peer = some q)
    (hmoved : h.rootward ≠ q.rootward) :
    (treeChange s (s.setPort p ((s.port p).knowing h q))).topo.rootward = s.topo.rootward ∧
    (h.rootward = false ∧ s.topo.rootward ≠ some p →
      ∀ e ∈ (treeChange s (s.setPort p ((s.port p).knowing h q))).topo.directory, e.2.via ≠ .port p) ∧
    (h.rootward = true → (treeChange s (s.setPort p ((s.port p).knowing h q))).topo = s.topo) := by
  have hchild : s.isChild p = (s.topo.rootward != some p && q.rootward) := by
    simp [State.isChild, State.isUp, Port.peerClaims, hpeer, hup]
  refine ⟨?_, fun ⟨hfalse, hroot⟩ => ?_, fun htrue => ?_⟩
  · rcases treeChange_cases s (s.setPort p ((s.port p).knowing h q)) with ⟨he, -⟩ | he <;> rw [he]
    · rw [State.setPort_topo]
    · rw [recommit_topo, purgeLost_eq]
      exact congrArg (·.rootward) (State.setPort_topo ..)
  · have hq : q.rootward = true := by cases hb : q.rootward <;> simp_all
    have hnow : (s.setPort p ((s.port p).knowing h q)).isChild p = false := by rw [isChild_knowing, hfalse, Bool.and_false]
    have hwas : s.isChild p = true := by simp [hchild, hq, hroot]
    rw [treeChange_of_moved (p := p) (by rw [hnow, hwas]; decide), recommit_topo]
    refine purgeLost_directory (by simp [State.isTree, hwas]) ?_
    simp [State.isTree, hnow, hroot]
  · have hkept : ∀ x, s.isTree x = true → (s.setPort p ((s.port p).knowing h q)).isTree x = true := fun x hx => by
      by_cases hxp : x = p
      · subst hxp
        rw [State.isTree, isChild_knowing]
        cases hr : s.topo.rootward != some x <;> simp_all
      · rwa [State.isTree, isChild_setPort_other hxp, State.setPort_topo]
    rcases treeChange_cases s (s.setPort p ((s.port p).knowing h q)) with ⟨he, -⟩ | he <;> rw [he]
    · rw [State.setPort_topo]
    · rw [recommit_topo, purgeLost_of_kept hkept, State.setPort_topo]

/-- R5: a HELLO that shows no conflict serves the peer's loop or completes the pairing. -/
theorem helloPairing_clear {h : Hello} (huid : h.uid ≠ s.unitId) (hroot : ¬(h.root = true ∧ s.topo.root = true)) :
    helloPairing p h s = if h.loopRequest then enterLoopback p .farServed s else completePairing p h s := by
  have hclear : (h.uid == s.unitId || h.root && s.topo.root) = false := by
    rw [Bool.or_eq_false_iff]
    exact ⟨beq_eq_false_iff_ne.mpr huid, by simpa using hroot⟩
  simp only [helloPairing, hclear, Bool.false_eq_true, if_false]

/-- R6: a HELLO that shows the unit itself, or a second root, restarts the pairing timer and sets the flags. -/
theorem helloPairing_conflict {h : Hello} (self conflict : Bool) (hself : (h.uid == s.unitId) = self)
    (hconflict : (h.root && s.topo.root) = conflict) (hany : (self || conflict) = true) :
    helloPairing p h s = raiseIf (conflict && !(s.port p).rootConflict) .rootConflict (s.setPort p { s.port p with
      selfCabled := (s.port p).selfCabled || self
      rootConflict := (s.port p).rootConflict || conflict
      pairingEnd := s.localTime + 1250000 }) := by
  simp only [helloPairing, hself, hconflict, hany, if_true, State.updPort_eq]
  rfl

/-- R8: a pairing that is complete starts the first burst. -/
theorem completePairing_eq {h : Hello} (hroom : (s.port p).qTiming.length < 8) :
    completePairing p h s = s.setPort p (Port.offeredEcho { s.port p with
      state := .measure
      peer := some ⟨h.uid, h.frame, h.root, h.hops, h.rootward, h.fast, h.limStream, h.limRequest, h.limCompletion⟩
      peerFast := h.fast, txCredits := ⟨h.limStream, h.limRequest, h.limCompletion⟩
      rootConflict := false, selfCabled := false, helloAt := s.localTime + 125000 } [] s.localTime) := by
  rw [completePairing, State.updPort_eq, beginBurst_eq (by rw [State.port_setPort_same]; exact hroom),
    State.port_setPort_same, State.setPort_setPort, State.setPort_localTime]
  rfl

/-- R7, R23: a HELLO with a Loop Request in MEASURE or UP is served. -/
theorem acceptHello_loop {h : Hello} (hs : (s.port p).state = .measure ∨ (s.port p).state = .up) (hloop : h.loopRequest = true) :
    acceptHello p h s = s.leaving p { (s.port p).tornDown with
      state := .loopback, loopForm := .farServed
      peerFast := if (s.port p).peer.map (·.uid) = some h.uid then h.fast else (s.port p).peerFast } := by
  have hin : acceptHello p h s = enterLoopback p .farServed (s.setPort p { s.port p with
      peerFast := if (s.port p).peer.map (·.uid) = some h.uid then h.fast else (s.port p).peerFast }) := by
    rcases hs with hs | hs <;> simp only [acceptHello, hs, if_pos hloop]
  rw [hin]
  exact enterLoopback_setPort (linked_iff.mpr (.inr hs)) rfl

/-- R6, R7: any other one in MEASURE or UP updates the peer it comes from, or trains the port anew. -/
theorem acceptHello_linked {h : Hello} {q : Peer} (hs : (s.port p).state = .measure ∨ (s.port p).state = .up)
    (hpeer : (s.port p).peer = some q) (hloop : h.loopRequest = false) :
    acceptHello p h s = if h.uid = q.uid then helloUpdate p h s else enterTraining p s := by
  have hin : acceptHello p h s = if (s.port p).peer.map (·.uid) ≠ some h.uid then enterTraining p s else helloUpdate p h s := by
    rcases hs with hs | hs <;> simp only [acceptHello, hs, hloop, Bool.false_eq_true, if_false]
  simp [hin, hpeer, eq_comm]

/-- Settles O17. -/
theorem helloCompletesPairing : Obligations.HelloCompletesPairing := by
  intro p h s
  dsimp only
  have hexec : exec (.helloReceived p h) s = .next (finish (acceptHello p h s)) := rfl
  refine ⟨fun hs => ?pairing, fun hs => ?linked⟩
  case pairing =>
    have hin : acceptHello p h s = helloPairing p h s := by simp only [acceptHello, hs]
    rw [hexec, hin]
    refine ⟨fun ⟨huid, hroot, hloop, hroom⟩ => ?complete, fun ⟨huid, hroot⟩ => ?self, fun ⟨huid, hr, ht⟩ => ?both,
      fun ⟨huid, hr, ht⟩ => ?conflict, fun ⟨huid, hroot, hloop⟩ => ?loop⟩
    case complete => rw [helloPairing_clear huid hroot, hloop, if_neg Bool.false_ne_true, completePairing_eq hroom]
    case self =>
      rw [helloPairing_conflict true false (beq_iff_eq.mpr huid) (by simpa using hroot) rfl, Bool.or_true, Bool.or_false]
      rfl
    case both =>
      rw [helloPairing_conflict true true (beq_iff_eq.mpr huid) (by rw [hr, ht]; rfl) rfl, Bool.or_true, Bool.or_true,
        Bool.true_and]
    case conflict =>
      rw [helloPairing_conflict false true (beq_eq_false_iff_ne.mpr huid) (by rw [hr, ht]; rfl) rfl, Bool.or_true,
        Bool.or_false, Bool.true_and]
    case loop =>
      rw [helloPairing_clear huid hroot, if_pos hloop, enterLoopback_linked (linked_iff.mpr (.inl hs)),
        leaving_of_not_up (by rw [hs]; exact (nomatch ·))]
  case linked =>
    have hlinked : (s.port p).state.linked = true := linked_iff.mpr (.inr hs)
    refine ⟨fun hloop => ?loop, fun q hpeer hloop => ⟨fun huid => ?other, fun ⟨huid, hkeep⟩ => ?_,
      fun ⟨huid, hup, hmoved, hfast, hrouted⟩ => ?moved⟩⟩
    case loop => rw [hexec, acceptHello_loop hs hloop]
    case other =>
      rw [hexec, acceptHello_linked hs hpeer hloop, if_neg huid, enterTraining_linked hlinked]
    case moved =>
      rw [hexec, acceptHello_linked hs hpeer hloop, if_pos huid, helloUpdate_of_peer hpeer, if_neg (by simp [hfast])]
      obtain ⟨sl, m, hfin⟩ := finish_frame (s := treeChange s (s.setPort p ((s.port p).knowing h q)))
        (by rw [State.routed, treeChange_trans, State.setPort_trans]; exact hrouted)
      refine ⟨_, rfl, ?_⟩
      rw [hfin]
      obtain ⟨hrootward, hgone, hkept⟩ := treeChange_knowing_topo hup hpeer hmoved
      have hport : ∀ x, (treeChange s (s.setPort p ((s.port p).knowing h q))).port x =
          (s.setPort p ((s.port p).knowing h q)).port x := fun x => treeChange_port _ _ x
      refine ⟨(hport p).trans (State.port_setPort_same ..), (hport p.other).trans (State.port_setPort_other ..), ?_, hrootward,
        hgone, hkept⟩
      show (treeChange s (s.setPort p ((s.port p).knowing h q))).isChild p = _
      rw [State.isChild, State.isUp, hport, hrootward, State.port_setPort_same]
      simp [Port.knowing, Port.peerClaims, hup, Bool.and_comm, bne, beq_eq_decide]
    rw [hexec, acceptHello_linked hs hpeer hloop, if_pos huid, helloUpdate_of_peer hpeer, treeChange_knowing hpeer hkeep]
    refine ⟨fun hno => ?plain, fun hfast => ?_⟩
    case plain => rw [if_neg hno]; rfl
    rw [if_pos hfast]
    refine ⟨fun hnone => ?retrain, fun hwait => ?pending⟩
    case retrain =>
      have hnew : ((s.port p).knowing h q).newTrainRate = .fast := by
        simp [Port.newTrainRate, Port.knowing, hfast]
      rw [helloWaits_of_none (r := (s.port p).knowing h q) hnone, if_neg Bool.false_ne_true, enterTraining_setPort (r := (s.port p).knowing h q) hlinked rfl, hnew]
      rfl
    case pending =>
      rw [if_pos (helloWaits_iff (r := (s.port p).knowing h q).mpr hwait), State.updPort_eq, State.port_setPort_same, State.setPort_setPort]
      rfl

end Sys2Proof.Machine
end

section
/-! SUPPORT. Parcels: how a bad parcel, a parcel in LOOPBACK and the transmit arbiter act, and the statements about
them. -/

namespace Sys2Proof.Machine

variable {s : State} {p : PortId}

/-! ## Bad parcels (R12, R13, R19) -/

/-- R13, R14: a port's record once a bad parcel's buffer is dropped. -/
def Port.dropped (r : Port) : Option ParcelClass → Port
  | none => r
  | some k => if r.buffersFull k then { r with counters := { r.counters with rxOverflow := bump r.counters.rxOverflow } }
      else r.freeBuffer k

theorem Port.dropped_full {r : Port} {k : ParcelClass} (h : r.buffersFull k = true) : r.dropped (some k) =
    { r with counters := { r.counters with rxOverflow := bump r.counters.rxOverflow } } := if_pos h

theorem Port.dropped_free {r : Port} {k : ParcelClass} (h : r.buffersFull k = false) : r.dropped (some k) = r.freeBuffer k :=
  if_neg (by rw [h]; exact Bool.false_ne_true)

/-- R12, R19: a port's record after a bad parcel outside LOOPBACK. -/
def Port.afterBad (r : Port) (f : ParcelFault) (c : Option ParcelClass) : Port :=
  { Port.dropped { r with counters := r.counters.bad f } c with badThisEpoch := min (r.badThisEpoch + 1) 9 }

theorem dropBuffer_setPort (r : Port) (k : ParcelClass) :
    dropBuffer p k (s.setPort p r) = s.setPort p (r.dropped (some k)) := by
  unfold dropBuffer Port.dropped
  rw [State.port_setPort_same]
  split
  · next h => simp only [overflow, State.countPort, State.updPort_eq, State.port_setPort_same, State.setPort_setPort, if_pos h]
  · next h => simp only [State.updPort_eq, State.port_setPort_same, State.setPort_setPort, if_neg h]

/-- R19: a bad parcel in PAIRING, MEASURE and UP; the ninth of an epoch retrains. -/
theorem badParcel_linked {f : ParcelFault} {c : Option ParcelClass} (h : (s.port p).state.linked = true) :
    badParcel p f c s = if (s.port p).badThisEpoch + 1 = 9 then retrainBad p (s.setPort p ((s.port p).afterBad f c))
      else s.setPort p ((s.port p).afterBad f c) := by
  have hafter : (match c with
      | some k => dropBuffer p k (s.countPort p (PortCounters.bad f))
      | none => s.countPort p (PortCounters.bad f)).updPort p (fun r =>
        { r with badThisEpoch := min ((s.port p).badThisEpoch + 1) 9 }) = s.setPort p ((s.port p).afterBad f c) := by
    rw [State.countPort, State.updPort_eq s]
    cases c with
    | none => rw [State.updPort_eq, State.port_setPort_same, State.setPort_setPort]; rfl
    | some k =>
      dsimp only
      rw [dropBuffer_setPort, State.updPort_eq, State.port_setPort_same, State.setPort_setPort]
      rfl
  simp only [badParcel, h, if_true]
  rw [← hafter] <;> rfl

/-- R12: a port checks what arrives in PAIRING, MEASURE and UP, and in LOOPBACK NEAR and FAR. -/
theorem receiveBytes_bad {f : ParcelFault} {bytes : List Byte} (hc : (s.port p).checks = true)
    (hf : parcelFault bytes = some f) : receiveBytes p bytes s = badParcel p f (classNamed bytes) s := by
  simp only [receiveBytes, hc, if_true, hf]

theorem receiveBytes_good {bytes : List Byte} {x : Parcel} (hc : (s.port p).checks = true)
    (hf : parcelFault bytes = none) (hx : Parcel.decode (bodyOf bytes) = some x) :
    receiveBytes p bytes s = receiveParcel p x s := by
  simp only [receiveBytes, hc, if_true, hf, hx]

theorem Port.checks_linked {r : Port} (h : r.state.linked = true) : r.checks = true := by simp [Port.checks, h]

theorem Port.checks_inLoop {r : Port} (h : r.inLoop = true) : r.checks = true := by simp [Port.checks, h]

/-- R14: with a CREDIT waiting, a buffer that frees is counted alone. -/
theorem Port.freeBuffer_waiting {r : Port} {c : ParcelClass} (hc : isCredited c = true)
    (hs : r.state = .measure ∨ r.state = .up) (hw : LinkItem.credit ∈ r.qLink) :
    r.freeBuffer c = { r with freed := r.freed.add c } := by
  have hwaits : ({ r with freed := r.freed.add c } : Port).creditWaits = true := by
    simp only [Port.creditWaits, List.any_eq_true]
    exact ⟨_, hw, rfl⟩
  have hon : (isCredited c && (r.state == .measure || r.state == .up)) = true := by simp [hc, hs]
  simp only [Port.freeBuffer, hon, if_true, hwaits]

theorem Port.afterBad_stream {r : Port} (hs : r.state = .up) (hlow : r.badThisEpoch < 8) (hw : LinkItem.credit ∈ r.qLink) :
    r.afterBad .crc (some .stream) = { r with
      counters := { r.counters with badCrc := bump r.counters.badCrc }
      freed := { r.freed with stream := r.freed.stream + 1 }
      badThisEpoch := r.badThisEpoch + 1 } := by
  have hdropped : Port.dropped { r with counters := r.counters.bad .crc } (some .stream) =
      { r with counters := r.counters.bad .crc, freed := r.freed.add .stream } :=
    (Port.dropped_free rfl).trans (Port.freeBuffer_waiting rfl (.inr hs) hw)
  rw [Port.afterBad, hdropped, Nat.min_eq_left (by omega)]
  rfl

theorem Port.afterBad_overflow {r : Port} {k : ParcelClass} (hfull : r.buffersFull k = true) (hlow : r.badThisEpoch < 8) :
    r.afterBad .crc (some k) = { r with
      counters := { r.counters with badCrc := bump r.counters.badCrc, rxOverflow := bump r.counters.rxOverflow }
      badThisEpoch := r.badThisEpoch + 1 } := by
  have hdropped : Port.dropped { r with counters := r.counters.bad .crc } (some k) = { r with
      counters := { r.counters with badCrc := bump r.counters.badCrc, rxOverflow := bump r.counters.rxOverflow } } :=
    Port.dropped_full (by cases k <;> exact hfull)
  rw [Port.afterBad, hdropped, Nat.min_eq_left (by omega)]

/-- R19: the ninth bad parcel at BASE retrains the port. -/
theorem retrainBad_setPort {r : Port} (hs : r.state = .measure) (hnot : (s.port p).state = .measure) (hrate : r.rate = .base) :
    retrainBad p (s.setPort p r) = raise .linkRetrain (s.setPort p { r.tornDown with
      state := .training, trainRate := r.newTrainRate
      counters := { r.tornDown.counters with retrains := bump r.counters.retrains } }) := by
  have hbase : countRetrain p (bumpRetrains p (raise .linkRetrain (s.setPort p r))) = (raise .linkRetrain s).setPort p { r with
      counters := { r.counters with retrains := bump r.counters.retrains } } := by
    rw [bumpRetrains, State.countPort, State.updPort_eq, raise_setPort, State.port_setPort_same, State.setPort_setPort,
      countRetrain_base (by rw [State.port_setPort_same, hrate]; exact (nomatch ·))]
  have hport : (raise .linkRetrain s).port p = s.port p := by cases p <;> rfl
  rw [retrainBad, hbase, enterTraining_setPort (by rw [hs]; rfl) (by rw [hport, hs, hnot]), raise_setPort,
    leaving_of_not_up (by rw [hport, hnot]; exact (nomatch ·))]
  rfl

/-! ## Parcels in LOOPBACK (R22, R23) -/

/-- R22: the number of an ECHO. -/
def echoIn : Parcel → Option Nat
  | .echo n => some n
  | _ => none

theorem echoIn_eq_none {x : Parcel} (h : ∀ n, x ≠ .echo n) : echoIn x = none := by
  cases x with
  | echo n => exact absurd rfl (h n)
  | _ => rfl

/-- R22: every kind of parcel that comes back in LOOPBACK NEAR or FAR is counted, an ECHO with its number. -/
theorem receiveParcel_inLoop {x : Parcel} (h : (s.port p).inLoop = true) :
    receiveParcel p x s = loopbackGood p (echoIn x) s := by
  have hs : (s.port p).state = .loopback := (inLoop_iff.mp h).1
  cases x <;> simp [receiveParcel, receiveStream, receiveMark, receiveEchoReply, receiveTrigger, receiveAnnounce,
    receiveCredit, receiveRequest, receiveCompletion, byState, acceptEcho, acceptHello, inLoopback, echoIn, hs, h]

/-- R22: the first parcel on the loop leaves it as it returns. -/
theorem leaveLoop_first {x : Parcel} {rest : List Parcel}
    (h : (s.port p).looped = x :: rest ∨ ((s.port p).looped = [] ∧ rest = [])) :
    leaveLoop p x.encode s = s.setPort p { s.port p with looped := rest } := by
  rw [leaveLoop, State.updPort_eq]
  rcases h with h | ⟨h, rfl⟩
  · simp only [h, if_true]
  · simp only [h]
    rw [← h]

/-- R22: any other return leaves the loop as it is. -/
theorem leaveLoop_other {bytes : List Byte} (h : ∀ x ∈ (s.port p).looped.head?, x.encode ≠ bytes) :
    leaveLoop p bytes s = s := by
  rw [leaveLoop, State.updPort_eq]
  cases hl : (s.port p).looped with
  | nil => exact State.setPort_port ..
  | cons x rest =>
    simp only [if_neg (h x (by rw [hl]; rfl))]
    exact State.setPort_port ..

theorem loopbackGood_plain (r : Port) : loopbackGood p none (s.setPort p r) =
    s.setPort p { r with counters := { r.counters with loopGood := bump r.counters.loopGood } } := by
  simp only [loopbackGood, State.updPort_eq, State.port_setPort_same, State.setPort_setPort]

theorem loopbackGood_echo {r : Port} {k : Burst} {n : Nat} {es : List Echo} (hb : r.burst = some k)
    (hes : answerEcho n (s.rtu.stamp, s.rtu.stamp, s.rtu.stamp) k.echoes = some es) :
    loopbackGood p (some n) (s.setPort p r) = s.setPort p { r with
      counters := { r.counters with loopGood := bump r.counters.loopGood }, burst := some { k with echoes := es } } := by
  simp only [loopbackGood, State.updPort_eq, State.port_setPort_same, State.setPort_setPort, State.setPort_rtu, hb, hes]

/-- R22: a good parcel that returns is off the loop, and counted. -/
theorem loopback_returned {x : Parcel} {rest : List Parcel} (hin : (s.port p).inLoop = true)
    (hgood : parcelFault x.encode = none) (hx : Parcel.decode (bodyOf x.encode) = some x)
    (hrest : (s.port p).looped = x :: rest ∨ ((s.port p).looped = [] ∧ rest = [])) :
    exec (.loopbackParcelReturned p x.encode) s = .next (loopbackGood p (echoIn x)
      (s.setPort p { s.port p with looped := rest })) := by
  refine congrArg Host.Outcome.next ?_
  have hin' : ((s.setPort p { s.port p with looped := rest }).port p).inLoop = true := by rw [State.port_setPort_same]; exact hin
  rw [loopbackReturn, if_pos hin, leaveLoop_first hrest, receiveBytes_good (Port.checks_inLoop hin') hgood hx,
    receiveParcel_inLoop hin']

/-- Settles O20. -/
theorem badParcelsAreCounted : Obligations.BadParcelsAreCounted := by
  intro p bytes s
  dsimp only
  refine ⟨fun hbad => ⟨fun ⟨hs, hclass, hlow, hw⟩ => ?freed, fun ⟨hs, hheld, hlow⟩ => ?overflow, fun ⟨hloop, hhead⟩ => ?looped,
    fun ⟨hs, hrate, hnine, hclass⟩ => ?ninth⟩, fun x rest ⟨hloop, hgood, hx, hrest⟩ => ⟨fun hno => ?good,
    fun n k pre e post ⟨hn, hb, hes, hpre, he, hnone⟩ => ?echo⟩, fun ⟨hs, hf⟩ => ?served⟩
  case freed =>
    have hlinked : (s.port p).state.linked = true := linked_iff.mpr (.inr (.inr hs))
    refine congrArg (Host.Outcome.next ∘ finish) ?_
    rw [receiveBytes_bad (Port.checks_linked hlinked) hbad, badParcel_linked hlinked, hclass, if_neg (by omega),
      Port.afterBad_stream hs hlow hw]
  case overflow =>
    have hlinked : (s.port p).state.linked = true := linked_iff.mpr (.inr (.inr hs))
    obtain ⟨k, hclass, hfull⟩ : ∃ k, classNamed bytes = some k ∧ (s.port p).buffersFull k = true := by
      rcases hheld with ⟨hclass, hheld⟩ | ⟨hclass, hheld⟩ <;> exact ⟨_, hclass, decide_eq_true (by omega)⟩
    refine congrArg (Host.Outcome.next ∘ finish) ?_
    rw [receiveBytes_bad (Port.checks_linked hlinked) hbad, badParcel_linked hlinked, if_neg (by omega), hclass,
      Port.afterBad_overflow hfull hlow]
  case looped =>
    have hin : (s.port p).inLoop = true := inLoop_iff.mpr hloop
    have hnot : (s.port p).state.linked = false := by rw [hloop.1]; rfl
    refine congrArg Host.Outcome.next ?_
    rw [loopbackReturn, if_pos hin, leaveLoop_other hhead, receiveBytes_bad (Port.checks_inLoop hin) hbad]
    simp only [badParcel, hnot, Bool.false_eq_true, if_false, State.countPort, State.updPort_eq, State.port_setPort_same,
      State.setPort_setPort]
    rfl
  case ninth =>
    have hlinked : (s.port p).state.linked = true := linked_iff.mpr (.inr (.inl hs))
    refine congrArg (Host.Outcome.next ∘ finish) ?_
    rw [receiveBytes_bad (Port.checks_linked hlinked) hbad, badParcel_linked hlinked, hclass, if_pos (by omega),
      retrainBad_setPort (r := (s.port p).afterBad .crc none) hs hs hrate]
    simp only [Port.afterBad, hnine]
    rfl
  case good =>
    have hin : (s.port p).inLoop = true := inLoop_iff.mpr hloop
    rw [loopback_returned hin hgood hx hrest]
    rw [echoIn_eq_none hno, loopbackGood_plain]
  case echo =>
    have hin : (s.port p).inLoop = true := inLoop_iff.mpr hloop
    subst hn
    rw [loopback_returned hin hgood hx hrest]
    refine congrArg Host.Outcome.next (loopbackGood_echo (k := k) hb ?_)
    rw [hes]
    exact answerEcho_of_mem hpre he hnone
  case served =>
    refine congrArg (Host.Outcome.next ∘ finish) ?_
    have hnot : (s.port p).checks = false := by
      rw [Port.checks, Bool.or_eq_false_iff, hs]
      exact ⟨rfl, by simp [Port.inLoop, hf]⟩
    have hserved : (s.port p).served = true := by simp [Port.served, hs, hf]
    rw [receiveBytes, hnot, if_neg Bool.false_ne_true]
    simp only [sendBack, State.updPort_eq, hserved, if_true]

/-! ## The transmit arbiter (R17) -/

theorem transmits_linked {r : Port} (h : r.state.linked = true) : r.transmits = true := by simp [Port.transmits, h]

theorem transmits_inLoop {r : Port} (h : r.inLoop = true) : r.transmits = true := by simp [Port.transmits, h]

/-- R17: what waits in the timing queue goes first. -/
theorem transmit_timing {i : TimingItem} {rest : List TimingItem} (ht : (s.port p).transmits = true)
    (hq : (s.port p).qTiming = i :: rest) : transmit p s = sendTiming p i rest s := by
  have hchoose : (s.port p).choose = some .timing := by simp [Port.choose, hq]
  simp only [transmit, ht, hchoose, hq, Bool.not_true, Bool.false_eq_true, if_false]

/-- R17: what waits in the link control queue goes next. -/
theorem transmit_link {i : LinkItem} {rest : List LinkItem} (ht : (s.port p).transmits = true)
    (hq : (s.port p).qTiming = []) (hl : (s.port p).qLink = i :: rest) : transmit p s = sendLink p i rest s := by
  have hchoose : (s.port p).choose = some .link := by simp [Port.choose, hq, hl]
  simp only [transmit, ht, hchoose, hl, Bool.not_true, Bool.false_eq_true, if_false]

theorem choose_credited {r : Port} (hq : r.qTiming = []) (hl : r.qLink = []) : r.choose =
    if r.streamReady && !(decide (16 ≤ r.streamRun) && (r.compReady || r.reqReady)) then some .stream
    else if r.compReady then some .completion else if r.reqReady then some .request else none := by
  simp [Port.choose, hq, hl]

theorem compReady_iff {r : Port} : r.compReady = true ↔ 0 < r.qCompletion.length ∧ 0 < r.txCredits.completion := by
  cases h : r.qCompletion <;> simp [Port.compReady, h]

theorem reqReady_iff {r : Port} : r.reqReady = true ↔ 0 < r.qRequest.length ∧ 0 < r.txCredits.request := by
  cases h : r.qRequest <;> simp [Port.reqReady, h]

theorem streamReady_iff {r : Port} : r.streamReady = true ↔ 0 < r.qStream.length ∧ 0 < r.txCredits.stream := by
  cases h : r.qStream <;> simp [Port.streamReady, h]

/-- R10: T1 of an echo is taken as it departs, and of it alone. -/
theorem departEcho_of_mem {n t1 : Nat} {pre post : List Echo} {e : Echo} (hother : ∀ y ∈ pre ++ post, y.number ≠ n)
    (hn : e.number = n) (h1 : e.t1 = none) : departEcho n t1 (pre ++ e :: post) = pre ++ { e with t1 := some t1 } :: post := by
  have hkeep : ∀ l : List Echo, (∀ y ∈ l, y.number ≠ n) →
      l.map (fun e => if e.number = n ∧ e.t1.isNone then { e with t1 := some t1 } else e) = l := fun l h => by
    conv => rhs; rw [← List.map_id l]
    exact List.map_congr_left (fun y hy => if_neg (fun hc => h y hy hc.1))
  rw [departEcho, List.map_append, List.map_cons, hkeep pre (fun y hy => hother y (List.mem_append_left _ hy)),
    hkeep post (fun y hy => hother y (List.mem_append_right _ hy)), if_pos ⟨hn, by rw [h1]; rfl⟩]

/-- R46: the correction of a forwarded mark, saturated or not. -/
theorem forwardCorrection_saturated {delay : Option Nat} {valid : Bool} {stamp now : Nat} {m : Mark} {spanned : Bool}
    (h : m.correction = 2 ^ 32 - 1 ∨ delay = none ∨ valid = false ∨ spanned = true ∨
      2 ^ 32 - 1 ≤ m.correction + (now + 2 ^ 60 - stamp) % 2 ^ 60 + delay.getD 0) :
    forwardCorrection delay valid stamp now m spanned = (2 ^ 32 - 1, true) := by
  cases delay with
  | none => rfl
  | some d => exact if_pos (by simpa [saturated] using h)

theorem forwardCorrection_sum {delay : Option Nat} {valid : Bool} {stamp now : Nat} {m : Mark} {spanned : Bool}
    (hm : m.correction ≠ 2 ^ 32 - 1) (hd : delay ≠ none) (hv : valid = true) (hs : spanned = false)
    (hsum : m.correction + (now + 2 ^ 60 - stamp) % 2 ^ 60 + delay.getD 0 < 2 ^ 32 - 1) :
    forwardCorrection delay valid stamp now m spanned =
      (m.correction + (now + 2 ^ 60 - stamp) % 2 ^ 60 + delay.getD 0, false) := by
  cases delay with
  | none => exact absurd rfl hd
  | some d => exact if_neg (by simpa [saturated, hv, hs, hm] using And.intro hm hsum)

theorem not_inNear {r : Port} (h : r.state.linked = true) : r.inNear = false := by
  rcases linked_iff.mp h with h | h | h <;> simp [Port.inNear, h, beq_eq_decide]

/-- R10, R18, R22: an ECHO departs with its T1, in NEAR to the port's own receiver. -/
theorem sendTiming_echo {n : Nat} {rest : List TimingItem} {b : Burst} (hb : (s.port p).burst = some b) :
    sendTiming p (.echo n) rest s = s.setPort p (if (s.port p).inNear then
      { s.port p with
        qTiming := rest, burst := some { b with echoes := departEcho n s.rtu.stamp b.echoes }
        looped := (s.port p).looped ++ [.echo n] }
    else { s.port p with
        qTiming := rest, burst := some { b with echoes := departEcho n s.rtu.stamp b.echoes }, wire := some (.echo n) }) := by
  simp only [sendTiming, hb, Option.map_some]
  rfl

/-- Settles O23. -/
theorem arbiterSendsInOrder : Obligations.ArbiterSendsInOrder := by
  intro p s
  dsimp only
  have hgo : ∀ t, transmit p s = t → exec (.parcelTransmit p) s = .next (finish t) := fun t h => by rw [← h]; rfl
  refine ⟨fun hs => ?linked, fun n rest b pre e post ⟨hs, hf, hq, hb, hes, hother, hn, h1⟩ => hgo _ ?near⟩
  case near =>
    have hnear : (s.port p).inNear = true := by simp [Port.inNear, hs, hf]
    rw [transmit_timing (transmits_inLoop (inLoop_iff.mpr ⟨hs, .inl hf⟩)) hq, sendTiming_echo hb, if_pos hnear, hes,
      departEcho_of_mem hother hn h1]
    rfl
  have hlinked : (s.port p).state.linked = true := linked_iff.mpr hs
  have ht : (s.port p).transmits = true := transmits_linked hlinked
  refine ⟨fun t0 rest hq => hgo _ (transmit_timing ht hq), fun rest hq => hgo _ (transmit_timing ht hq),
    fun a stamp m delay spanned rest hq => ⟨fun ⟨h1, h2, h3, h4, h5⟩ => hgo _ ?written, fun h => hgo _ ?saturated⟩,
    fun n rest b pre e post ⟨hq, hb, hes, hother, hn, h1⟩ => hgo _ ?echo, fun n t2 rest hq => hgo _ (transmit_timing ht hq),
    fun rest ⟨hq, hl⟩ => hgo _ (transmit_link ht hq hl), fun a rest ⟨hq, hl⟩ => hgo _ (transmit_link ht hq hl),
    fun h rest ⟨hq, hl⟩ => ⟨fun hloop => hgo _ ?far, fun ⟨hloop, hpend⟩ => hgo _ ?retrain, fun ⟨hloop, hpend⟩ => hgo _ ?hello⟩,
    fun ⟨hq, hl⟩ => ?credited⟩
  case written =>
    rw [transmit_timing ht hq]
    simp only [sendTiming]
    rw [forwardCorrection_sum (now := s.rtu.stamp) h1 h2 h3 h4 h5]
    rfl
  case saturated =>
    rw [transmit_timing ht hq]
    simp only [sendTiming]
    rw [forwardCorrection_saturated (now := s.rtu.stamp) h]
    simp only [if_true, State.setPort_rtu]
  case echo =>
    rw [transmit_timing ht hq, sendTiming_echo hb, if_neg (by rw [not_inNear hlinked]; exact Bool.false_ne_true), hes,
      departEcho_of_mem hother hn h1]
    rfl
  case far =>
    rw [transmit_link ht hq hl]
    simp only [sendLink, if_pos hloop]
    exact enterLoopback_setPort hlinked rfl
  case retrain =>
    rw [transmit_link ht hq hl]
    simp only [sendLink, if_neg hloop, hpend, if_true]
    exact enterTraining_setPort hlinked rfl
  case hello =>
    rw [transmit_link ht hq hl]
    simp only [sendLink, if_neg hloop, hpend, Bool.false_eq_true, if_false]
  case credited =>
    simp only [← compReady_iff, ← reqReady_iff, ← streamReady_iff]
    refine ⟨fun x rest ⟨hx, hcredit, hrun⟩ => hgo _ ?stream, fun y rest ⟨hy, hcredit, hno⟩ => hgo _ ?completion,
      fun x rest ⟨hx, hcredit, hnoc, hno⟩ => hgo _ ?request, fun ⟨hnos, hnoc, hnor⟩ => hgo _ ?none⟩
    case stream =>
      have hready : (s.port p).streamReady = true := streamReady_iff.mpr ⟨by rw [hx]; exact Nat.succ_pos _, hcredit⟩
      have hchoose : (s.port p).choose = some .stream := by
        rw [choose_credited hq hl, if_pos]
        rcases hrun with hrun | hrun <;> simp_all
      simp only [transmit, ht, hchoose, hx, Bool.not_true, Bool.false_eq_true, if_false]
      have hrunof : (if (s.port p).compReady || (s.port p).reqReady then min ((s.port p).streamRun + 1) 16 else 0) =
          if (s.port p).compReady = true ∨ (s.port p).reqReady = true then (s.port p).streamRun + 1 else 0 := by
        simp only [Bool.or_eq_true]
        split
        · next hw => exact Nat.min_eq_left (hrun.resolve_right (not_not_intro hw))
        · rfl
      rw [hrunof]
    case completion =>
      have hready : (s.port p).compReady = true := compReady_iff.mpr ⟨by rw [hy]; exact Nat.succ_pos _, hcredit⟩
      have hchoose : (s.port p).choose = some .completion := by
        rw [choose_credited hq hl, if_neg, if_pos hready]
        rcases hno with hno | hno <;> simp_all
      simp only [transmit, ht, hchoose, hy, Bool.not_true, Bool.false_eq_true, if_false]
    case request =>
      have hready : (s.port p).reqReady = true := reqReady_iff.mpr ⟨by rw [hx]; exact Nat.succ_pos _, hcredit⟩
      have hchoose : (s.port p).choose = some .request := by
        rw [choose_credited hq hl, if_neg, if_neg hnoc, if_pos hready]
        rcases hno with hno | hno <;> simp_all
      simp only [transmit, ht, hchoose, hx, Bool.not_true, Bool.false_eq_true, if_false]
    case none =>
      have hchoose : (s.port p).choose = none := by
        rw [choose_credited hq hl, if_neg (by simp [hnos]), if_neg hnoc, if_neg hnor]
      simp only [transmit, ht, hchoose, Bool.not_true, Bool.false_eq_true, if_false]

end Sys2Proof.Machine
end

section
/-! SUPPORT. Formats: numbers as bytes, the CRC register, and the statement that parcels are read back as sent. -/

namespace Sys2Proof.Machine

/-! ## Numbers as bytes (11.1) -/

@[simp] theorem beBytes_length (n v : Nat) : (beBytes n v).length = n := by
  induction n with
  | zero => rfl
  | succ n ih => rw [beBytes, List.length_cons, ih]

theorem beNat_append_singleton (bs : List Byte) (b : Byte) : beNat (bs ++ [b]) = beNat bs * 256 + b.toNat := by
  simp [beNat]

/-- 11.1: bytes read most significant first: the first weighs the most. -/
theorem beNat_cons (b : Byte) (bs : List Byte) : beNat (b :: bs) = b.toNat * 256 ^ bs.length + beNat bs := by
  have hstart : ∀ (l : List Byte) (a : Nat),
      l.foldl (fun a b => a * 256 + b.toNat) a = a * 256 ^ l.length + beNat l := fun l => by
    induction l with
    | nil => intro a; simp [beNat]
    | cons c l ih =>
      intro a
      rw [beNat, List.foldl_cons, List.foldl_cons, ih, ih, List.length_cons, pow_succ]
      ring
  rw [beNat, List.foldl_cons, hstart]
  simp

theorem beNat_beBytes_mod (n v : Nat) : beNat (beBytes n v) = v % 256 ^ n := by
  induction n with
  | zero => simp [beBytes, beNat, Nat.mod_one]
  | succ n ih =>
    rw [beBytes, beNat_cons, ih, beBytes_length, BitVec.toNat_ofNat, pow_succ 256 n, Nat.mod_mul (a := 256 ^ n) (b := 256),
      Nat.add_comm, Nat.mul_comm]

/-- 11.1: a number that fits its field is read back from it. -/
theorem beNat_beBytes {n v : Nat} (h : v < 256 ^ n) : beNat (beBytes n v) = v := by
  rw [beNat_beBytes_mod, Nat.mod_eq_of_lt h]

/-- 11.1: the CRC field is read back least significant byte first. -/
theorem leNat_leBytes {n v : Nat} (h : v < 256 ^ n) : leNat (leBytes n v) = v := by
  induction n generalizing v with
  | zero => simp at h; simp [leBytes, leNat, h]
  | succ n ih =>
    have hdiv : v / 256 < 256 ^ n := Nat.div_lt_of_lt_mul (by rw [pow_succ] at h; omega)
    rw [leBytes, leNat, ih hdiv, BitVec.toNat_ofNat]
    omega

theorem leBytes_length (n v : Nat) : (leBytes n v).length = n := by
  induction n generalizing v with
  | zero => rfl
  | succ n ih => rw [leBytes, List.length_cons, ih]

/-! ## The CRC register (R12) -/

theorem crcBit_lt {r : Nat} (h : r < 2 ^ 32) : crcBit r < 2 ^ 32 := by
  unfold crcBit
  split
  · exact Nat.xor_lt_two_pow (by omega) (by decide)
  · omega

theorem crcByte_lt {r : Nat} (b : Byte) (h : r < 2 ^ 32) : crcByte r b < 2 ^ 32 := by
  have hb : b.toNat < 2 ^ 32 := Nat.lt_of_lt_of_le b.isLt (by decide)
  unfold crcByte
  iterate 8 apply crcBit_lt
  exact Nat.xor_lt_two_pow h hb

theorem crc32_lt (bs : List Byte) : crc32 bs < 2 ^ 32 := by
  refine Nat.xor_lt_two_pow ?_ (by decide)
  have hfold : ∀ (l : List Byte) (r : Nat), r < 2 ^ 32 → l.foldl crcByte r < 2 ^ 32 := fun l => by
    induction l with
    | nil => exact fun r h => h
    | cons b l ih => exact fun r h => ih _ (crcByte_lt b h)
  exact hfold bs _ (by decide)

/-! ## The checks (R12) -/

/-- 11.2: a parcel's kind, header and payload fit the lengths that its checks ask for. -/
theorem fields_fit {x : Parcel} (h : x.wf = true) : (1 ≤ x.fields.1 ∧ x.fields.1 ≤ 10) ∧ x.fields.2.1.length = 12 ∧
    x.fields.2.2.length ≤ 256 := by
  cases x with
  | stream p =>
    simp only [Parcel.wf, StreamParcel.wf, Bool.and_eq_true, decide_eq_true_eq] at h
    simpa [Parcel.fields] using h.2
  | request r =>
    simp only [Parcel.wf, Request.wf, Bool.and_eq_true, decide_eq_true_eq] at h
    have hlen := h.2
    cases hx : r.ext <;> simp [Parcel.fields, NextExt.encode, hx] at hlen ⊢ <;> omega
  | completion c =>
    simp only [Parcel.wf, Completion.wf, Bool.and_eq_true, decide_eq_true_eq] at h
    simpa [Parcel.fields] using h.2
  | _ => simp [Parcel.fields]

theorem bodyOf_encode (x : Parcel) : bodyOf x.encode = x.body := by
  simp [bodyOf, Parcel.encode, leBytes_length]

/-- R12: a well-formed parcel as sent fails no check. -/
theorem parcelFault_encode {x : Parcel} (h : x.wf = true) : parcelFault x.encode = none := by
  obtain ⟨⟨hk1, hk10⟩, hheader, hpay⟩ := fields_fit h
  have hbody : x.body.length = 16 + x.fields.2.2.length := by
    simp [Parcel.body, hheader]; omega
  have hcrc : leNat (x.encode.drop (x.encode.length - 4)) = crc32 x.body := by
    have hdrop : x.encode.drop (x.encode.length - 4) = leBytes 4 (crc32 x.body) := by
      simp [Parcel.encode, leBytes_length]
    rw [hdrop, leNat_leBytes (crc32_lt _)]
  have hlen : x.encode.length = 20 + x.fields.2.2.length := by
    simp [Parcel.encode, leBytes_length, hbody]; omega
  have hkind : (x.body.getD 0 0).toNat = x.fields.1 := by
    simp [Parcel.body, beBytes]; omega
  have hclass : (x.body.getD 1 0).toNat = classOfKind x.fields.1 := by
    have : ∀ k, classOfKind k < 256 := fun k => by unfold classOfKind; split <;> omega
    simp [Parcel.body, beBytes, Nat.mod_eq_of_lt (this _)]
  have hdeclared : beNat ((x.body.drop 2).take 2) = x.fields.2.2.length := by
    have htake : (x.body.drop 2).take 2 = beBytes 2 x.fields.2.2.length := by simp [Parcel.body, beBytes]
    rw [htake, beNat_beBytes (by omega)]
  unfold parcelFault
  rw [hcrc]
  simp only [bodyOf_encode, hlen, hkind, hclass, hdeclared, hbody]
  rw [if_neg (by omega), if_neg (by omega), if_neg (by omega)]

/-! ## Reading back (11.2) -/

theorem toNat_byte {v : Nat} (h : v < 256 ^ 1) : (BitVec.ofNat 8 (v / 256 ^ 0)).toNat = v := by
  rw [BitVec.toNat_ofNat]; omega

theorem beNat_masked {n m v : Nat} (h : v < 2 ^ m) (hm : 2 ^ m ≤ 256 ^ n) : beNat (beBytes n v) % 2 ^ m = v := by
  rw [beNat_beBytes (Nat.lt_of_lt_of_le h hm), Nat.mod_eq_of_lt h]

theorem flags_stream (a b c : Bool) : (BitVec.ofNat 8 ((flagBit 0 a + flagBit 1 b + flagBit 2 c) / 256 ^ 0)).getLsbD 0 = a ∧
    (BitVec.ofNat 8 ((flagBit 0 a + flagBit 1 b + flagBit 2 c) / 256 ^ 0)).getLsbD 1 = b ∧
    (BitVec.ofNat 8 ((flagBit 0 a + flagBit 1 b + flagBit 2 c) / 256 ^ 0)).getLsbD 2 = c := by
  cases a <;> cases b <;> cases c <;> decide

theorem decode_stream {x : StreamParcel} (h : x.wf = true) :
    Parcel.decode (Parcel.body (.stream x)) = some (.stream x) := by
  simp only [StreamParcel.wf, fitsBytes, Bool.and_eq_true, decide_eq_true_eq] at h
  obtain ⟨⟨⟨⟨htag, hsource⟩, hepoch⟩, hseq⟩, hpay⟩ := h
  obtain ⟨hlast, habsent, htrunc⟩ := flags_stream x.last x.absent x.truncated
  have htag' : beNat (beBytes 2 x.tag) % 1024 = x.tag := beNat_masked (m := 10) htag (by decide)
  have hread : Parcel.decode (Parcel.body (.stream x)) = some (.stream
      { tag := beNat (beBytes 2 x.tag) % 1024
        source := (BitVec.ofNat 8 (x.source / 256 ^ 0)).toNat
        epoch := beNat (beBytes 2 x.epoch), seq := (BitVec.ofNat 8 (x.seq / 256 ^ 0)).toNat
        last := (BitVec.ofNat 8 ((flagBit 0 x.last + flagBit 1 x.absent + flagBit 2 x.truncated) / 256 ^ 0)).getLsbD 0
        absent := (BitVec.ofNat 8 ((flagBit 0 x.last + flagBit 1 x.absent + flagBit 2 x.truncated) / 256 ^ 0)).getLsbD 1
        truncated := (BitVec.ofNat 8 ((flagBit 0 x.last + flagBit 1 x.absent + flagBit 2 x.truncated) / 256 ^ 0)).getLsbD 2
        payload := x.payload }) := by
    simp only [Parcel.body, Parcel.fields, beBytes, List.cons_append, List.nil_append]
    unfold Parcel.decode
    rfl
  rw [hread, htag', toNat_byte hsource, beNat_beBytes hepoch, toNat_byte hseq, hlast, habsent, htrunc]

theorem decode_mark {m : Mark} (h : m.wf = true) : Parcel.decode (Parcel.body (.mark m)) = some (.mark m) := by
  simp only [Mark.wf, fitsBytes, Bool.and_eq_true, decide_eq_true_eq] at h
  obtain ⟨⟨⟨horigin, hcorrection⟩, hepoch⟩, hhops⟩ := h
  have hread : Parcel.decode (Parcel.body (.mark m)) = some (.mark
      { origin := beNat (beBytes 8 m.origin) % 2 ^ 60, correction := beNat (beBytes 4 m.correction)
        epoch := beNat (beBytes 5 m.epoch) % 2 ^ 39, hops := beNat (beBytes 1 m.hops) }) := by
    simp only [Parcel.body, Parcel.fields, beBytes, List.cons_append, List.nil_append]
    unfold Parcel.decode
    rfl
  rw [hread, beNat_masked horigin (by decide), beNat_beBytes hcorrection, beNat_masked hepoch (by decide), beNat_beBytes hhops]

theorem decode_echo {n : Nat} (h : n < 256 ^ 2) : Parcel.decode (Parcel.body (.echo n)) = some (.echo n) := by
  have hread : Parcel.decode (Parcel.body (.echo n)) = some (.echo (beNat (beBytes 2 n))) := by
    simp only [Parcel.body, Parcel.fields, beBytes, List.cons_append, List.nil_append]
    unfold Parcel.decode
    rfl
  rw [hread, beNat_beBytes h]

theorem decode_echoReply {n t2 t3 : Nat} (hn : n < 256 ^ 2) (h2 : t2 < 2 ^ 60) (h3 : t3 < 2 ^ 60) :
    Parcel.decode (Parcel.body (.echoReply n t2 t3)) = some (.echoReply n t2 t3) := by
  have hread : Parcel.decode (Parcel.body (.echoReply n t2 t3)) = some (.echoReply (beNat (beBytes 2 n))
      (beNat (beBytes 8 t2) % 2 ^ 60) (beNat (beBytes 8 t3) % 2 ^ 60)) := by
    simp only [Parcel.body, Parcel.fields, beBytes, List.cons_append, List.nil_append]
    unfold Parcel.decode
    rfl
  rw [hread, beNat_beBytes hn, beNat_masked h2 (by decide), beNat_masked h3 (by decide)]

theorem decode_trigger {t : Trigger} (h : t.wf = true) : Parcel.decode (Parcel.body (.trigger t)) = some (.trigger t) := by
  simp only [Trigger.wf, fitsBytes, Bool.and_eq_true, decide_eq_true_eq] at h
  obtain ⟨⟨⟨horigin, hline⟩, hseq⟩, hfire⟩ := h
  have hflag : ∀ b, (BitVec.ofNat 8 (flagBit 0 b / 256 ^ 0)).getLsbD 0 = b := by decide
  have hread : Parcel.decode (Parcel.body (.trigger t)) = some (.trigger
      { origin := (BitVec.ofNat 8 (t.origin / 256 ^ 0)).toNat, line := (BitVec.ofNat 8 (t.line / 256 ^ 0)).toNat
        seq := (BitVec.ofNat 8 (t.seq / 256 ^ 0)).toNat
        untimed := (BitVec.ofNat 8 (flagBit 0 t.untimed / 256 ^ 0)).getLsbD 0, fire := beNat (beBytes 7 t.fire) }) := by
    simp only [Parcel.body, Parcel.fields, beBytes, List.cons_append, List.nil_append]
    unfold Parcel.decode
    rfl
  rw [hread, toNat_byte horigin, toNat_byte hline, toNat_byte hseq, hflag, beNat_beBytes hfire]

theorem decode_hello {h : Hello} (hwf : h.wf = true) : Parcel.decode (Parcel.body (.hello h)) = some (.hello h) := by
  simp only [Hello.wf, fitsBytes, Bool.and_eq_true, decide_eq_true_eq] at hwf
  obtain ⟨⟨⟨⟨⟨huid, hframe⟩, hhops⟩, hstream⟩, hrequest⟩, hcompletion⟩ := hwf
  have hflags : ∀ a b c d, (let x := BitVec.ofNat 8 ((flagBit 0 a + flagBit 1 b + flagBit 2 c + flagBit 3 d) / 256 ^ 0)
      x.getLsbD 0 = a ∧ x.getLsbD 1 = b ∧ x.getLsbD 2 = c ∧ x.getLsbD 3 = d) := by decide
  obtain ⟨hroot, hrootward, hfast, hloop⟩ := hflags h.root h.rootward h.fast h.loopRequest
  have hread : Parcel.decode (Parcel.body (.hello h)) = some (.hello (
      let flags := BitVec.ofNat 8 ((flagBit 0 h.root + flagBit 1 h.rootward + flagBit 2 h.fast + flagBit 3 h.loopRequest) / 256 ^ 0)
      { uid := beNat (beBytes 8 h.uid), frame := (BitVec.ofNat 8 (h.frame / 256 ^ 0)).toNat
        hops := (BitVec.ofNat 8 (h.hops / 256 ^ 0)).toNat, root := flags.getLsbD 0, rootward := flags.getLsbD 1
        fast := flags.getLsbD 2, loopRequest := flags.getLsbD 3
        limStream := (BitVec.ofNat 8 (h.limStream / 256 ^ 0)).toNat
        limRequest := (BitVec.ofNat 8 (h.limRequest / 256 ^ 0)).toNat
        limCompletion := (BitVec.ofNat 8 (h.limCompletion / 256 ^ 0)).toNat })) := by
    simp only [Parcel.body, Parcel.fields, beBytes, List.cons_append, List.nil_append]
    unfold Parcel.decode
    rfl
  rw [hread]
  dsimp only
  rw [beNat_beBytes huid, toNat_byte hframe, toNat_byte hhops, hroot, hrootward, hfast, hloop, toNat_byte hstream,
    toNat_byte hrequest, toNat_byte hcompletion]

theorem decode_announce {a : Announce} (h : a.wf = true) : Parcel.decode (Parcel.body (.announce a)) = some (.announce a) := by
  simp only [Announce.wf, fitsBytes, Bool.and_eq_true, decide_eq_true_eq] at h
  obtain ⟨⟨hframe, hhop⟩, huid⟩ := h
  have hread : Parcel.decode (Parcel.body (.announce a)) = some (.announce
      { frame := (BitVec.ofNat 8 (a.frame / 256 ^ 0)).toNat, hop := (BitVec.ofNat 8 (a.hop / 256 ^ 0)).toNat
        uid := beNat (beBytes 8 a.uid) }) := by
    simp only [Parcel.body, Parcel.fields, beBytes, List.cons_append, List.nil_append]
    unfold Parcel.decode
    rfl
  rw [hread, toNat_byte hframe, toNat_byte hhop, beNat_beBytes huid]

theorem decode_credit {a b c : Nat} (ha : a < 256 ^ 1) (hb : b < 256 ^ 1) (hc : c < 256 ^ 1) :
    Parcel.decode (Parcel.body (.credit a b c)) = some (.credit a b c) := by
  have hread : Parcel.decode (Parcel.body (.credit a b c)) = some (.credit (BitVec.ofNat 8 (a / 256 ^ 0)).toNat
      (BitVec.ofNat 8 (b / 256 ^ 0)).toNat (BitVec.ofNat 8 (c / 256 ^ 0)).toNat) := by
    simp only [Parcel.body, Parcel.fields, beBytes, List.cons_append, List.nil_append]
    unfold Parcel.decode
    rfl
  rw [hread, toNat_byte ha, toNat_byte hb, toNat_byte hc]

theorem decode_completion {c : Completion} (h : c.wf = true) :
    Parcel.decode (Parcel.body (.completion c)) = some (.completion c) := by
  simp only [Completion.wf, Requester.wf, fitsBytes, Bool.and_eq_true, decide_eq_true_eq] at h
  obtain ⟨⟨⟨⟨⟨hframe, hid⟩, htag⟩, hstatus⟩, hhop⟩, -⟩ := h
  have hread : Parcel.decode (Parcel.body (.completion c)) = some (.completion
      { who := ⟨(BitVec.ofNat 8 (c.who.frame / 256 ^ 0)).toNat, (BitVec.ofNat 8 (c.who.id / 256 ^ 0)).toNat,
          (BitVec.ofNat 8 (c.who.tag / 256 ^ 0)).toNat⟩
        status := (BitVec.ofNat 8 (c.status / 256 ^ 0)).toNat, hop := (BitVec.ofNat 8 (c.hop / 256 ^ 0)).toNat
        data := c.data }) := by
    simp only [Parcel.body, Parcel.fields, beBytes, List.cons_append, List.nil_append]
    unfold Parcel.decode
    rfl
  rw [hread, toNat_byte hframe, toNat_byte hid, toNat_byte htag, toNat_byte hstatus, toNat_byte hhop]

/-- 11.2: the extension of a request to NEXT is read back from the 12 bytes it takes. -/
theorem decode_nextExt {x : NextExt} (h : x.wf = true) (data : List Byte) :
    NextExt.decode ((x.encode ++ data).take 12) = x ∧ (x.encode ++ data).drop 12 = data := by
  simp only [NextExt.wf, fitsBytes, Bool.and_eq_true, decide_eq_true_eq] at h
  obtain ⟨hexpected, hbranch⟩ := h
  have hlen : x.encode.length = 12 := by simp [NextExt.encode]
  rw [List.take_left' hlen, List.drop_left' hlen]
  refine ⟨?_, rfl⟩
  have hread : NextExt.decode x.encode =
      { expected := if beNat (beBytes 1 (flagBit 0 x.expected.isSome)) % 2 = 1 then some (beNat (beBytes 8 (x.expected.getD 0)))
          else none
        branch := beNat (beBytes 1 x.branch) } := by
    simp only [NextExt.encode, beBytes, List.cons_append, List.nil_append]
    unfold NextExt.decode
    rfl
  rw [hread, beNat_beBytes hexpected, beNat_beBytes hbranch, beNat_beBytes (by cases x.expected.isSome <;> decide)]
  obtain ⟨expected, branch⟩ := x
  cases expected <;> rfl

theorem decode_request {r : Request} (h : r.wf = true) : Parcel.decode (Parcel.body (.request r)) = some (.request r) := by
  simp only [Request.wf, Requester.wf, Op.wf, fitsBytes, Bool.and_eq_true, decide_eq_true_eq, beq_iff_eq] at h
  obtain ⟨⟨⟨⟨⟨⟨⟨⟨⟨⟨⟨hframe, hid⟩, htag⟩, hdest⟩, htarget⟩, hcode, hop⟩, hhop⟩, hlen⟩, haddress⟩, hnext⟩, hext⟩, -⟩ := h
  have hread : Parcel.decode (Parcel.body (.request r)) = some (.request (
      let dest := (BitVec.ofNat 8 (r.dest / 256 ^ 0)).toNat
      let pay := (match r.ext with | some x => x.encode | none => []) ++ r.data
      { who := ⟨(BitVec.ofNat 8 (r.who.frame / 256 ^ 0)).toNat, (BitVec.ofNat 8 (r.who.id / 256 ^ 0)).toNat,
          (BitVec.ofNat 8 (r.who.tag / 256 ^ 0)).toNat⟩
        dest := dest, target := (BitVec.ofNat 8 (r.target / 256 ^ 0)).toNat
        op := Op.ofCode (BitVec.ofNat 8 (r.op.code / 256 ^ 0)).toNat
        hop := (BitVec.ofNat 8 (r.hop / 256 ^ 0)).toNat
        length := (BitVec.ofNat 8 ((r.length - 1) / 256 ^ 0)).toNat + 1, address := beNat (beBytes 4 r.address)
        ext := if dest = nextCode then some (NextExt.decode (pay.take 12)) else none
        data := if dest = nextCode then pay.drop 12 else pay })) := by
    simp only [Parcel.body, Parcel.fields, beBytes, List.cons_append, List.nil_append]
    unfold Parcel.decode
    rfl
  rw [hread]
  dsimp only
  rw [toNat_byte hframe, toNat_byte hid, toNat_byte htag, toNat_byte hdest, toNat_byte htarget, toNat_byte hcode, hop,
    toNat_byte hhop, toNat_byte (v := r.length - 1) (by omega), beNat_beBytes haddress, Nat.sub_add_cancel hlen.1]
  obtain ⟨who, dest, target, op, hop, length, address, ext, data⟩ := r
  cases ext with
  | none =>
    have hnot : dest ≠ nextCode := by simpa using hnext
    simp [hnot]
  | some x =>
    have hdest : dest = nextCode := by simpa using hnext
    obtain ⟨hx, hdata⟩ := decode_nextExt hext data
    simp [hdest, hx, hdata]

/-- 11.2: a well-formed parcel's header and payload are read back. -/
theorem decode_body {x : Parcel} (h : x.wf = true) : Parcel.decode x.body = some x := by
  cases x with
  | stream x => exact decode_stream h
  | mark m => exact decode_mark h
  | echo n => exact decode_echo (of_decide_eq_true h)
  | echoReply n t2 t3 =>
    simp only [Parcel.wf, fitsBytes, Bool.and_eq_true, decide_eq_true_eq] at h
    exact decode_echoReply h.1.1 h.1.2 h.2
  | trigger t => exact decode_trigger h
  | hello x => exact decode_hello h
  | announce a => exact decode_announce h
  | credit a b c =>
    simp only [Parcel.wf, fitsBytes, Bool.and_eq_true, decide_eq_true_eq] at h
    exact decode_credit h.1.1 h.1.2 h.2
  | request r => exact decode_request h
  | completion c => exact decode_completion h

/-- Settles O11. -/
theorem parcelsReadBack : Obligations.ParcelsReadBack := fun p h =>
  ⟨parcelFault_encode h, by rw [bodyOf_encode, decode_body h]⟩

end Sys2Proof.Machine
end

section
/-! SUPPORT. Timebase: what the limits of the timebase, a rootward change, the marks and the timebase writes leave,
and the statements about them. -/

namespace Sys2Proof.Machine

variable {s : State} {p : PortId}

/-! ## Tables with every value changed -/

theorem tfind_map_filter_none {α : Type} {t : List (Nat × α)} {k : Nat} (h : ∀ e ∈ t, e.1 ≠ k) : tfind t k = none := by
  induction t with
  | nil => rfl
  | cons e r ih =>
    rw [tfind, if_neg (h e List.mem_cons_self), ih (fun x hx => h x (List.mem_cons_of_mem _ hx))]

/-- A sorted table with every value changed, unlisted keys changed alike, reads as the changed value. -/
theorem tgetD_mapped {α : Type} [DecidableEq α] {d : α} {f : α → α} {t : List (Nat × α)} (hd : f d = d)
    (hs : tsorted t = true) (k : Nat) :
    tgetD d ((t.map (fun e => (e.1, f e.2))).filter (fun e => decide (e.2 ≠ d))) k = f (tgetD d t k) := by
  induction t with
  | nil => simp [hd]
  | cons e r ih =>
    obtain ⟨j, v⟩ := e
    rw [tsorted_iff] at hs
    obtain ⟨hhead, htail⟩ := List.pairwise_cons.mp hs
    have ih := ih ((tsorted_iff r).mpr htail)
    by_cases hj : j = k
    · have hnone : tfind ((r.map (fun e => (e.1, f e.2))).filter (fun e => decide (e.2 ≠ d))) k = none := by
        refine tfind_map_filter_none (fun e he => ?_)
        obtain ⟨x, hx, rfl⟩ := List.mem_map.mp (List.mem_filter.mp he).1
        exact Nat.ne_of_gt (hj ▸ hhead x hx)
      by_cases hv : f v = d
      · rw [List.map_cons, List.filter_cons_of_neg (by simpa using hv), tgetD, hnone, tgetD, tfind, if_pos hj]
        exact hv.symm
      · simp [tgetD, tfind, hv, hj]
    · by_cases hv : f v = d
      · simpa [tgetD, tfind, hv, hj] using ih
      · simpa [tgetD, tfind, hv, hj] using ih

/-- R69: a Seen List a boundary event older. -/
theorem seen_ageSeen (hs : tsorted s.trig.seen = true) (l : Nat) :
    (ageSeen s).seen l = ((s.seen l).filter (fun e => e.age ≠ 1)).map (fun e => ⟨e.origin, e.seq, 1⟩) := by
  have haged := tgetD_mapped (d := []) (f := agedSeen) rfl hs l
  rw [State.seen, ageSeen]
  refine haged.trans ?_
  simp only [agedSeen, State.seen]
  congr 1
  exact List.filter_congr (fun e _ => by cases h : decide (e.age = 1) <;> simp_all)

/-! ## A rootward change (R29, R31) -/


theorem raiseAll_frame (ks : List EventKind) (s : State) : raiseAll ks s = { s with mgmt := (raiseAll ks s).mgmt } := by
  unfold raiseAll
  induction ks generalizing s with
  | nil => rfl
  | cons k ks ih => rw [List.foldl_cons, ih]; rfl

theorem pending_raise {k : EventKind} {j : Nat} (h : (s.event j).pending = true ∨ j = k.code) :
    ((raise k s).event j).pending = true := by
  rw [raise_event]
  split
  · rfl
  · next hj => exact h.resolve_right hj

theorem pending_raiseAll {ks : List EventKind} {j : Nat} (h : (s.event j).pending = true ∨ j ∈ ks.map EventKind.code) :
    ((raiseAll ks s).event j).pending = true := by
  unfold raiseAll
  induction ks generalizing s with
  | nil => exact h.resolve_right (by simp)
  | cons k ks ih =>
    rw [List.foldl_cons]
    refine ih ?_
    rcases h with h | h
    · exact .inl (pending_raise (.inl h))
    · rcases List.mem_cons.mp h with h | h
      · exact .inl (pending_raise (.inr h))
      · exact .inr h

theorem pending_applyRtu {x : RtuStep} {j : Nat} (h : (s.event j).pending = true ∨ j ∈ x.2.map EventKind.code) :
    ((s.applyRtu x).event j).pending = true := pending_raiseAll h

theorem applyRtu_frame (s : State) (x : RtuStep) : s.applyRtu x = { s with rtu := x.1, mgmt := (s.applyRtu x).mgmt } :=
  raiseAll_frame x.2 _

/-- The state with both ports' records as in another. -/
def State.withPorts (s t : State) : State := { s with port0 := t.port0, port1 := t.port1 }

theorem updPort_withPorts (f : Port → Port) : s.updPort p f = s.withPorts (s.updPort p f) := by cases p <;> rfl

/-- A fold over the ports that changes ports alone. -/
theorem foldl_withPorts {g : State → PortId → State} (hg : ∀ u p, g u p = u.withPorts (g u p)) (l : List PortId) (s : State) :
    l.foldl g s = s.withPorts (l.foldl g s) := by
  induction l generalizing s with
  | nil => rfl
  | cons p l ih =>
    rw [List.foldl_cons, ih, hg s p]
    rfl

theorem helloUpPorts_withPorts (s : State) : helloUpPorts s = s.withPorts (helloUpPorts s) := by
  refine foldl_withPorts (fun u p => ?_) _ s
  split
  · exact updPort_withPorts _
  · rfl

theorem announceExcept_withPorts (e : Option PortId) (a : Announce) (s : State) :
    announceExcept e a s = s.withPorts (announceExcept e a s) := by
  refine foldl_withPorts (fun u p => ?_) _ s
  split
  · exact updPort_withPorts _
  · rfl

theorem sendAnnounce_withPorts (s : State) : sendAnnounce s = s.withPorts (sendAnnounce s) := by
  unfold sendAnnounce
  split
  · exact announceExcept_withPorts _ _ s
  · rfl

theorem pending_recommit {k : Nat} (h : (s.event k).pending = true) : ((recommit s).event k).pending = true := by
  have hport : ∀ (u : State) (q : PortId), (u.event k).pending = true → ((recommitPort u q).event k).pending = true :=
    fun u q hu => by
      unfold recommitPort raiseIf
      dsimp only
      split
      · exact pending_raise (.inl hu)
      · exact hu
  exact hport _ _ (hport _ _ h)

/-- R31: a rootward change but for its notices to the ports, its event and its recomputation. -/
def rootwardSet (new : Option PortId) (s : State) : State := purgeLost s (s.updTopo (fun t => { t with
  rootward := new, hops := new.map (fun p => s.markHops p + 1), rootwardChanges := bump t.rootwardChanges }))

theorem rootwardChange_eq (new : Option PortId) (s : State) : rootwardChange new s =
    if s.topo.rootward.isSome then
      (recommit (sendAnnounce (raise .rootChanged (helloUpPorts (rootwardSet new s))))).applyRtu s.rtu.referenceLost
    else recommit (sendAnnounce (raise .rootChanged (helloUpPorts (rootwardSet new s)))) := by
  have hrtu : (recommit (sendAnnounce (raise .rootChanged (helloUpPorts (rootwardSet new s))))).rtu = s.rtu := by
    rw [recommit_rtu, sendAnnounce_withPorts, helloUpPorts_withPorts, rootwardSet, purgeLost_eq]
    rfl
  rw [← hrtu]
  rfl

theorem rootwardSet_topo (new : Option PortId) (s : State) :
    (recommit (sendAnnounce (raise .rootChanged (helloUpPorts (rootwardSet new s))))).topo = (rootwardSet new s).topo := by
  rw [recommit_topo, sendAnnounce_withPorts, helloUpPorts_withPorts]
  rfl

/-- R31: what a rootward change leaves in the topology record. -/
theorem rootwardChange_topo (new : Option PortId) (s : State) : ∃ d, (rootwardChange new s).topo = { s.topo with
    rootward := new, hops := new.map (fun p => s.markHops p + 1), rootwardChanges := bump s.topo.rootwardChanges
    directory := d } := by
  refine ⟨(rootwardSet new s).topo.directory, ?_⟩
  have hset : (rootwardSet new s).topo = { s.topo with
      rootward := new, hops := new.map (fun p => s.markHops p + 1), rootwardChanges := bump s.topo.rootwardChanges
      directory := (rootwardSet new s).topo.directory } := by
    unfold rootwardSet
    rw [purgeLost_eq]
    rfl
  rw [← hset, rootwardChange_eq]
  split
  · rw [applyRtu_frame]
    exact rootwardSet_topo new s
  · exact rootwardSet_topo new s

/-- R31, R56: what it leaves of the timebase. -/
theorem rootwardChange_rtu (new : Option PortId) (s : State) :
    (rootwardChange new s).rtu = if s.topo.rootward.isSome then s.rtu.referenceLost.1 else s.rtu := by
  rw [rootwardChange_eq]
  split
  · rw [applyRtu_frame]
  · rw [recommit_rtu, sendAnnounce_withPorts, helloUpPorts_withPorts, rootwardSet, purgeLost_eq]
    rfl

theorem rootwardSet_event (new : Option PortId) (s : State) (k : Nat) : (rootwardSet new s).event k = s.event k :=
  purgeLost_event s _ k

theorem event_withPorts (s t : State) (k : Nat) : (s.withPorts t).event k = s.event k := rfl

/-- R31: a rootward change raises ROOT_CHANGED, and the events of a lost reference; what is Pending stays so. -/
theorem rootwardChange_pending {new : Option PortId} {k : Nat} (h : k = EventKind.rootChanged.code ∨
      (s.event k).pending = true ∨ (s.topo.rootward.isSome = true ∧ k ∈ s.rtu.referenceLost.2.map EventKind.code)) :
    ((rootwardChange new s).event k).pending = true := by
  have hkeep : (s.event k).pending = true ∨ k = EventKind.rootChanged.code →
      ((recommit (sendAnnounce (raise .rootChanged (helloUpPorts (rootwardSet new s))))).event k).pending = true := fun hk => by
    refine pending_recommit ?_
    rw [sendAnnounce_withPorts, event_withPorts]
    refine pending_raise (hk.imp_left (fun hk => ?_))
    rwa [helloUpPorts_withPorts, event_withPorts, rootwardSet_event]
  rw [rootwardChange_eq]
  split
  · next hsome =>
    refine pending_applyRtu ?_
    rcases h with h | h | h
    · exact .inl (hkeep (.inr h))
    · exact .inl (hkeep (.inl h))
    · exact .inr h.2
  · next hsome =>
    refine hkeep ?_
    rcases h with h | h | h
    · exact .inr h
    · exact .inl h
    · exact absurd h.1 hsome

/-! ## The best candidate (R27) -/

theorem isCandidate_iff : s.isCandidate p = true ↔ (s.port p).state = .up ∧
    (∀ q, (s.port p).peer = some q → q.rootward = false) ∧ ∃ m, s.topo.mark p = some m ∧ m.age < 3 := by
  unfold State.isCandidate State.isUp Port.peerClaims
  cases hpeer : (s.port p).peer <;> cases hmark : s.topo.mark p <;> simp [and_assoc]

/-- R29: with one port lost, the other is the best candidate, or none is. -/
theorem bestCandidate_lost (s : State) (p : PortId) :
    s.bestCandidate (some p) = if s.isCandidate p.other then some p.other else none := by
  cases p <;> simp [State.bestCandidate, PortId.other] <;> rfl

/-- Settles O28. -/
theorem timeLimitsAct : Obligations.TimeLimitsAct := by
  intro s
  refine ⟨fun ⟨haged, hsorted⟩ => ?seen, fun p m ⟨hroot, hmark, hage⟩ => ?stale, fun ⟨hs, hgap⟩ => ?track, fun ⟨hs, hgap⟩ => ?acquire,
    fun ⟨hs, hlimit⟩ => ?limit, ⟨_, rfl, rfl, fun hs => ?_, fun hs => ?_⟩⟩
  case seen =>
    refine ⟨ageSeen s, ?_, rfl, seen_ageSeen hsorted⟩
    show Host.Outcome.next (ageOutSeen s) = _
    simp only [ageOutSeen, haged, Bool.false_eq_true, if_false]
  case stale =>
    obtain ⟨d, htopo⟩ := rootwardChange_topo (s.bestCandidate (some p)) s
    have hsome : s.topo.rootward.isSome = true := by rw [hroot]; rfl
    have hlost : dropStaleRootward s = rootwardChange (s.bestCandidate (some p)) s := by
      simp only [dropStaleRootward, hroot, hmark, if_pos hage, rootwardLost]
    refine ⟨rootwardChange (s.bestCandidate (some p)) s, congrArg Host.Outcome.next hlost, ?_⟩
    rw [rootwardChange_rtu, if_pos hsome, htopo, bestCandidate_lost]
    refine ⟨rfl, ?_, fun m1 ⟨hup, hpeer, hm1, hage1⟩ => ?_, fun hnone => ?_, rfl, rfl, fun hnone => ?_,
      rootwardChange_pending (.inl rfl), fun hs => by simp only [Rtu.referenceLost, hs],
      fun hs => by simp only [Rtu.referenceLost, hs]⟩
    · split
      · cases p <;> simp [PortId.other]
      · simp
    · rw [if_pos (isCandidate_iff.mpr ⟨hup, hpeer, m1, hm1, hage1⟩)]
      simp [State.markHops, hm1]
    · refine if_neg (fun hcand => ?_)
      obtain ⟨hup, hpeer, m1, hm1, hage1⟩ := isCandidate_iff.mp hcand
      rcases hnone with h | ⟨q, hq, hclaim⟩ | h
      · exact h hup
      · rw [hpeer q hq] at hclaim
        cases hclaim
      · have := h m1 hm1
        omega
    · exact congrArg (Option.map (fun p => s.markHops p + 1)) hnone
  case track =>
    have hmean : s.rtu.meanTrim =
        if s.rtu.trimHistory = [] then s.rtu.trim else divAway s.rtu.trimHistory.sum s.rtu.trimHistory.length := by
      simp only [Rtu.meanTrim, List.length_eq_zero_iff]
    have hlost : loseMarks s.rtu = s.rtu.referenceLost := if_pos ⟨.inr hs, hgap⟩
    show Host.Outcome.next (s.applyRtu (loseMarks s.rtu)) = _
    rw [hlost, ← hmean]
    simp only [Rtu.referenceLost, hs, State.applyRtu, raiseAll, List.foldl_cons, List.foldl_nil]
  case acquire =>
    have hlost : loseMarks s.rtu = s.rtu.referenceLost := if_pos ⟨.inl hs, hgap⟩
    show Host.Outcome.next (s.applyRtu (loseMarks s.rtu)) = _
    rw [hlost]
    simp only [Rtu.referenceLost, hs, State.applyRtu, raiseAll, List.foldl_nil]
  case limit =>
    show Host.Outcome.next (s.applyRtu s.rtu.holdoverOver) = _
    simp only [Rtu.holdoverOver, if_pos (And.intro hs hlimit), State.applyRtu, raiseAll, List.foldl_cons, List.foldl_nil]
  · simp only [Rtu.correction, hs]
  · cases h : s.rtu.state <;> simp_all [Rtu.correction]

/-- Settles O29. -/
theorem otherMarksGoNoFurther : Obligations.OtherMarksGoNoFurther := by
  intro p m s hs
  have hexec : exec (.markReceived p m) s = .next (acceptMark p m s) := congrArg Host.Outcome.next (byState_up _ _ _ _ _ hs)
  rw [hexec]
  refine ⟨fun h => ?overrange, fun ⟨h, hother⟩ => ?alternate, fun ⟨h, hr, hroot, hchild⟩ => ?child⟩
  case overrange =>
    have hclass : s.classifyMark p m = .overrange := if_pos h
    simp only [acceptMark, hclass]
    rfl
  case alternate =>
    have hclass : s.classifyMark p m = .alternate := by
      unfold State.classifyMark
      rw [if_neg (by omega)]
      rcases hother with hr | ⟨hroot, hchild⟩
      · rw [if_pos hr]
      · simp [hroot, hchild]
    simp only [acceptMark, hclass]
    cases p <;> rfl
  case child =>
    have hclass : s.classifyMark p m = .child := by
      unfold State.classifyMark
      rw [if_neg (by omega), if_neg (by rw [hr]; exact Bool.false_ne_true), if_neg hroot, if_pos hchild]
    simp only [acceptMark, hclass]
    rfl

/-- Settles O32. -/
theorem timebaseWrites : Obligations.TimebaseWrites := by
  intro who s ho ha
  refine ⟨fun v => ?trim, fun v hv => ?load, fun w => ?settings⟩
  case trim =>
    by_cases h : s.topo.root = true ∧ -1048576 ≤ v ∧ v ≤ 1048576
    · simp only [if_pos h]
      exact answered_of_accepts rfl ho (if_pos h) ha
    · simp only [if_neg h]
      exact answered_of_accepts rfl ho (if_neg h) ha
  case load =>
    by_cases h : s.topo.root = true
    · simp only [if_pos h]
      refine answered_of_accepts rfl ho ?_ ha
      simp only [writeLoad, Nat.mod_eq_of_lt hv]
      exact if_pos h
    · simp only [if_neg h]
      exact answered_of_accepts rfl ho (if_neg h) ha
  case settings =>
    have hrange : settingsInRange w = true ↔ w.gi ≤ 15 ∧ w.gp ≤ 7 ∧ 1 ≤ w.st ∧ w.st ≤ 65535 ∧ 1 ≤ w.lw ∧ w.lw ≤ 4095 ∧
        w.stepPolicy ≤ 1 ∧ 1 ≤ w.holdoverLimit ∧ w.holdoverLimit ≤ 65535 ∧ w.delayMode ≤ 1 := by
      simp only [settingsInRange, Bool.and_eq_true, decide_eq_true_eq, and_assoc]
    split
    · next h => exact answered_of_accepts rfl ho (if_pos (hrange.mpr h)) ha
    · next h => exact answered_of_accepts rfl ho (if_neg (fun hc => h (hrange.mp hc))) ha

end Sys2Proof.Machine
end

section
/-! SUPPORT. Marks: rounding and clamping, what a servo update leaves, what the timebase states do with a usable mark, and
the statement about the rootward mark. -/

namespace Sys2Proof.Machine

variable {s : State} {p : PortId}

/-! ## Rounding and clamping (R50, R51) -/

theorem divAway_nonneg {x : Int} {d : Nat} (hd : 0 < d) (hx : 0 ≤ x) :
    2 * d * divAway x d ≤ 2 * x + d ∧ 2 * x + d < 2 * d * (divAway x d + 1) := by
  obtain ⟨n, rfl⟩ := Int.eq_ofNat_of_zero_le hx
  have hq : divAway (n : Int) d = ((2 * n + d) / (2 * d) : Nat) := by
    rcases Nat.eq_zero_or_pos n with rfl | hn
    · have : d / (2 * d) = 0 := Nat.div_eq_of_lt (by omega)
      simp [divAway, this]
    · simp only [divAway, Int.natAbs_natCast, Int.sign_eq_one_of_pos (by omega : (0 : Int) < n), one_mul]
  have hle := Nat.mul_div_le (2 * n + d) (2 * d)
  have hlt := Nat.lt_mul_div_succ (2 * n + d) (show 0 < 2 * d by omega)
  rw [hq]
  constructor <;> norm_cast

theorem divAway_neg (x : Int) (d : Nat) : divAway (-x) d = -divAway x d := by
  simp [divAway]

theorem clampInt_eq_iff {m x : Int} (hm : 0 ≤ m) : clampInt m x = x ↔ -m ≤ x ∧ x ≤ m := by
  unfold clampInt; omega

theorem clampInt_above {m x : Int} (hm : 0 ≤ m) (h : m < x.natAbs) : clampInt m x = if 0 ≤ x then m else -m := by
  unfold clampInt
  split <;> omega

/-! ## A servo update (R50, R51) -/

/-- R50, R51: what a servo update with an offset leaves of the timebase record it started from. -/
def ServoDone (x : Int) (r : Rtu) (y : RtuStep) : Prop :=
  let raw := r.trim - divAway (x * 2048) (2 ^ r.gi)
  let corr := y.1.trim - divAway x (2 ^ r.gp) * 2048
  y.1.trim = max (-1048576) (min 1048576 raw) ∧
  y.1.trimClamps = (if raw < -1048576 ∨ 1048576 < raw then bump r.trimClamps else r.trimClamps) ∧
  (raw < -1048576 ∨ 1048576 < raw → EventKind.trimLimit.code ∈ y.2.map EventKind.code) ∧
  y.1.correctionClamps = (if corr < -4194304 ∨ 4194304 < corr then bump r.correctionClamps else r.correctionClamps) ∧
  y.1.slew = some ⟨divAway x (2 ^ r.gp), 131072⟩ ∧ y.1.marksUsed = bump r.marksUsed ∧
  y.1.trimHistory = (if 16 ≤ r.trimHistory.length then r.trimHistory.drop 1 else r.trimHistory) ++ [y.1.trim]

theorem servo_done (x : Int) (r : Rtu) : ServoDone x r (r.servo x) := by
  have hclamp : ∀ {β : Type} (m v : Int) (a b : β), 0 ≤ m →
      (if clampInt m v = v then a else b) = if v < -m ∨ m < v then b else a := fun m v a b hm => by
    rw [if_congr (clampInt_eq_iff hm) rfl rfl]
    split <;> rename_i h <;> [rw [if_neg (by omega)]; rw [if_pos (by omega)]]
  refine ⟨rfl, hclamp _ _ _ _ (by decide), fun h => ?_, hclamp _ _ _ _ (by decide), rfl, rfl, rfl⟩
  have hlimit : (r.servo x).2 = [.trimLimit] := by
    refine if_neg (fun hc => ?_)
    have := (clampInt_eq_iff (by decide : (0 : Int) ≤ trimMax)).mp hc
    unfold trimMax at this
    omega
  rw [hlimit]
  exact List.mem_singleton_self _

/-- R50, R51: what stands in the state once a servo update is done, as the mark's act leaves it. -/
def ServoUpdate (x : Int) (r : Rtu) (t : State) : Prop :=
  let raw := r.trim - divAway (x * 2048) (2 ^ r.gi)
  let corr := t.rtu.trim - divAway x (2 ^ r.gp) * 2048
  t.rtu.trim = max (-1048576) (min 1048576 raw) ∧ t.rtu.correction = max (-4194304) (min 4194304 corr) ∧
  t.rtu.trimClamps = (if raw < -1048576 ∨ 1048576 < raw then bump r.trimClamps else r.trimClamps) ∧
  (raw < -1048576 ∨ 1048576 < raw → (t.event EventKind.trimLimit.code).pending = true) ∧
  t.rtu.correctionClamps =
    (if corr < -4194304 ∨ 4194304 < corr then bump r.correctionClamps else r.correctionClamps) ∧
  t.rtu.slew = some ⟨divAway x (2 ^ r.gp), 131072⟩ ∧ t.rtu.marksUsed = bump r.marksUsed ∧
  t.rtu.trimHistory = (if 16 ≤ r.trimHistory.length then r.trimHistory.drop 1 else r.trimHistory) ++ [t.rtu.trim]

@[simp] theorem applyRtu_rtu (s : State) (x : RtuStep) : (s.applyRtu x).rtu = x.1 := by rw [applyRtu_frame]

theorem ServoDone.update {x : Int} {r : Rtu} {y : RtuStep} (h : ServoDone x r y)
    (hs : y.1.state = .acquire ∨ y.1.state = .track) : ServoUpdate x r (s.applyRtu y) := by
  obtain ⟨htrim, hclamps, hevent, hcorr, hslew, hused, hhist⟩ := h
  have hcorrection : y.1.correction = clampInt correctionMax (y.1.trim - divAway x (2 ^ r.gp) * 2048) := by
    rcases hs with hs | hs <;> simp only [Rtu.correction, hs, hslew]
  refine ⟨?_, ?_, ?_, fun hraw => pending_applyRtu (.inr (hevent hraw)), ?_, ?_, ?_, ?_⟩ <;> rw [applyRtu_rtu]
  exacts [htrim, hcorrection, hclamps, hcorr, hslew, hused, hhist]

/-! ## Usable marks (R53 to R57) -/

/-- R55: what the Lock Count does. -/
theorem countLock_eq (θ : Int) (x : RtuStep) : Rtu.countLock θ x =
    if θ.natAbs ≤ x.1.lw then
      if 8 ≤ x.1.lockCount + 1 then
        ({ x.1 with state := .track, lockCount := 0, wideCount := 0, outlierCount := 0, pendingStep := none }, x.2 ++ [.locked])
      else ({ x.1 with lockCount := x.1.lockCount + 1 }, x.2)
    else ({ x.1 with lockCount := 0 }, x.2) := rfl

theorem ServoDone.countLock {x θ : Int} {r : Rtu} {y : RtuStep} (h : ServoDone x r y) : ServoDone x r (Rtu.countLock θ y) := by
  obtain ⟨htrim, hclamps, hevent, hrest⟩ := h
  rw [countLock_eq]
  split
  · split
    · exact ⟨htrim, hclamps, fun hraw => by rw [List.map_append]; exact List.mem_append_left _ (hevent hraw), hrest⟩
    · exact ⟨htrim, hclamps, hevent, hrest⟩
  · exact ⟨htrim, hclamps, hevent, hrest⟩

/-- R47, R54: the timebase record as a usable mark finds it in ACQUIRE, entered from FREE or HOLDOVER where it was there. -/
def Rtu.acquiring (θ : Int) (e : Nat) (r : Rtu) : Rtu :=
  if r.state = .acquire then { r with lastOffset := some θ, lastMarkEpoch := e, markGap := 0 }
  else { r with
    lastOffset := some θ, lastMarkEpoch := e, markGap := 0, state := .acquire, lockCount := 0, wideCount := 0
    outlierCount := 0, holdoverEpochs := 0 }

theorem usableMark_acquiring {θ : Int} {e : Nat} {r : Rtu} (h : r.state = .free ∨ r.state = .holdover ∨ r.state = .acquire) :
    r.usableMark θ e = Rtu.acquireMark θ (r.acquiring θ e) := by
  rcases h with h | h | h <;> simp only [Rtu.usableMark, Rtu.acquiring, Rtu.enterAcquire, h]
  · rfl
  · rfl
  · rfl

/-- R51, R52: what a usable mark does in ACQUIRE before it is counted. -/
def Rtu.beforeCount (θ : Int) (r : Rtu) : RtuStep :=
  if θ.natAbs ≤ r.st * 16 then Rtu.servo θ { r with pendingStep := none }
  else if r.stepAllowed then ({ r with pendingStep := some (-θ), lockCount := 0 }, [])
  else Rtu.servo (if 0 ≤ θ then r.st * 16 else -(r.st * 16)) r

theorem acquireMark_eq (θ : Int) (r : Rtu) : r.acquireMark θ = Rtu.countLock θ (r.beforeCount θ) := by
  have hthreshold : r.threshold.natAbs = r.st * 16 := by unfold Rtu.threshold; omega
  rw [Rtu.acquireMark, hthreshold, Rtu.beforeCount]
  split
  · rfl
  · next h =>
    have hclamp : clampInt r.threshold θ = if 0 ≤ θ then (r.st : Int) * 16 else -((r.st : Int) * 16) :=
      clampInt_above (by unfold Rtu.threshold; omega) (by unfold Rtu.threshold; omega)
    rw [hclamp]

theorem beforeCount_near {θ : Int} {r : Rtu} (h : θ.natAbs ≤ r.st * 16) :
    r.beforeCount θ = Rtu.servo θ { r with pendingStep := none } := if_pos h

theorem beforeCount_step {θ : Int} {r : Rtu} (h : ¬θ.natAbs ≤ r.st * 16) (hstep : r.stepAllowed = true) :
    r.beforeCount θ = ({ r with pendingStep := some (-θ), lockCount := 0 }, []) := (if_neg h).trans (if_pos hstep)

theorem beforeCount_never {θ : Int} {r : Rtu} (h : ¬θ.natAbs ≤ r.st * 16) (hstep : r.stepAllowed = false) :
    r.beforeCount θ = Rtu.servo (if 0 ≤ θ then r.st * 16 else -(r.st * 16)) r :=
  (if_neg h).trans (if_neg (by rw [hstep]; exact Bool.false_ne_true))

theorem beforeCount_keeps (θ : Int) (r : Rtu) : (r.beforeCount θ).1.holdoverEpochs = r.holdoverEpochs ∧
    (r.beforeCount θ).1.wideCount = r.wideCount ∧ (r.beforeCount θ).1.outlierCount = r.outlierCount ∧
    (r.beforeCount θ).1.state = r.state ∧ (r.beforeCount θ).1.lw = r.lw := by
  unfold Rtu.beforeCount
  split
  · exact ⟨rfl, rfl, rfl, rfl, rfl⟩
  · split <;> exact ⟨rfl, rfl, rfl, rfl, rfl⟩

theorem trackMark_eq (θ : Int) (r : Rtu) : r.trackMark θ =
    if θ.natAbs ≤ r.st * 16 then
      if θ.natAbs ≤ r.lw then
        ({ (Rtu.servo θ { r with outlierCount := 0 }).1 with wideCount := 0 }, (Rtu.servo θ { r with outlierCount := 0 }).2)
      else if 16 ≤ r.wideCount + 1 then
        ((Rtu.servo θ { r with outlierCount := 0 }).1.unlock, (Rtu.servo θ { r with outlierCount := 0 }).2 ++ [.unlocked])
      else ({ (Rtu.servo θ { r with outlierCount := 0 }).1 with wideCount := r.wideCount + 1 },
        (Rtu.servo θ { r with outlierCount := 0 }).2)
    else if 4 ≤ r.outlierCount + 1 then ({ r with outliers := bump r.outliers : Rtu }.unlock, [.unlocked])
    else ({ r with outliers := bump r.outliers, outlierCount := r.outlierCount + 1 }, []) := by
  have hthreshold : r.threshold.natAbs = r.st * 16 := by unfold Rtu.threshold; omega
  rw [Rtu.trackMark, hthreshold]

/-! ## The rootward mark (R26, R46) -/

/-- R26, R46: the state once a rootward mark is recorded and forwarded. -/
def forwardedMark (p : PortId) (m : Mark) (s : State) : State :=
  let s1 := (recordMark p m s).updTopo (fun t => { t with hops := some (m.hops + 1) })
  if s.isUp p.other then
    s1.updPort p.other (fun r => r.offerTiming (.fwdMark p s.rtu.stamp { m with hops := m.hops + 1 } (s.port p).validDelay false))
  else s1

theorem acceptMark_rootward {m : Mark} (hroot : s.topo.root = false) (hrw : s.topo.rootward = some p) (hh : m.hops < 31) :
    acceptMark p m s = if m.correction < 2 ^ 32 - 1 ∧ (s.port p).delayValid = true then
      (forwardedMark p m s).applyRtu (s.rtu.usableMark (markOffset s.rtu.stamp m (s.port p).delay) m.epoch)
    else { forwardedMark p m s with rtu := { s.rtu with marksUnusable := bump s.rtu.marksUnusable } } := by
  have hclass : s.classifyMark p m = .rootward := by
    unfold State.classifyMark
    rw [if_neg (by omega), if_neg (by rw [hroot]; exact Bool.false_ne_true), if_pos hrw]
  have hrtu : (forwardedMark p m s).rtu = s.rtu := by
    unfold forwardedMark
    dsimp only
    split
    · rw [State.updPort_rtu]; rfl
    · rfl
  have hup : ((recordMark p m s).updTopo (fun t => { t with hops := some (m.hops + 1) })).isUp p.other = s.isUp p.other := by
    cases p <;> rfl
  have hacc : acceptMark p m s = if m.correction < 2 ^ 32 - 1 ∧ (s.port p).delayValid = true then
      (forwardedMark p m s).applyRtu ((forwardedMark p m s).rtu.usableMark
        (markOffset s.rtu.stamp m (s.port p).delay) m.epoch)
    else { forwardedMark p m s with rtu := { (forwardedMark p m s).rtu with
      marksUnusable := bump (forwardedMark p m s).rtu.marksUnusable } } := by
    simp only [acceptMark, hclass, hup]
    rfl
  rw [hacc, hrtu]

/-- R26, R46: what recording and forwarding a mark touch. -/
theorem forwardedMark_frame (m : Mark) : forwardedMark p m s = { s with
    topo := { s.topo.setMark p (some ⟨m.hops, s.rtu.epoch, 0⟩) with hops := some (m.hops + 1) }
    port0 := (forwardedMark p m s).port0, port1 := (forwardedMark p m s).port1 } := by
  unfold forwardedMark
  dsimp only
  split
  · cases p <;> rfl
  · rfl

theorem forwardedMark_port (m : Mark) : (forwardedMark p m s).port p = s.port p := by
  unfold forwardedMark
  dsimp only
  split <;> cases p <;> rfl

theorem forwardedMark_port_other (m : Mark) : (forwardedMark p m s).port p.other = if s.isUp p.other then
    (s.port p.other).offerTiming (.fwdMark p s.rtu.stamp { m with hops := m.hops + 1 } (s.port p).validDelay false)
    else s.port p.other := by
  unfold forwardedMark
  dsimp only
  split <;> cases p <;> rfl

/-- R47: the timebase record with the mark noted. -/
def Rtu.noting (θ : Int) (e : Nat) (r : Rtu) : Rtu := { r with lastOffset := some θ, lastMarkEpoch := e, markGap := 0 }

theorem usableMark_track {θ : Int} {e : Nat} {r : Rtu} (h : r.state = .track) :
    r.usableMark θ e = Rtu.trackMark θ (r.noting θ e) := by
  simp only [Rtu.usableMark, Rtu.noting, h]

/-- R47: a record in which a mark is noted, and no more than a servo update or the state machine changed. -/
def Noted (θ : Int) (e : Nat) (r r' : Rtu) : Prop :=
  r'.lastOffset = some θ ∧ r'.lastMarkEpoch = e ∧ r'.markGap = 0 ∧ r'.rackTime = r.rackTime ∧ r'.epoch = r.epoch ∧
    r'.rootTrim = r.rootTrim

theorem countLock_noted {θ : Int} {e : Nat} {r : Rtu} {y : RtuStep} (h : Noted θ e r y.1) :
    Noted θ e r (Rtu.countLock θ y).1 := by
  rw [countLock_eq]
  split
  · split <;> exact h
  · exact h

theorem acquireMark_noted {θ : Int} {e : Nat} {r : Rtu} : Noted θ e r ((r.acquiring θ e).acquireMark θ).1 := by
  have hacquiring : Noted θ e r (r.acquiring θ e) := by
    unfold Rtu.acquiring
    split <;> exact ⟨rfl, rfl, rfl, rfl, rfl, rfl⟩
  rw [acquireMark_eq]
  refine countLock_noted ?_
  unfold Rtu.beforeCount
  split
  · exact hacquiring
  · split <;> exact hacquiring

theorem trackMark_noted {θ : Int} {e : Nat} {r : Rtu} : Noted θ e r ((r.noting θ e).trackMark θ).1 := by
  have hnoting : Noted θ e r (r.noting θ e) := ⟨rfl, rfl, rfl, rfl, rfl, rfl⟩
  rw [trackMark_eq]
  split
  · split
    · exact hnoting
    · split <;> exact hnoting
  · split <;> exact hnoting

/-- R46: what the act of a rootward mark leaves of the ports and the topology record, whatever it does to the timebase. -/
theorem forwardedMark_leaves (m : Mark) :
    (forwardedMark p m s).topo = { s.topo.setMark p (some ⟨m.hops, s.rtu.epoch, 0⟩) with hops := some (m.hops + 1) } ∧
    (s.isUp p.other = true ∧ (s.port p.other).qTiming.length < 8 → ((forwardedMark p m s).port p.other).qTiming =
      (s.port p.other).qTiming ++ [.fwdMark p s.rtu.stamp { m with hops := m.hops + 1 } (s.port p).validDelay false]) ∧
    (s.isUp p.other = false → (forwardedMark p m s).port p.other = s.port p.other) := by
  refine ⟨by rw [forwardedMark_frame], fun ⟨hup, hroom⟩ => ?_, fun hup => ?_⟩
  · rw [forwardedMark_port_other, if_pos hup, Port.offerTiming, if_pos hroom]
  · rw [forwardedMark_port_other, hup, if_neg Bool.false_ne_true]

@[simp] theorem port_applyRtu (s : State) (x : RtuStep) (q : PortId) : (s.applyRtu x).port q = s.port q := by
  rw [applyRtu_frame]
  cases q <;> rfl

theorem servo_done_of {x : Int} {r r' : Rtu} (h : r'.trim = r.trim ∧ r'.gi = r.gi ∧ r'.gp = r.gp ∧
      r'.trimClamps = r.trimClamps ∧ r'.correctionClamps = r.correctionClamps ∧ r'.marksUsed = r.marksUsed ∧
      r'.trimHistory = r.trimHistory) : ServoDone x r (r'.servo x) := by
  obtain ⟨htrim, hgi, hgp, htc, hcc, hused, hhist⟩ := h
  have hdone := servo_done x r'
  simpa only [ServoDone, htrim, hgi, hgp, htc, hcc, hused, hhist] using hdone

/-- R57: a mark in TRACK within the threshold drives the servo; within the Lock Window it clears Wide Count, and beyond
it the sixteenth returns to ACQUIRE. -/
theorem trackMark_near {θ : Int} {e : Nat} {r : Rtu} (hstate : r.state = .track) (hnear : θ.natAbs ≤ r.st * 16) :
    ServoUpdate θ r (s.applyRtu ((r.noting θ e).trackMark θ)) ∧
    (s.applyRtu ((r.noting θ e).trackMark θ)).rtu.outlierCount = 0 ∧
    (θ.natAbs ≤ r.lw → (s.applyRtu ((r.noting θ e).trackMark θ)).rtu.wideCount = 0 ∧
      (s.applyRtu ((r.noting θ e).trackMark θ)).rtu.state = .track) ∧
    (¬θ.natAbs ≤ r.lw →
      (r.wideCount + 1 < 16 → (s.applyRtu ((r.noting θ e).trackMark θ)).rtu.state = .track ∧
        (s.applyRtu ((r.noting θ e).trackMark θ)).rtu.wideCount = r.wideCount + 1) ∧
      (16 ≤ r.wideCount + 1 → (s.applyRtu ((r.noting θ e).trackMark θ)).rtu.state = .acquire ∧
        (s.applyRtu ((r.noting θ e).trackMark θ)).rtu.lockCount = 0 ∧
        (s.applyRtu ((r.noting θ e).trackMark θ)).rtu.wideCount = 0 ∧
        ((s.applyRtu ((r.noting θ e).trackMark θ)).event EventKind.unlocked.code).pending = true)) := by
  have hdone : ServoDone θ r (Rtu.servo θ { r.noting θ e with outlierCount := 0 }) :=
    servo_done_of ⟨rfl, rfl, rfl, rfl, rfl, rfl, rfl⟩
  obtain ⟨htrim, hclamps, hevent, hrest⟩ := hdone
  rw [trackMark_eq, if_pos (show θ.natAbs ≤ (r.noting θ e).st * 16 from hnear)]
  by_cases hwin : θ.natAbs ≤ r.lw
  · rw [if_pos (show θ.natAbs ≤ (r.noting θ e).lw from hwin)]
    refine ⟨ServoDone.update ⟨htrim, hclamps, hevent, hrest⟩ (.inr hstate), ?_, fun _ => ⟨?_, ?_⟩, fun h => absurd hwin h⟩ <;>
      rw [applyRtu_rtu]
    · rfl
    · exact hstate
  · rw [if_neg (show ¬θ.natAbs ≤ (r.noting θ e).lw from hwin)]
    by_cases hwide : 16 ≤ r.wideCount + 1
    · rw [if_pos (show 16 ≤ (r.noting θ e).wideCount + 1 from hwide)]
      refine ⟨ServoDone.update ⟨htrim, hclamps, fun h => ?_, hrest⟩ (.inl rfl), ?_, fun h => absurd h hwin, fun _ =>
        ⟨fun h => absurd h (by omega), fun _ => ⟨?_, ?_, ?_, pending_applyRtu (.inr ?_)⟩⟩⟩
      · rw [List.map_append]; exact List.mem_append_left _ (hevent h)
      any_goals rw [applyRtu_rtu]; rfl
      · simp
    · rw [if_neg (show ¬16 ≤ (r.noting θ e).wideCount + 1 from hwide)]
      refine ⟨ServoDone.update ⟨htrim, hclamps, hevent, hrest⟩ (.inr hstate), ?_, fun h => absurd h hwin, fun _ =>
        ⟨fun _ => ⟨?_, ?_⟩, fun h => absurd h hwide⟩⟩ <;> rw [applyRtu_rtu]
      · rfl
      · exact hstate
      · rfl

/-- R53: a mark in TRACK beyond the threshold is an outlier, and the fourth in a row returns to ACQUIRE. -/
theorem trackMark_far {θ : Int} {e : Nat} {r : Rtu} (hstate : r.state = .track) (hfar : ¬θ.natAbs ≤ r.st * 16) :
    ((r.noting θ e).trackMark θ).1.trim = r.trim ∧ ((r.noting θ e).trackMark θ).1.slew = r.slew ∧
    ((r.noting θ e).trackMark θ).1.trimHistory = r.trimHistory ∧ ((r.noting θ e).trackMark θ).1.marksUsed = r.marksUsed ∧
    ((r.noting θ e).trackMark θ).1.outliers = bump r.outliers ∧
    (r.outlierCount + 1 < 4 → ((r.noting θ e).trackMark θ).1.state = .track ∧
      ((r.noting θ e).trackMark θ).1.outlierCount = r.outlierCount + 1 ∧
      ((r.noting θ e).trackMark θ).1.lockCount = r.lockCount ∧ ((r.noting θ e).trackMark θ).1.wideCount = r.wideCount) ∧
    (4 ≤ r.outlierCount + 1 → (r.noting θ e).trackMark θ =
      ({ r.noting θ e with
          outliers := bump r.outliers, state := .acquire, lockCount := 0, wideCount := 0, outlierCount := 0 },
        [.unlocked])) := by
  rw [trackMark_eq, if_neg (show ¬θ.natAbs ≤ (r.noting θ e).st * 16 from hfar)]
  by_cases hout : 4 ≤ r.outlierCount + 1
  · rw [if_pos (show 4 ≤ (r.noting θ e).outlierCount + 1 from hout)]
    exact ⟨rfl, rfl, rfl, rfl, rfl, fun h => absurd hout (by omega), fun _ => rfl⟩
  · rw [if_neg (show ¬4 ≤ (r.noting θ e).outlierCount + 1 from hout)]
    exact ⟨rfl, rfl, rfl, rfl, rfl, fun _ => ⟨hstate, rfl, rfl, rfl⟩, fun h => absurd h hout⟩

/-- R54: how the record found in ACQUIRE compares with that before the mark. -/
theorem acquiring_fields (θ : Int) (e : Nat) (r : Rtu) :
    ((r.acquiring θ e).trim = r.trim ∧ (r.acquiring θ e).gi = r.gi ∧ (r.acquiring θ e).gp = r.gp ∧
      (r.acquiring θ e).trimClamps = r.trimClamps ∧ (r.acquiring θ e).correctionClamps = r.correctionClamps ∧
      (r.acquiring θ e).marksUsed = r.marksUsed ∧ (r.acquiring θ e).trimHistory = r.trimHistory) ∧
    (r.acquiring θ e).slew = r.slew ∧ (r.acquiring θ e).st = r.st ∧ (r.acquiring θ e).lw = r.lw ∧
    (r.acquiring θ e).stepAllowed = r.stepAllowed ∧ (r.acquiring θ e).state = .acquire ∧
    (r.acquiring θ e).lockCount = (if r.state = .acquire then r.lockCount else 0) ∧
    (r.state ≠ .acquire → (r.acquiring θ e).holdoverEpochs = 0 ∧ (r.acquiring θ e).wideCount = 0 ∧
      (r.acquiring θ e).outlierCount = 0) := by
  unfold Rtu.acquiring
  split
  · next h => exact ⟨⟨rfl, rfl, rfl, rfl, rfl, rfl, rfl⟩, rfl, rfl, rfl, rfl, h, rfl, fun hne => absurd h hne⟩
  · exact ⟨⟨rfl, rfl, rfl, rfl, rfl, rfl, rfl⟩, rfl, rfl, rfl, rfl, rfl, rfl, fun _ => ⟨rfl, rfl, rfl⟩⟩

/-- R55: what counting a mark leaves alone. -/
theorem countLock_keeps (θ : Int) (y : RtuStep) :
    (Rtu.countLock θ y).1.trim = y.1.trim ∧ (Rtu.countLock θ y).1.slew = y.1.slew ∧
    (Rtu.countLock θ y).1.trimHistory = y.1.trimHistory ∧ (Rtu.countLock θ y).1.marksUsed = y.1.marksUsed ∧
    (Rtu.countLock θ y).1.holdoverEpochs = y.1.holdoverEpochs ∧
    (y.1.wideCount = 0 → (Rtu.countLock θ y).1.wideCount = 0) ∧
    (y.1.outlierCount = 0 → (Rtu.countLock θ y).1.outlierCount = 0) ∧
    (y.1.state = .acquire → (Rtu.countLock θ y).1.state = .acquire ∨ (Rtu.countLock θ y).1.state = .track) ∧
    (y.1.pendingStep = none → (Rtu.countLock θ y).1.pendingStep = none) := by
  rw [countLock_eq]
  split
  · split
    · exact ⟨rfl, rfl, rfl, rfl, rfl, fun _ => rfl, fun _ => rfl, fun _ => .inr rfl, fun _ => rfl⟩
    · exact ⟨rfl, rfl, rfl, rfl, rfl, id, id, .inl, id⟩
  · exact ⟨rfl, rfl, rfl, rfl, rfl, id, id, .inl, id⟩

theorem countLock_out {θ : Int} {y : RtuStep} (h : ¬θ.natAbs ≤ y.1.lw) :
    Rtu.countLock θ y = ({ y.1 with lockCount := 0 }, y.2) := by rw [countLock_eq, if_neg h]

theorem countLock_low {θ : Int} {y : RtuStep} (h : θ.natAbs ≤ y.1.lw) (hlow : y.1.lockCount + 1 < 8) :
    Rtu.countLock θ y = ({ y.1 with lockCount := y.1.lockCount + 1 }, y.2) := by
  rw [countLock_eq, if_pos h, if_neg (by omega)]

theorem countLock_eighth {θ : Int} {y : RtuStep} (h : θ.natAbs ≤ y.1.lw) (hhigh : 8 ≤ y.1.lockCount + 1) :
    Rtu.countLock θ y = ({ y.1 with state := .track, lockCount := 0, wideCount := 0, outlierCount := 0, pendingStep := none },
      y.2 ++ [.locked]) := by rw [countLock_eq, if_pos h, if_pos hhigh]

/-- Settles O30. -/
theorem rootwardMarkDrivesTheServo : Obligations.RootwardMarkDrivesTheServo := by
  refine ⟨fun x d hd => ⟨divAway_nonneg hd, fun hx => ?negative⟩, fun p m s hs hroot hrw hh => ?_⟩
  case negative =>
    have hneg : divAway x d = -divAway (-x) d := by rw [← divAway_neg, neg_neg]
    have h := divAway_nonneg hd (show 0 ≤ -x by omega)
    rw [hneg]
    generalize divAway (-x) d = q at h
    constructor <;> nlinarith [h.1, h.2]
  have hexec : exec (.markReceived p m) s = .next (acceptMark p m s) :=
    congrArg Host.Outcome.next (byState_up _ _ _ _ _ hs)
  rw [hexec, acceptMark_rootward hroot hrw hh]
  have hoffset : markOffset s.rtu.stamp m (s.port p).delay =
      (BitVec.ofNat 60 (s.rtu.rackTime.toNat / 2 ^ 28) - BitVec.ofNat 60 (m.origin + m.correction + (s.port p).delay)).toInt := rfl
  dsimp only
  rw [hoffset]
  generalize (BitVec.ofNat 60 (s.rtu.rackTime.toNat / 2 ^ 28) -
    BitVec.ofNat 60 (m.origin + m.correction + (s.port p).delay)).toInt = θ
  obtain ⟨htopo, hfwd, hnofwd⟩ := forwardedMark_leaves (s := s) (p := p) m
  have hport := forwardedMark_port (s := s) (p := p) m
  have hframe := forwardedMark_frame (s := s) (p := p) m
  refine ⟨fun husable hstate hnear hwin => ?within, fun hunusable => ?unusable, fun husable hstate => ?acquire,
    fun husable hstate => ?track⟩
  case within =>
    have hdelay : (s.port p).validDelay = some (s.port p).delay := if_pos husable.2
    obtain ⟨hupdate, hout, hin, -⟩ := trackMark_near (s := forwardedMark p m s) (e := m.epoch) hstate hnear
    obtain ⟨hwide, htrack⟩ := hin hwin
    refine ⟨_, congrArg Host.Outcome.next ((if_pos husable).trans (by rw [usableMark_track hstate])), ?_, ?_, hupdate, hwide,
      hout, htrack, ?_, ?_, ?_, ?_, ?_, ?_, ?_, ?_⟩
    · rw [applyRtu_frame]; exact htopo
    · rw [applyRtu_rtu]; exact trackMark_noted
    · rw [port_applyRtu, ← hdelay]; exact hfwd
    · rw [port_applyRtu]; exact hnofwd
    · rw [port_applyRtu]; exact hport
    all_goals rw [applyRtu_frame, hframe]
  case unusable =>
    refine ⟨_, congrArg Host.Outcome.next (if_neg hunusable), rfl, htopo, hfwd, ?_, hport, ?_, ?_⟩ <;> rw [hframe]
  case acquire =>
    obtain ⟨hsame, hslew, hst, hlw, hallowed, hacq, hcount, hentered⟩ := acquiring_fields θ m.epoch s.rtu
    obtain ⟨bhold, bwide, bout, bstate, blw⟩ := beforeCount_keeps θ (s.rtu.acquiring θ m.epoch)
    obtain ⟨ktrim, kslew, khist, kused, khold, kwide, kout, kstate, kstep⟩ :=
      countLock_keeps θ ((s.rtu.acquiring θ m.epoch).beforeCount θ)
    refine ⟨_, congrArg Host.Outcome.next ((if_pos husable).trans
      (by rw [usableMark_acquiring hstate, acquireMark_eq])), ?_, fun hne => ?entered, fun ⟨hfar, hallow⟩ => ?step,
      fun ⟨hfar, hnever⟩ => ?never, fun hnear => ?near⟩
    · rw [applyRtu_rtu, ← acquireMark_eq]; exact acquireMark_noted
    case entered =>
      obtain ⟨hhold, hwide, hout⟩ := hentered hne
      rw [applyRtu_rtu]
      exact ⟨khold.trans (bhold.trans hhold), kwide (bwide.trans hwide), kout (bout.trans hout)⟩
    case step =>
      have hbefore := beforeCount_step (θ := θ) (r := s.rtu.acquiring θ m.epoch) (by rwa [hst]) (by rwa [hallowed])
      have hzero : ((s.rtu.acquiring θ m.epoch).beforeCount θ).1.lockCount = 0 := by rw [hbefore]
      have hpend : ((s.rtu.acquiring θ m.epoch).beforeCount θ).1.pendingStep = some (-θ) := by rw [hbefore]
      have hkept : ((s.rtu.acquiring θ m.epoch).beforeCount θ).1.trim = s.rtu.trim ∧
          ((s.rtu.acquiring θ m.epoch).beforeCount θ).1.slew = s.rtu.slew ∧
          ((s.rtu.acquiring θ m.epoch).beforeCount θ).1.trimHistory = s.rtu.trimHistory ∧
          ((s.rtu.acquiring θ m.epoch).beforeCount θ).1.marksUsed = s.rtu.marksUsed := by
        rw [hbefore]
        exact ⟨hsame.1, hslew, hsame.2.2.2.2.2.2, hsame.2.2.2.2.2.1⟩
      rw [applyRtu_rtu, ktrim, kslew, khist, kused]
      refine ⟨hkept, ?_⟩
      by_cases hin : θ.natAbs ≤ s.rtu.lw
      · rw [countLock_low (by rwa [blw, hlw]) (by rw [hzero]; decide)]
        exact ⟨bstate.trans hacq, hpend, fun hout => absurd hin hout⟩
      · rw [countLock_out (by rwa [blw, hlw])]
        exact ⟨bstate.trans hacq, hpend, fun _ => rfl⟩
    case never =>
      have hbefore := beforeCount_never (θ := θ) (r := s.rtu.acquiring θ m.epoch) (by rwa [hst]) (by rwa [hallowed])
      rw [hst] at hbefore
      refine ⟨ServoDone.update (ServoDone.countLock (hbefore ▸ servo_done_of hsame)) (kstate (bstate.trans hacq)), fun hout => ?_⟩
      rw [applyRtu_rtu, countLock_out (by rwa [blw, hlw])]
      exact ⟨bstate.trans hacq, rfl⟩
    case near =>
      have hbefore := beforeCount_near (θ := θ) (r := s.rtu.acquiring θ m.epoch) (by rwa [hst])
      have hlock : ((s.rtu.acquiring θ m.epoch).beforeCount θ).1.lockCount = if s.rtu.state = .acquire then s.rtu.lockCount else 0 := by
        rw [hbefore]; exact hcount
      refine ⟨ServoDone.update (ServoDone.countLock (hbefore ▸ servo_done_of hsame)) (kstate (bstate.trans hacq)), fun _ => ?_,
        fun hout => ?_, fun ⟨hin, hlow⟩ => ?_, fun ⟨hin, hhigh⟩ => ?_⟩
      · rw [applyRtu_rtu]; exact kstep (by rw [hbefore]; rfl)
      · rw [applyRtu_rtu, countLock_out (by rwa [blw, hlw])]
        exact ⟨bstate.trans hacq, rfl⟩
      · rw [applyRtu_rtu, countLock_low (by rwa [blw, hlw]) (by rwa [hlock])]
        exact ⟨bstate.trans hacq, by rw [hlock]⟩
      · rw [countLock_eighth (by rwa [blw, hlw]) (by rwa [hlock]), applyRtu_rtu]
        exact ⟨rfl, rfl, rfl, rfl, pending_applyRtu (.inr (by simp))⟩
  case track =>
    refine ⟨_, congrArg Host.Outcome.next ((if_pos husable).trans (by rw [usableMark_track hstate])), ?_,
      fun ⟨hnear, hwin⟩ => ?near, fun hfar => ?far⟩
    · rw [applyRtu_rtu]; exact trackMark_noted
    case near =>
      obtain ⟨hupdate, hout, -, hwide⟩ := trackMark_near (s := forwardedMark p m s) (e := m.epoch) hstate hnear
      exact ⟨hupdate, hout, hwide hwin⟩
    case far =>
      obtain ⟨htrim, hslew, hhist, hused, houtliers, hfew, hmany⟩ := trackMark_far (e := m.epoch) hstate hfar
      rw [applyRtu_rtu]
      refine ⟨⟨htrim, hslew, hhist, hused⟩, houtliers, hfew, fun h => ?_⟩
      rw [hmany h]
      exact ⟨rfl, rfl, rfl, rfl, pending_applyRtu (.inr (List.mem_singleton_self _))⟩

end Sys2Proof.Machine
end

section
/-! SUPPORT. Triggers: what firing, queueing and flooding leave, and the statements about the Trigger Unit. -/

namespace Sys2Proof.Machine

variable {s : State} {p : PortId}

/-! ## Counters -/

theorem bump_bumpBy (n k : Nat) : bumpBy k (bump n) = bumpBy (k + 1) n := by
  unfold bump bumpBy Config.counterMax; omega

/-! ## Lists cut where a test first fails -/

theorem takeWhile_stop {α : Type} {f : α → Bool} {b : List α} (h : ∀ e ∈ b.head?, f e = false) :
    b.takeWhile f = [] ∧ b.dropWhile f = b := by
  cases b with
  | nil => exact ⟨rfl, rfl⟩
  | cons e b => rw [List.takeWhile_cons, List.dropWhile_cons, h e rfl]; exact ⟨rfl, rfl⟩

theorem takeWhile_split {α : Type} {f : α → Bool} {a b : List α} (ha : ∀ e ∈ a, f e = true)
    (hb : ∀ e ∈ b.head?, f e = false) : (a ++ b).takeWhile f = a ∧ (a ++ b).dropWhile f = b := by
  rw [List.takeWhile_append_of_pos ha, List.dropWhile_append_of_pos ha, (takeWhile_stop hb).1, (takeWhile_stop hb).2,
    List.append_nil]
  exact ⟨rfl, rfl⟩

/-! ## Firing (R73, R74) -/

theorem firedSlots_eq (line : Nat) : s.firedSlots line =
    (List.range 16).filter (fun i => (s.trigEntry line).outputs.getLsbD i && (s.slot i).state == .admitted) := by
  rw [State.firedSlots, slotsOf, List.filter_filter]
  exact List.filter_congr (fun i _ => Bool.and_comm ..)

/-- R73: lines fired in order, each to its slots. -/
theorem foldl_fireLine (l : List PendingTrigger) (hl : l ≠ []) (s : State) : l.foldl (fun s e => fireLine e.line s) s = { s with
    trig := { s.trig with fired := bumpBy l.length s.trig.fired }
    sideband := s.sideband ++ l.flatMap (fun e => (s.firedSlots e.line).map (fun i => (i, e.line))) } := by
  induction l generalizing s with
  | nil => exact absurd rfl hl
  | cons e l ih =>
    rw [List.foldl_cons]
    by_cases hnil : l = []
    · subst hnil
      simp [fireLine, bump]
    · rw [ih hnil]
      simp only [fireLine, bump_bumpBy, List.length_cons, List.flatMap_cons, List.append_assoc]
      rfl

/-! ## Offers to several ports -/

/-- One change made to each port that qualifies, where the change disqualifies none. -/
theorem port_foldl_updPort {c : State → PortId → Bool} {f : Port → Port} (hc : ∀ u q r, c (u.updPort q f) r = c u r) :
    (PortId.all.foldl (fun u q => if c u q then u.updPort q f else u) s).port p = if c s p then f (s.port p) else s.port p := by
  have hsame : ∀ (u : State) q, (u.updPort q f).port q = f (u.port q) := fun u q => by cases q <;> rfl
  have hother : ∀ u : State, (u.updPort .p0 f).port .p1 = u.port .p1 ∧ (u.updPort .p1 f).port .p0 = u.port .p0 := fun u => ⟨rfl, rfl⟩
  have hlast : ∀ u : State, c u .p1 = c s .p1 → u.port .p1 = s.port .p1 →
      (u.port .p0 = if c s .p0 then f (s.port .p0) else s.port .p0) →
      (if c u .p1 then u.updPort .p1 f else u).port p = if c s p then f (s.port p) else s.port p := fun u h1 hp1 hp0 => by
    rw [h1]
    cases p
    · split
      · rw [(hother u).2, hp0]
      · exact hp0
    · split
      · rw [hsame, hp1]
      · exact hp1
  simp only [PortId.all, List.foldl_cons, List.foldl_nil]
  cases h0 : c s .p0
  · refine hlast _ ?_ ?_ ?_ <;> simp [h0]
  · refine hlast _ ?_ ?_ ?_ <;> simp [h0, hc, hsame, (hother s).1]

/-- R30: the offers of a timing queue change neither the tree nor a port's state. -/
theorem isTree_isUp_updPort {f : Port → Port} (hf : ∀ r, (f r).state = r.state ∧ (f r).peer = r.peer) (u : State) (q r : PortId) :
    (u.updPort q f).isTree r = u.isTree r ∧ (u.updPort q f).isUp r = u.isUp r := by
  have hport : ((u.updPort q f).port r).state = (u.port r).state ∧ ((u.updPort q f).port r).peer = (u.port r).peer := by
    rw [State.updPort_eq, State.port_setPort]
    split
    · next h => subst h; exact hf _
    · exact ⟨rfl, rfl⟩
  have hup : (u.updPort q f).isUp r = u.isUp r := by rw [State.isUp, hport.1]; rfl
  refine ⟨?_, hup⟩
  rw [State.isTree, State.isChild, hup, Port.peerClaims, hport.2, State.updPort_topo]
  rfl

theorem offerTiming_state (i : TimingItem) (r : Port) : (r.offerTiming i).state = r.state ∧ (r.offerTiming i).peer = r.peer := by
  unfold Port.offerTiming
  split <;> exact ⟨rfl, rfl⟩

/-! ## TRIGGERs sent (R67, R70) -/

theorem sendTrigger_withPorts (e : Option PortId) (t : Trigger) (s : State) : sendTrigger e t s = s.withPorts (sendTrigger e t s) := by
  refine foldl_withPorts (fun u q => ?_) _ s
  split
  · exact updPort_withPorts _
  · rfl

/-- R67, R70: a TRIGGER is offered to each UP tree port but the one it came in on. -/
theorem sendTrigger_port (e : Option PortId) (t : Trigger) : (sendTrigger e t s).port p =
    if s.isTree p && s.isUp p && e != some p then (s.port p).offerTiming (.trigger t) else s.port p :=
  port_foldl_updPort (c := fun u q => u.isTree q && u.isUp q && e != some q) (fun u q r => by
    obtain ⟨ht, hu⟩ := isTree_isUp_updPort (offerTiming_state (.trigger t)) u q r
    rw [ht, hu])

/-! ## The Pending Trigger Queue (R72) -/

/-- R72: an entry takes its place after every entry that is not later. -/
theorem insertTrigger_split {x : PendingTrigger} {a b : List PendingTrigger} (ha : ∀ e ∈ a, inFuture e.fire x.fire = false)
    (hb : ∀ e ∈ b.head?, inFuture e.fire x.fire = true) : insertTrigger x (a ++ b) = a ++ x :: b := by
  obtain ⟨htake, hdrop⟩ := takeWhile_split (f := fun e => !fireBefore x.fire e.fire) (a := a) (b := b)
    (fun e he => by rw [fireBefore, ha e he]; rfl) (fun e he => by rw [fireBefore, hb e he]; rfl)
  rw [insertTrigger, htake, hdrop]

/-- R72: an offer merges with the first entry of its line within 16 ticks. -/
theorem mergeMatch_first {x e : PendingTrigger} {a b : List PendingTrigger}
    (he : e.line = x.line ∧ (tickDiff x.fire e.fire ≤ 16 ∨ tickDiff e.fire x.fire ≤ 16))
    (ha : ∀ y ∈ a, ¬(y.line = x.line ∧ (tickDiff x.fire y.fire ≤ 16 ∨ tickDiff y.fire x.fire ≤ 16))) :
    mergeMatch x (a ++ e :: b) = some e ∧ (a ++ e :: b).erase e = a ++ b := by
  constructor
  · rw [mergeMatch, List.find?_append, List.find?_eq_none.mpr (fun y hy => by simpa [withinMerge] using ha y hy),
      Option.none_or, List.find?_cons_of_pos (by simpa [withinMerge] using he)]
  · rw [List.erase_append_right _ (fun hmem => ha e hmem he), List.erase_cons_head]

theorem mergeMatch_none {x : PendingTrigger} {q : List PendingTrigger}
    (h : ∀ e ∈ q, ¬(e.line = x.line ∧ (tickDiff x.fire e.fire ≤ 16 ∨ tickDiff e.fire x.fire ≤ 16))) : mergeMatch x q = none :=
  List.find?_eq_none.mpr (fun y hy => by simpa [withinMerge] using h y hy)

theorem offerTrigger_merge {x e : PendingTrigger} (h : mergeMatch x s.trig.queue = some e) : offerTrigger x s =
    s.updTrig (fun t => { t with
      merged := bump t.merged
      queue := if fireBefore x.fire e.fire then insertTrigger x (t.queue.erase e) else t.queue }) := by
  simp only [offerTrigger, h]

theorem offerTrigger_insert {x : PendingTrigger} (h : mergeMatch x s.trig.queue = none) (hroom : s.trig.queue.length < 16) :
    offerTrigger x s = s.updTrig (fun t => { t with queue := insertTrigger x t.queue, queued := bump t.queued }) := by
  simp only [offerTrigger, h, if_neg (show ¬16 ≤ s.trig.queue.length by omega)]

theorem offerTrigger_full {x : PendingTrigger} (h : mergeMatch x s.trig.queue = none) (hfull : 16 ≤ s.trig.queue.length) :
    offerTrigger x s = raise .triggerOverflow (s.updTrig (fun t => { t with overflows := bump t.overflows })) := by
  simp only [offerTrigger, h, if_pos hfull]

/-- R72: an offer touches the queue, its counters and the events alone. -/
theorem offerTrigger_frame (x : PendingTrigger) (s : State) : ∃ q a b c m, offerTrigger x s = { s with
    trig := { s.trig with queue := q, merged := a, queued := b, overflows := c }, mgmt := m } := by
  unfold offerTrigger
  split
  · exact ⟨_, _, _, _, _, rfl⟩
  · split
    · exact ⟨_, _, _, _, _, rfl⟩
    · exact ⟨_, _, _, _, _, rfl⟩

/-! ## What a trigger does here (R68, R71 to R73) -/

/-- The second state differs from the first in what the Trigger Unit does on a line alone: its queue, its counters of what
became of a trigger, the sidebands and the events. -/
def TrigOnly (s v : State) : Prop := ∃ q a b c f uf lf pt sb m, v = { s with
  trig := { s.trig with
    queue := q, merged := a, queued := b, overflows := c, fired := f, untimedFires := uf, lateFires := lf, passedThrough := pt }
  sideband := sb, mgmt := m }

theorem TrigOnly.refl (s : State) : TrigOnly s s := ⟨_, _, _, _, _, _, _, _, _, _, rfl⟩

theorem trigOnly_fireUntimed (l : Nat) (s : State) : TrigOnly s (fireUntimed l s) := ⟨_, _, _, _, _, _, _, _, _, _, rfl⟩

theorem trigOnly_fireLate (l : Nat) (s : State) : TrigOnly s (fireLate l s) := ⟨_, _, _, _, _, _, _, _, _, _, rfl⟩

theorem trigOnly_offerTrigger (x : PendingTrigger) (s : State) : TrigOnly s (offerTrigger x s) := by
  obtain ⟨q, a, b, c, m, h⟩ := offerTrigger_frame x s
  exact ⟨q, a, b, c, _, _, _, _, _, m, h⟩

theorem TrigOnly.port {s v : State} (h : TrigOnly s v) (q : PortId) : v.port q = s.port q := by
  obtain ⟨_, _, _, _, _, _, _, _, _, _, rfl⟩ := h
  cases q <;> rfl

theorem TrigOnly.isTree_isUp {s v : State} (h : TrigOnly s v) (q : PortId) : v.isTree q = s.isTree q ∧ v.isUp q = s.isUp q := by
  have hup : v.isUp q = s.isUp q := by rw [State.isUp, h.port]; rfl
  refine ⟨?_, hup⟩
  rw [State.isTree, State.isChild, hup, h.port]
  obtain ⟨_, _, _, _, _, _, _, _, _, _, rfl⟩ := h
  rfl

theorem TrigOnly.keeps {s v : State} (h : TrigOnly s v) :
    (v.trig.edgesStamped = s.trig.edgesStamped ∧ v.trig.originated = s.trig.originated ∧ v.trig.received = s.trig.received ∧
      v.trig.originSeq = s.trig.originSeq ∧ v.trig.seen = s.trig.seen ∧ v.trig.map = s.trig.map) ∧
    v.rtu = s.rtu ∧ v.topo = s.topo ∧ v.pool = s.pool ∧ v.slots = s.slots ∧ v.trans = s.trans := by
  obtain ⟨_, _, _, _, _, _, _, _, _, _, rfl⟩ := h
  exact ⟨⟨rfl, rfl, rfl, rfl, rfl, rfl⟩, rfl, rfl, rfl, rfl, rfl⟩

/-- R66: the state with an edge stamped. -/
def edgeStamped (s : State) : State := s.updTrig (fun t => { t with edgesStamped := bump t.edgesStamped })

/-- R67, R68: what an accepted edge leaves, whatever it does here. -/
theorem edge_leaves {i l : Nat} {s v : State} {x : Trigger}
    (h : TrigOnly (originate l (edgeStamped s)) v)
    (he : edgeFromSlot i l s = (sendTrigger none x v).updTrig (fun t => { t with originated := bump t.originated })) :
    ((edgeFromSlot i l s).trig.edgesStamped = bump s.trig.edgesStamped ∧
      (edgeFromSlot i l s).trig.originated = bump s.trig.originated ∧
      (edgeFromSlot i l s).originSeq l = (s.originSeq l + 1) % 256 ∧
      (edgeFromSlot i l s).seen l = ⟨s.frameCode, s.originSeq l, 0⟩ :: (s.seen l).take 3 ∧
      ∀ p, s.isTree p = true → s.isUp p = true → (s.port p).qTiming.length < 8 →
        ((edgeFromSlot i l s).port p).qTiming = (s.port p).qTiming ++ [.trigger x]) ∧
    (edgeFromSlot i l s).trig.queue = v.trig.queue ∧ (edgeFromSlot i l s).trig.fired = v.trig.fired ∧
    (edgeFromSlot i l s).trig.merged = v.trig.merged ∧ (edgeFromSlot i l s).trig.queued = v.trig.queued ∧
    (edgeFromSlot i l s).trig.overflows = v.trig.overflows ∧ (∀ k, (edgeFromSlot i l s).event k = v.event k) ∧
    (edgeFromSlot i l s).rtu = s.rtu ∧ (edgeFromSlot i l s).topo = s.topo ∧ (edgeFromSlot i l s).pool = s.pool ∧
    (edgeFromSlot i l s).slots = s.slots ∧ (edgeFromSlot i l s).trans = s.trans := by
  have hports : ∀ p, s.isTree p = true → s.isUp p = true → (s.port p).qTiming.length < 8 →
      ((edgeFromSlot i l s).port p).qTiming = (s.port p).qTiming ++ [.trigger x] := fun p htree hup hroom => by
    have hvp : v.port p = s.port p := (h.port p).trans (by cases p <;> rfl)
    have hv : v.isTree p = true ∧ v.isUp p = true := by
      obtain ⟨ht, hu⟩ := h.isTree_isUp p
      rw [ht, hu]
      exact ⟨htree, hup⟩
    have hsent : (edgeFromSlot i l s).port p = (sendTrigger none x v).port p := by rw [he]; cases p <;> rfl
    rw [hsent, sendTrigger_port, hv.1, hv.2, if_pos (by rfl), hvp, Port.offerTiming, if_pos hroom]
  obtain ⟨⟨hstamped, horiginated, -, hseq, hseen, -⟩, hrtu, htopo, hpool, hslots, htrans⟩ := h.keeps
  rw [sendTrigger_withPorts] at he
  refine ⟨⟨?_, ?_, ?_, ?_, hports⟩, ?_⟩ <;> rw [he]
  · exact hstamped
  · exact congrArg bump horiginated
  · exact (congrArg (tgetD 0 · l) hseq).trans (tgetD_tset_same 0 s.trig.originSeq l _)
  · exact (congrArg (tgetD [] · l) hseen).trans (tgetD_tset_same [] s.trig.seen l (⟨s.frameCode, s.originSeq l, 0⟩ :: (s.seen l).take 3))
  · exact ⟨rfl, rfl, rfl, rfl, rfl, fun _ => rfl, hrtu, htopo, hpool, hslots, htrans⟩

theorem edge_untimed {i l : Nat} (hlane : (s.slot i).lane ≠ .dormant) (hacc : s.acceptsEdge i l = true)
    (htimed : s.rtu.state.timed = false) :
    TrigOnly (originate l (edgeStamped s))
      (if (s.trigEntry l).outputs = 0 then originate l (edgeStamped s) else fireUntimed l (originate l (edgeStamped s))) ∧
    edgeFromSlot i l s = (sendTrigger none ⟨s.frameCode, l, s.originSeq l, true, s.rtu.ticks⟩
      (if (s.trigEntry l).outputs = 0 then originate l (edgeStamped s)
      else fireUntimed l (originate l (edgeStamped s)))).updTrig (fun t => { t with originated := bump t.originated }) := by
  refine ⟨?_, (if_neg hlane).trans ((if_pos hacc).trans (if_neg (by rw [htimed]; exact Bool.false_ne_true)))⟩
  split
  · exact .refl _
  · exact trigOnly_fireUntimed _ _

theorem edge_timed {i l : Nat} (hlane : (s.slot i).lane ≠ .dormant) (hacc : s.acceptsEdge i l = true)
    (htimed : s.rtu.state.timed = true) :
    TrigOnly (originate l (edgeStamped s))
      (if (s.trigEntry l).outputs = 0 then originate l (edgeStamped s)
      else offerTrigger ⟨l, (s.rtu.ticks + (s.trigEntry l).budget) % 2 ^ 56, s.frameCode⟩ (originate l (edgeStamped s))) ∧
    edgeFromSlot i l s = (sendTrigger none
        ⟨s.frameCode, l, s.originSeq l, false, (s.rtu.ticks + (s.trigEntry l).budget) % 2 ^ 56⟩
      (if (s.trigEntry l).outputs = 0 then originate l (edgeStamped s)
      else offerTrigger ⟨l, (s.rtu.ticks + (s.trigEntry l).budget) % 2 ^ 56, s.frameCode⟩
        (originate l (edgeStamped s)))).updTrig (fun t => { t with originated := bump t.originated }) := by
  refine ⟨?_, (if_neg hlane).trans ((if_pos hacc).trans (if_pos htimed))⟩
  split
  · exact .refl _
  · exact trigOnly_offerTrigger _ _

/-! ## The statements -/

/-- Settles O36. -/
theorem triggersFireAndAreMapped : Obligations.TriggersFireAndAreMapped := by
  intro s
  refine ⟨fun a b ⟨hq, hne, ha, hb⟩ => ?fire, fun hhead => ?wait, fun who line w ho hacc => ?write⟩
  case fire =>
    have hdue : s.dueTriggers = a := by
      rw [State.dueTriggers, hq]
      exact (takeWhile_split (fun e he => by rw [Rtu.ticks, ha e he]; rfl) (fun e he => by rw [Rtu.ticks, hb e he]; rfl)).1
    have hdrop : s.trig.queue.drop a.length = b := by rw [hq, List.drop_left]
    refine congrArg Host.Outcome.next ?_
    rw [fireHead, hdue, foldl_fireLine a hne]
    simp only [State.updTrig, hdrop, firedSlots_eq]
    rfl
  case wait =>
    have hdue : s.dueTriggers = [] := (takeWhile_stop (fun e he => by rw [Rtu.ticks, hhead e he]; rfl)).1
    refine congrArg Host.Outcome.next ?_
    rw [fireHead, hdue]
    rfl
  case write =>
    by_cases h : line ≤ 7 ∧ 256 ≤ w.budget ∧ w.budget ≤ 65535
    · simp only [if_pos h]
      obtain ⟨t, ht, hans⟩ := answered_of_accepts (i := .triggerMapWrite who line w) rfl ho
        (if_neg (by omega)) (s1 := s.wrote.updTrig (fun t => { t with
          map := tset {} t.map line w
          queue := if w.enabled then t.queue else t.queue.filter (fun x => x.line != line)
          discarded := bumpBy (if w.enabled then [] else s.wrote.trig.queue.filter (fun x => x.line == line)).length t.discarded })) hacc
      have hgone : (if w.enabled then [] else s.wrote.trig.queue.filter (fun x => x.line == line)).length =
          s.trig.queue.length - (if w.enabled then s.trig.queue else s.trig.queue.filter (fun x => x.line != line)).length := by
        have hsum := List.length_eq_length_filter_add (l := s.trig.queue) (fun x => x.line == line)
        have hwrote : s.wrote.trig.queue = s.trig.queue := rfl
        cases w.enabled
        · simp [hwrote, bne]; omega
        · simp
      refine ⟨t, ht, _, hans, rfl, fun l => ?_, ?_, ?_⟩
      · show tgetD {} (tset {} s.trig.map line w) l = _
        rw [tgetD_tset]
        rfl
      · refine congrArg (fun q => if w.enabled then s.trig.queue else q) (List.filter_congr (fun e _ => ?_))
        simp only [bne, beq_eq_decide, decide_not]
      · show bumpBy _ s.trig.discarded = _
        rw [hgone]
        rfl
    · simp only [if_neg h]
      exact answered_of_accepts rfl ho (if_pos (by omega)) hacc

/-- Settles O33. -/
theorem edgesOriginateTriggers : Obligations.EdgesOriginateTriggers := by
  intro i l s
  dsimp only
  intro hlane
  refine ⟨fun ⟨hen, hsrc, hadm⟩ => ?taken, fun hno => ?ignored⟩
  case taken =>
    have hacc : s.acceptsEdge i l = true := by
      rw [State.acceptsEdge, hen, hsrc, beq_iff_eq.mpr hadm]; rfl
    cases htimed : s.rtu.state.timed
    · obtain ⟨hv, he⟩ := edge_untimed hlane hacc htimed
      obtain ⟨⟨h1, h2, h3, h4, h5⟩, hqueue, hfired, -, -, -, -, hrest⟩ := edge_leaves hv he
      refine ⟨_, rfl, h1, h2, h3, h4, h5, fun hout => ?_, fun ⟨_, hout⟩ => ?_, hrest⟩ <;> rw [hqueue, hfired]
      · rw [if_pos hout]; exact ⟨rfl, rfl⟩
      · rw [if_neg hout]; exact ⟨rfl, rfl⟩
    · obtain ⟨hv, he⟩ := edge_timed hlane hacc htimed
      obtain ⟨⟨h1, h2, h3, h4, h5⟩, hqueue, hfired, -, -, -, -, hrest⟩ := edge_leaves hv he
      refine ⟨_, rfl, h1, h2, h3, h4, h5, fun hout => ?_, fun ⟨hf, _⟩ => (nomatch hf), hrest⟩
      rw [hqueue, hfired, if_pos hout]
      exact ⟨rfl, rfl⟩
  case ignored =>
    have hnot : s.acceptsEdge i l = false := by
      rw [State.acceptsEdge]
      rcases hno with h | h | h
      · rw [h, Bool.false_and, Bool.false_and]
      · rw [h, Bool.and_false, Bool.false_and]
      · rw [beq_eq_false_iff_ne.mpr h, Bool.and_false]
    show Host.Outcome.next (edgeFromSlot i l s) = _
    rw [edgeFromSlot, if_neg hlane, hnot, if_neg Bool.false_ne_true]
    rfl

/-- R69, R70: the state once a new TRIGGER is in the Seen List and on its way. -/
def flooded (p : PortId) (x : Trigger) (s : State) : State := sendTrigger (some p) x (addSeen x.line x.origin x.seq
  (s.updTrig (fun u => { u with received := bump u.received })))

theorem flooded_frame (p : PortId) (x : Trigger) (s : State) : flooded p x s = { s with
    port0 := (flooded p x s).port0, port1 := (flooded p x s).port1
    trig := { s.trig with
      received := bump s.trig.received
      seen := tset [] s.trig.seen x.line (⟨x.origin, x.seq, 0⟩ :: (s.seen x.line).take 3) } } := by
  conv => lhs; rw [flooded, sendTrigger_withPorts]
  rfl

theorem flooded_port (p q : PortId) (x : Trigger) (s : State) : (flooded p x s).port q =
    if s.isTree q && s.isUp q && some p != some q then (s.port q).offerTiming (.trigger x) else s.port q := by
  rw [flooded, sendTrigger_port]
  cases q <;> rfl

/-- R71: what a TRIGGER does here touches what a trigger does on a line alone. -/
theorem trigOnly_localTrigger (x : Trigger) (s : State) : TrigOnly s (localTrigger x s) := by
  unfold localTrigger
  dsimp only
  split
  · exact ⟨_, _, _, _, _, _, _, _, _, _, rfl⟩
  · split
    · exact trigOnly_fireUntimed _ _
    · split
      · exact trigOnly_offerTrigger _ _
      · exact trigOnly_fireLate _ _

theorem localTrigger_idle {x : Trigger} (h : (s.trigEntry x.line).enabled = false ∨ (s.trigEntry x.line).outputs = 0) :
    localTrigger x s = s.updTrig (fun u => { u with passedThrough := bump u.passedThrough }) := by
  refine if_pos ?_
  rcases h with h | h <;> simp [h]

theorem localTrigger_active {x : Trigger} (hen : (s.trigEntry x.line).enabled = true) (hout : (s.trigEntry x.line).outputs ≠ 0) :
    localTrigger x s = if x.untimed = true ∨ s.rtu.state.timed = false then fireUntimed x.line s
      else if inFuture x.fire s.rtu.ticks then offerTrigger ⟨x.line, x.fire, x.origin⟩ s else fireLate x.line s := by
  have hactive : (!(s.trigEntry x.line).enabled || (s.trigEntry x.line).outputs == 0) = false := by
    rw [hen, beq_eq_false_iff_ne.mpr hout]; rfl
  unfold localTrigger
  simp only [hactive, Bool.false_eq_true, if_false, Bool.or_eq_true, Bool.not_eq_true']

/-- R69: an accepted TRIGGER that is new, on a tree port. -/
theorem acceptTrigger_new {x : Trigger} (hline : x.line ≤ 7) (hframe : s.topo.frameNumber ≠ some x.origin)
    (htree : s.isTree p = true) (hnew : ∀ e ∈ s.seen x.line, ¬(e.origin = x.origin ∧ e.seq = x.seq)) :
    acceptTrigger p x s = localTrigger x (flooded p x s) := by
  have hseen : (s.seen x.line).any (fun e => e.origin == x.origin && e.seq == x.seq) = false :=
    List.any_eq_false.mpr (fun e he => by simpa using hnew e he)
  simp only [acceptTrigger, htree, hseen, if_neg hframe, if_neg (show ¬7 < x.line by omega), Bool.not_true,
    Bool.false_eq_true, if_false, flooded]

/-- Settles O34. -/
theorem triggersAreFlooded : Obligations.TriggersAreFlooded := by
  intro p x s hs hline
  have hexec : exec (.triggerReceived p x) s = .next (acceptTrigger p x s) :=
    congrArg Host.Outcome.next (byState_up _ _ _ _ _ hs)
  rw [hexec]
  refine ⟨fun ⟨hframe, htree, hnew⟩ => ?taken, fun hframe => ?looped, fun ⟨hframe, htree⟩ => ?nontree,
    fun ⟨hframe, htree, hdup⟩ => ?duplicate⟩
  case looped =>
    simp only [acceptTrigger, if_neg (show ¬7 < x.line by omega), if_pos hframe]
    rfl
  case nontree =>
    simp only [acceptTrigger, if_neg (show ¬7 < x.line by omega), if_neg hframe, htree]
    rfl
  case duplicate =>
    have hseen : (s.seen x.line).any (fun e => e.origin == x.origin && e.seq == x.seq) = true := by
      obtain ⟨e, he, ho, hq⟩ := hdup
      exact List.any_eq_true.mpr ⟨e, he, by simp [ho, hq]⟩
    simp only [acceptTrigger, if_neg (show ¬7 < x.line by omega), if_neg hframe, htree, hseen]
    rfl
  case taken =>
    rw [acceptTrigger_new hline hframe htree hnew]
    obtain ⟨⟨-, -, hreceived, -, hseen, -⟩, -⟩ := (trigOnly_localTrigger x (flooded p x s)).keeps
    have hport := (trigOnly_localTrigger x (flooded p x s)).port
    have hframe := flooded_frame p x s
    have htrig : (flooded p x s).trig = _ := congrArg State.trig hframe
    have hentry : (flooded p x s).trigEntry x.line = s.trigEntry x.line := by rw [State.trigEntry, htrig]; rfl
    have hrtu : (flooded p x s).rtu = s.rtu := by rw [hframe]
    have hside : (flooded p x s).sideband = s.sideband := by rw [hframe]
    have hfired : (flooded p x s).firedSlots x.line = (List.range 16).filter (fun i =>
        (s.trigEntry x.line).outputs.getLsbD i && (s.slot i).state == .admitted) := by
      rw [firedSlots_eq, hentry, hframe]
      rfl
    refine ⟨_, rfl, ?_, ?_, ?_, fun ⟨htree', hup, hroom⟩ => ?_, fun hidle => ?idle, fun ⟨hen, hout⟩ =>
      ⟨fun hnow => ?untimed, fun ⟨hu, ht, hf⟩ => ?late, fun ⟨hu, ht, hf⟩ => ?ahead⟩⟩
    · rw [hreceived, htrig]
    · rw [State.seen, hseen, htrig]
      exact tgetD_tset_same [] s.trig.seen x.line (⟨x.origin, x.seq, 0⟩ :: (s.seen x.line).take 3)
    · rw [hport, flooded_port, if_neg (by simp)]
    · rw [hport, flooded_port, htree', hup, if_pos (by cases p <;> rfl), Port.offerTiming, if_pos hroom]
    case idle =>
      rw [localTrigger_idle (by rwa [hentry])]
      refine ⟨?_, ?_, hside⟩
      · exact congrArg bump (show (flooded p x s).trig.passedThrough = s.trig.passedThrough by rw [htrig])
      · exact congrArg (·.queue) htrig
    case untimed =>
      rw [localTrigger_active (by rwa [hentry]) (by rwa [hentry]), if_pos (by rwa [hrtu])]
      refine ⟨?_, ?_, ?_, ?_⟩
      · show (flooded p x s).sideband ++ _ = _
        rw [hside, hfired]
      · exact congrArg bump (show (flooded p x s).trig.fired = s.trig.fired by rw [htrig])
      · exact congrArg bump (show (flooded p x s).trig.untimedFires = s.trig.untimedFires by rw [htrig])
      · exact congrArg (·.queue) htrig
    case late =>
      rw [localTrigger_active (by rwa [hentry]) (by rwa [hentry]), if_neg (by rw [hrtu]; simp [hu, ht]),
        if_neg (by rw [hrtu, Rtu.ticks, hf]; exact Bool.false_ne_true)]
      refine ⟨?_, ?_, ?_, pending_raise (.inr rfl), ?_⟩
      · show (flooded p x s).sideband ++ _ = _
        rw [hside, hfired]
      · exact congrArg bump (show (flooded p x s).trig.fired = s.trig.fired by rw [htrig])
      · exact congrArg bump (show (flooded p x s).trig.lateFires = s.trig.lateFires by rw [htrig])
      · exact congrArg (·.queue) htrig
    case ahead =>
      rw [localTrigger_active (by rwa [hentry]) (by rwa [hentry]), if_neg (by rw [hrtu]; simp [hu, ht]),
        if_pos (by rw [hrtu, Rtu.ticks, hf])]
      obtain ⟨q, a, b, c, m, hoffer⟩ := offerTrigger_frame ⟨x.line, x.fire, x.origin⟩ (flooded p x s)
      refine ⟨?_, ?_, fun hempty => ?_⟩
      · rw [hoffer]; exact hside
      · rw [hoffer]; exact congrArg (·.fired) htrig
      · have hq : (flooded p x s).trig.queue = [] := (congrArg (·.queue) htrig).trans hempty
        rw [offerTrigger_insert (by rw [hq]; rfl) (by rw [hq]; decide)]
        exact ⟨congrArg (insertTrigger _) hq, congrArg bump (show (flooded p x s).trig.queued = s.trig.queued by rw [htrig])⟩

theorem offerTrigger_merged_queue {x e : PendingTrigger} (h : mergeMatch x s.trig.queue = some e) :
    (offerTrigger x s).trig.queue =
      if fireBefore x.fire e.fire = true then insertTrigger x (s.trig.queue.erase e) else s.trig.queue := by
  rw [offerTrigger_merge h, State.updTrig]

theorem offerTrigger_merged_later {x e : PendingTrigger} (h : mergeMatch x s.trig.queue = some e)
    (hlater : inFuture e.fire x.fire = false) : (offerTrigger x s).trig.queue = s.trig.queue := by
  rw [offerTrigger_merged_queue h, fireBefore, hlater, if_neg Bool.false_ne_true]

theorem offerTrigger_merged_earlier {x e : PendingTrigger} (h : mergeMatch x s.trig.queue = some e)
    (hearlier : inFuture e.fire x.fire = true) : (offerTrigger x s).trig.queue = insertTrigger x (s.trig.queue.erase e) := by
  rw [offerTrigger_merged_queue h, fireBefore, hearlier, if_pos rfl]

theorem offerTrigger_merged_counts {x e : PendingTrigger} (h : mergeMatch x s.trig.queue = some e) :
    (offerTrigger x s).trig.merged = bump s.trig.merged ∧ (offerTrigger x s).trig.queued = s.trig.queued := by
  constructor <;> simp only [offerTrigger_merge h, State.updTrig]

/-- R72: what an offer leaves in a queue, as a place in it or a merge is found. -/
theorem offerTrigger_leaves (x : PendingTrigger) (s : State) :
    (∀ a e b, s.trig.queue = a ++ e :: b ∧ (e.line = x.line ∧ (tickDiff x.fire e.fire ≤ 16 ∨ tickDiff e.fire x.fire ≤ 16)) ∧
        (∀ y ∈ a, ¬(y.line = x.line ∧ (tickDiff x.fire y.fire ≤ 16 ∨ tickDiff y.fire x.fire ≤ 16))) →
      (offerTrigger x s).trig.merged = bump s.trig.merged ∧ (offerTrigger x s).trig.queued = s.trig.queued ∧
      (inFuture e.fire x.fire = false → (offerTrigger x s).trig.queue = s.trig.queue) ∧
      (inFuture e.fire x.fire = true → ∀ d f, a ++ b = d ++ f ∧ (∀ y ∈ d, inFuture y.fire x.fire = false) ∧
        (∀ y ∈ f.head?, inFuture y.fire x.fire = true) → (offerTrigger x s).trig.queue = d ++ x :: f)) ∧
    (∀ a b, s.trig.queue = a ++ b ∧ s.trig.queue.length < 16 ∧
        (∀ e ∈ s.trig.queue, ¬(e.line = x.line ∧ (tickDiff x.fire e.fire ≤ 16 ∨ tickDiff e.fire x.fire ≤ 16))) ∧
        (∀ e ∈ a, inFuture e.fire x.fire = false) ∧ (∀ e ∈ b.head?, inFuture e.fire x.fire = true) →
      (offerTrigger x s).trig.queued = bump s.trig.queued ∧ (offerTrigger x s).trig.merged = s.trig.merged ∧
      (offerTrigger x s).trig.queue = a ++ x :: b) ∧
    (16 ≤ s.trig.queue.length ∧
        (∀ e ∈ s.trig.queue, ¬(e.line = x.line ∧ (tickDiff x.fire e.fire ≤ 16 ∨ tickDiff e.fire x.fire ≤ 16))) →
      (offerTrigger x s).trig.overflows = bump s.trig.overflows ∧
      ((offerTrigger x s).event EventKind.triggerOverflow.code).pending = true ∧
      (offerTrigger x s).trig.queue = s.trig.queue) := by
  refine ⟨fun a e b ⟨hq, he, ha⟩ => ?_, fun a b ⟨hq, hroom, hfar, ha, hb⟩ => ?_, fun ⟨hfull, hfar⟩ => ?_⟩
  · obtain ⟨hmatch, herase⟩ := mergeMatch_first (b := b) he ha
    have hfound : mergeMatch x s.trig.queue = some e := by rw [hq, hmatch]
    obtain ⟨hmerged, hqueued⟩ := offerTrigger_merged_counts hfound
    refine ⟨hmerged, hqueued, offerTrigger_merged_later hfound, fun hbefore d f ⟨hsplit, hd, hf⟩ => ?_⟩
    rw [offerTrigger_merged_earlier hfound hbefore, hq, herase, hsplit, insertTrigger_split hd hf]
  · rw [offerTrigger_insert (mergeMatch_none hfar) hroom]
    exact ⟨rfl, rfl, (congrArg (insertTrigger x) hq).trans (insertTrigger_split ha hb)⟩
  · rw [offerTrigger_full (mergeMatch_none hfar) hfull]
    exact ⟨rfl, pending_raise (.inr rfl), rfl⟩

/-- Settles O35. -/
theorem triggersMergeOrQueue : Obligations.TriggersMergeOrQueue := by
  intro x c s
  dsimp only
  intro hen hout htimed hline hc
  have key : ∃ t u, exec c s = .next t ∧ u.trig.queue = s.trig.queue ∧ u.trig.merged = s.trig.merged ∧
      u.trig.queued = s.trig.queued ∧ u.trig.overflows = s.trig.overflows ∧
      t.trig.queue = (offerTrigger x u).trig.queue ∧ t.trig.merged = (offerTrigger x u).trig.merged ∧
      t.trig.queued = (offerTrigger x u).trig.queued ∧ t.trig.overflows = (offerTrigger x u).trig.overflows ∧
      ∀ k, t.event k = (offerTrigger x u).event k := by
    rcases hc with ⟨p, seq, rfl, hup, hframe, htree, hahead, hnew⟩ | ⟨i, l, rfl, hlane, hadm, hsrc, hx⟩
    · have hexec : exec (.triggerReceived p ⟨x.origin, x.line, seq, false, x.fire⟩) s =
          .next (localTrigger ⟨x.origin, x.line, seq, false, x.fire⟩ (flooded p ⟨x.origin, x.line, seq, false, x.fire⟩ s)) :=
        congrArg Host.Outcome.next ((byState_up _ _ _ _ _ hup).trans (acceptTrigger_new hline hframe htree hnew))
      have hfl := flooded_frame p ⟨x.origin, x.line, seq, false, x.fire⟩ s
      have hlocal : localTrigger ⟨x.origin, x.line, seq, false, x.fire⟩ (flooded p ⟨x.origin, x.line, seq, false, x.fire⟩ s) =
          offerTrigger x (flooded p ⟨x.origin, x.line, seq, false, x.fire⟩ s) := by
        rw [localTrigger_active (by rw [hfl]; exact hen) (by rw [hfl]; exact hout), if_neg, if_pos]
        · rw [hfl]; exact hahead
        · rw [hfl]; simp [htimed]
      rw [hlocal] at hexec
      exact ⟨_, _, hexec, by rw [hfl], by rw [hfl], by rw [hfl], by rw [hfl], rfl, rfl, rfl, rfl, fun _ => rfl⟩
    · have hxl : x.line = l := by rw [hx]
      rw [hxl] at hen hout hsrc hx
      have hacc : s.acceptsEdge i l = true := by
        rw [State.acceptsEdge, hen, hsrc, beq_iff_eq.mpr hadm]; rfl
      subst hx
      obtain ⟨hv, he⟩ := edge_timed hlane hacc htimed
      obtain ⟨-, hqueue, -, hmerged, hqueued, hover, hevent, -⟩ := edge_leaves hv he
      rw [if_neg hout] at hqueue hmerged hqueued hover hevent
      exact ⟨_, originate l (edgeStamped s), rfl, rfl, rfl, rfl, rfl, hqueue, hmerged, hqueued, hover, hevent⟩
  obtain ⟨t, u, hexec, uq, um, un, uo, tq, tm, tn, tv, te⟩ := key
  obtain ⟨hmerge, hinsert, hfull⟩ := offerTrigger_leaves x u
  rw [uq, um, un] at hmerge
  rw [uq, um, un] at hinsert
  rw [uq, uo] at hfull
  refine ⟨t, hexec, ?_⟩
  rw [tq, tm, tn, tv, te]
  exact ⟨hmerge, hinsert, hfull⟩

end Sys2Proof.Machine
end

section
/-! SUPPORT. What the Delivery Unit and the Stream Router do: a segment and its lane credits, a STREAM parcel's checks,
copies, sinks and placement, and the writes of the Route Table and of the bindings (O38 to O40, O42 to O46). -/

namespace Sys2Proof.Machine

/-! ## The four swaps (R110) -/

theorem swap16_length (d : List Byte) : (swap16 d).length = d.length := by
  induction d using swap16.induct with
  | case1 a b r ih => simp [swap16, ih]
  | case2 r h => simp [swap16]

theorem swapHalves_length (d : List Byte) : (swapHalves d).length = d.length := by
  induction d using swapHalves.induct with
  | case1 a b c d r ih => simp [swapHalves, ih]
  | case2 r h => simp [swapHalves]

theorem swap32_length (d : List Byte) : (swap32 d).length = d.length := by
  induction d using swap32.induct with
  | case1 a b c d r ih => simp [swap32, ih]
  | case2 r h => simp [swap32]

/-- R110: a swap keeps the number of bytes. -/
theorem Swap.apply_length (w : Swap) (d : List Byte) : (w.apply d).length = d.length := by
  cases w with
  | none => rfl
  | bytes16 => exact swap16_length d
  | halves32 => exact swapHalves_length d
  | bytes32 => exact swap32_length d

/-- R110: a swap undoes itself. -/
theorem Swap.apply_apply (w : Swap) (d : List Byte) : w.apply (w.apply d) = d := by
  cases w with
  | none => rfl
  | bytes16 =>
    show swap16 (swap16 d) = d
    induction d using swap16.induct with
    | case1 a b r ih => simp [swap16, ih]
    | case2 r h => simp [swap16]
  | halves32 =>
    show swapHalves (swapHalves d) = d
    induction d using swapHalves.induct with
    | case1 a b c d r ih => simp [swapHalves, ih]
    | case2 r h => simp [swapHalves]
  | bytes32 =>
    show swap32 (swap32 d) = d
    induction d using swap32.induct with
    | case1 a b c d r ih => simp [swap32, ih]
    | case2 r h => simp [swap32]

/-- A list shorter than a group of four. -/
theorem four_of_length {α : Type} {d : List α} (h : 4 ≤ d.length) : ∃ a b c e r, d = a :: b :: c :: e :: r := by
  match d, h with
  | a :: b :: c :: e :: r, _ => exact ⟨a, b, c, e, r, rfl⟩

/-- R110: less than a group is left as it is. -/
theorem Swap.apply_short {w : Swap} {d : List Byte} (h : d.length < if w = Swap.bytes16 then 2 else 4) : w.apply d = d := by
  cases w with
  | none => rfl
  | bytes16 =>
    show swap16 d = d
    match d, h with
    | [], _ => rfl
    | [_], _ => rfl
  | halves32 =>
    show swapHalves d = d
    match d, h with
    | [], _ => rfl
    | [_], _ => rfl
    | [_, _], _ => rfl
    | [_, _, _], _ => rfl
  | bytes32 =>
    show swap32 d = d
    match d, h with
    | [], _ => rfl
    | [_], _ => rfl
    | [_, _], _ => rfl
    | [_, _, _], _ => rfl

/-- R110: groups are counted from the start, so that whole groups may be taken apart. -/
theorem Swap.apply_append (w : Swap) {d : List Byte} (r : List Byte) (h : d.length % 4 = 0) :
    w.apply (d ++ r) = w.apply d ++ w.apply r := by
  induction hn : d.length / 4 generalizing d with
  | zero =>
    have : d = [] := List.eq_nil_of_length_eq_zero (by omega)
    subst this
    cases w <;> rfl
  | succ n ih =>
    obtain ⟨a, b, c, e, d', rfl⟩ := four_of_length (d := d) (by omega)
    have ih' := ih (d := d') (by simp only [List.length_cons] at h; omega) (by simp only [List.length_cons] at hn; omega)
    cases w with
    | none => rfl
    | bytes16 => exact congrArg (fun x => b :: a :: e :: c :: x) ih'
    | halves32 => exact congrArg (fun x => c :: e :: a :: b :: x) ih'
    | bytes32 => exact congrArg (fun x => e :: c :: b :: a :: x) ih'

/-! ## Lane credits and segments (R109 to R111, R124) -/

/-- R124: what a lane's credits allow. -/
theorem Slot.canCommit_iff {r : Slot} {cost : Nat} : r.canCommit cost = true ↔
    r.lane = .up ∧ (cost ≤ r.available ∨ (r.advertised < cost ∧ r.available = r.advertised)) := by
  simp [Slot.canCommit]

/-- R109: the data bytes of a segment. -/
theorem segment_length (s : State) (b i o : Nat) :
    (s.segment b i o).length = min 256 (((s.binding b).sec i).length - o) := by
  simp [State.segment, Swap.apply_length]

/-- R109: a slot that takes deliveries, its lane's credits allowing the message. -/
theorem sendSegment_ready {i : Nat} {d : DeliveryItem} {rest : List DeliveryItem} {s : State}
    (hst : (s.slot i).state = .admitted) (hd : (s.slot i).delivery = d :: rest)
    (hc : (s.slot i).canCommit (laneCost (s.sectionMessage d).data.length) = true) :
    sendSegment i s = s.setSlot i { s.slot i with
      delivery := if ((s.binding d.binding).sec d.sec).length ≤ d.offset + 256 then rest
        else ⟨d.binding, d.sec, d.offset + 256⟩ :: rest
      segmentsSent := bump (s.slot i).segmentsSent
      committed := (s.slot i).committed ++ [.sectionMsg (s.sectionMessage d)]
      available := (s.slot i).available - laneCost (s.sectionMessage d).data.length } := by
  have hn : s.nextSegment i = some (s.sectionMessage d, laneCost (s.sectionMessage d).data.length) := by
    simp [State.nextSegment, hd, hst]
  simp only [sendSegment, hn, hc, if_true, hd, Slot.commit, advanceDelivery]
  congr 2
  show (if decide _ = true then _ else _) = _
  simp only [decide_eq_true_eq]

/-- R109: the credits do not allow the message. -/
theorem sendSegment_waits {i : Nat} {d : DeliveryItem} {rest : List DeliveryItem} {s : State}
    (hst : (s.slot i).state = .admitted) (hd : (s.slot i).delivery = d :: rest)
    (hc : (s.slot i).canCommit (laneCost (s.sectionMessage d).data.length) = false) : sendSegment i s = s := by
  have hn : s.nextSegment i = some (s.sectionMessage d, laneCost (s.sectionMessage d).data.length) := by
    simp [State.nextSegment, hd, hst]
  simp only [sendSegment, hn, hc, Bool.false_eq_true, if_false]

/-- Settles O43. -/
theorem segmentsAreSent : Obligations.SegmentsAreSent := by
  unfold Obligations.SegmentsAreSent
  intro i d rest s
  dsimp only
  intro hst hd
  refine ⟨segment_length s _ _ _, ?_, ?_⟩
  · rintro ⟨hup, hle⟩
    exact congrArg Host.Outcome.next (sendSegment_ready hst hd (Slot.canCommit_iff.2 ⟨hup, .inl hle⟩))
  · rintro ⟨hlt, hle⟩
    refine congrArg Host.Outcome.next (sendSegment_waits hst hd (Bool.eq_false_iff.2 fun h => ?_))
    obtain ⟨-, h | ⟨h, -⟩⟩ := Slot.canCommit_iff.1 h
    · exact absurd h (Nat.not_le.2 hlt)
    · exact absurd hle (Nat.not_le.2 h)

/-- Settles O42: the swaps by induction over their groups, the segment by the equation of a message sent. -/
theorem swapsRearrangeGroups : Obligations.SwapsRearrangeGroups := by
  unfold Obligations.SwapsRearrangeGroups
  refine ⟨fun _ => rfl, fun _ _ _ => rfl, fun _ _ _ _ _ => rfl, fun _ _ _ _ _ => rfl, fun w d => Swap.apply_short,
    fun w d r h => Swap.apply_append w r (by omega), Swap.apply_apply, ?_⟩
  intro i d rest s hst hup ha hd
  have hlen : (s.sectionMessage d).data.length ≤ 256 := by
    have h : (s.sectionMessage d).data.length = _ := segment_length s d.binding d.sec d.offset
    omega
  have hc : (s.slot i).canCommit (laneCost (s.sectionMessage d).data.length) = true :=
    Slot.canCommit_iff.2 ⟨hup, .inl (by unfold laneCost; omega)⟩
  refine ⟨_, s.sectionMessage d, congrArg Host.Outcome.next (sendSegment_ready hst hd hc), State.setSlot_pool _ _ _, ?_, rfl, ?_, ?_⟩
  · rw [State.slot_setSlot_same]
  · rw [State.slot_setSlot_same]
    dsimp only
    intro x hx
    split at hx
    · exact .inr (List.mem_of_mem_head? hx)
    · exact .inl (by simpa using hx.symm)
  · refine congrArg (Swap.apply _) (List.map_congr_left fun k _ => ?_)
    simp only [State.sectionByte, Binding.secBase, Nat.add_assoc] <;> rfl

/-! ## One change made to each slot of a list -/

/-- A fold over slots that changes at each the slot it names. -/
theorem slot_foldl {f : State → Nat → State} {g : Nat → Slot → Slot}
    (hf : ∀ s i j, (f s i).slot j = if j = i then g i (s.slot i) else s.slot j) {l : List Nat} (hl : l.Nodup) (s : State) (j : Nat) :
    (l.foldl f s).slot j = if j ∈ l then g j (s.slot j) else s.slot j := by
  induction l generalizing s with
  | nil => simp
  | cons i l ih =>
    obtain ⟨hi, hl'⟩ := List.nodup_cons.1 hl
    rw [List.foldl_cons, ih hl', hf]
    by_cases hj : j = i
    · subst hj
      simp [hi]
    · simp [hj]

/-- The state with the slots of another. -/
def State.withSlots (s t : State) : State := { s with slots := t.slots }

theorem foldl_withSlots {f : State → Nat → State} (hf : ∀ u i, f u i = u.withSlots (f u i)) (l : List Nat) (s : State) :
    l.foldl f s = s.withSlots (l.foldl f s) := by
  induction l generalizing s with
  | nil => rfl
  | cons i l ih =>
    rw [List.foldl_cons, ih, hf s i]
    rfl

/-! ## A STREAM parcel (R84 to R88, R103, R104, R113) -/

/-- R113: an immediate sink after a parcel handed to it. -/
def Slot.sinkParcel (x : StreamParcel) (r : Slot) : Slot :=
  if r.state = .admitted then
    if r.lane = .up ∧ (laneCost x.payload.length ≤ r.available ∨
        (r.advertised < laneCost x.payload.length ∧ r.available = r.advertised)) then
      { r with
        parcelsSent := bump r.parcelsSent, committed := r.committed ++ [.parcel x]
        available := r.available - laneCost x.payload.length }
    else { r with immediateDrops := bump r.immediateDrops }
  else r

theorem slot_sendParcelTo (x : StreamParcel) (s : State) (i j : Nat) :
    (sendParcelTo x s i).slot j = if j = i then (s.slot i).sinkParcel x else s.slot j := by
  unfold sendParcelTo Slot.sinkParcel
  dsimp only
  by_cases hst : (s.slot i).state = .admitted
  · rw [if_neg (not_not.2 hst), if_pos hst]
    by_cases hc : (s.slot i).canCommit (laneCost x.payload.length) = true
    · rw [if_pos hc, if_pos (Slot.canCommit_iff.1 hc), State.slot_setSlot]
      rfl
    · rw [if_neg hc, if_neg (mt Slot.canCommit_iff.2 hc), State.slot_setSlot]
  · rw [if_pos hst, if_neg hst]
    split
    · next h => rw [h]
    · rfl

theorem sendParcelTo_withSlots (x : StreamParcel) (s : State) (i : Nat) : sendParcelTo x s i = s.withSlots (sendParcelTo x s i) := by
  unfold sendParcelTo
  dsimp only
  split
  · rfl
  · split <;> rfl

theorem mem_slotsOf {set : SlotSet} {i : Nat} : i ∈ slotsOf set ↔ i < 16 ∧ set.getLsbD i = true := by
  simp [slotsOf]

theorem slotsOf_nodup (set : SlotSet) : (slotsOf set).Nodup := List.nodup_range.filter _

/-- R113: the slots after a parcel handed to an Immediate Sink Set. -/
theorem slot_sendParcel (sinks : SlotSet) (x : StreamParcel) (s : State) (i : Nat) :
    (sendParcel sinks x s).slot i = if i < 16 ∧ sinks.getLsbD i = true then (s.slot i).sinkParcel x else s.slot i := by
  rw [sendParcel, slot_foldl (g := fun _ => Slot.sinkParcel x) (slot_sendParcelTo x) (slotsOf_nodup sinks)]
  simp only [mem_slotsOf]

theorem sendParcel_withSlots (sinks : SlotSet) (x : StreamParcel) (s : State) :
    sendParcel sinks x s = s.withSlots (sendParcel sinks x s) :=
  foldl_withSlots (sendParcelTo_withSlots x) _ s

theorem sendParcel_none (x : StreamParcel) (s : State) : sendParcel 0 x s = s := by
  have h : slotsOf 0 = [] := by decide
  rw [sendParcel, h]
  rfl

/-- R103: what placement may change. -/
theorem placeParcel_frame (b : Nat) (x : StreamParcel) (s : State) :
    placeParcel b x s = { s with bindings := (placeParcel b x s).bindings, pool := (placeParcel b x s).pool } := by
  have hin : ∀ i, placeIn b i x s = { s with bindings := (placeIn b i x s).bindings, pool := (placeIn b i x s).pool } := fun i => by
    unfold placeIn
    dsimp only
    (repeat' split) <;> rfl
  unfold placeParcel
  dsimp only
  split
  · rfl
  · split
    · exact hin _
    · split <;> rfl

/-- R88: what handing a parcel to the Delivery Unit may change. -/
theorem handOver_frame (e : RouteEntry) (x : StreamParcel) (s : State) :
    ∃ sl b m, handOver e x s = { s with slots := sl, bindings := b, pool := m } := by
  unfold handOver
  rw [sendParcel_withSlots]
  dsimp only
  split
  · rw [placeParcel_frame]
    exact ⟨_, _, _, rfl⟩
  · exact ⟨_, _, _, rfl⟩

theorem handOver_unbound {e : RouteEntry} {x : StreamParcel} (h : e.binding = none) (s : State) :
    handOver e x s = sendParcel e.sinks x s := by
  simp only [handOver, h]

theorem handOver_bound {e : RouteEntry} {x : StreamParcel} {b : Nat} (h : e.binding = some b) (s : State) :
    handOver e x s = placeParcel b x (sendParcel e.sinks x s) := by
  simp only [handOver, h]

/-- R86, R87: forwarding counts copies at the entry and offers them to ports. -/
theorem foldl_offerCopy (tag : Nat) (x : StreamParcel) (l : List PortId) (e : RouteEntry) (s : State) :
    ∃ n t, l.foldl (offerCopy tag x) (s.setRoute tag e) = (s.setRoute tag { e with forwarded := n }).withPorts t ∧
      ∀ p, (t.port p).freed = (s.port p).freed ∧ (t.port p).state = (s.port p).state := by
  induction l generalizing e s with
  | nil => exact ⟨e.forwarded, s, rfl, fun _ => ⟨rfl, rfl⟩⟩
  | cons q l ih =>
    have hone : offerCopy tag x (s.setRoute tag e) q =
        (s.updPort q (fun r => r.offerStream x)).setRoute tag { e with forwarded := bump e.forwarded } := by
      unfold offerCopy
      dsimp only
      rw [State.route_setRoute_same, State.setRoute_setRoute]
      cases q <;> rfl
    obtain ⟨n, t, ht, hp⟩ := ih { e with forwarded := bump e.forwarded } (s.updPort q (fun r => r.offerStream x))
    refine ⟨n, t, ?_, fun p => ?_⟩
    · rw [List.foldl_cons, hone, ht]
      cases q <;> rfl
    · obtain ⟨hf, hs⟩ := hp p
      rw [hf, hs, State.port_updPort]
      split
      · next h =>
        subst h
        rcases Port.offerStream_cases (s.port p) x with ⟨-, h⟩ | ⟨-, h⟩ <;> rw [h] <;> exact ⟨rfl, rfl⟩
      · exact ⟨rfl, rfl⟩

theorem RouteEntry.track_inCount (e : RouteEntry) (x : StreamParcel) : (e.track x).inCount = e.inCount := by
  unfold RouteEntry.track
  split <;> rfl

theorem setRoute_port (s : State) (k : Nat) (e : RouteEntry) (p : PortId) : (s.setRoute k e).port p = s.port p := by
  cases p <;> rfl

/-- R86 to R88: what comes of an accepted parcel. -/
theorem handOver_forwardStream (src : Option PortId) (x : StreamParcel) (e e' : RouteEntry) (s : State) :
    let t := handOver e' x (forwardStream src x (s.setRoute x.tag e))
    (t.route x.tag).inCount = e.inCount ∧ ∀ p, (t.port p).freed = (s.port p).freed ∧ (t.port p).state = (s.port p).state := by
  unfold forwardStream
  dsimp only
  obtain ⟨n, t, ht, hp⟩ := foldl_offerCopy x.tag x ((s.setRoute x.tag e).outPorts src ((s.setRoute x.tag e).route x.tag)) e s
  rw [ht]
  obtain ⟨sl, b, m, hh⟩ := handOver_frame e' x ((s.setRoute x.tag { e with forwarded := n }).withPorts t)
  rw [hh]
  refine ⟨?_, fun p => ?_⟩
  · show ((s.setRoute x.tag _).route x.tag).inCount = _
    rw [State.route_setRoute_same]
  · cases p
    · exact hp .p0
    · exact hp .p1

/-- R84: every parcel is counted at its entry, and no buffer frees yet. -/
theorem takeStream_counted (src : Option PortId) (x : StreamParcel) (s : State) :
    ((takeStream src x s).route x.tag).inCount = bump (s.route x.tag).inCount ∧
      ∀ p, ((takeStream src x s).port p).freed = (s.port p).freed ∧ ((takeStream src x s).port p).state = (s.port p).state := by
  have hset : ∀ e : RouteEntry, e.inCount = bump (s.route x.tag).inCount →
      ((s.setRoute x.tag e).route x.tag).inCount = bump (s.route x.tag).inCount ∧
        ∀ p, ((s.setRoute x.tag e).port p).freed = (s.port p).freed ∧ ((s.setRoute x.tag e).port p).state = (s.port p).state :=
    fun e he => ⟨by rw [State.route_setRoute_same, he], fun p => by rw [setRoute_port]; exact ⟨rfl, rfl⟩⟩
  unfold takeStream
  dsimp only
  split
  · cases src with
    | none => exact hset _ rfl
    | some q => cases q <;> exact hset _ rfl
  · split
    · exact hset _ rfl
    · split
      · exact hset _ rfl
      · split
        · exact hset _ rfl
        · obtain ⟨hcount, hport⟩ := handOver_forwardStream src x (({ s.route x.tag with
            inCount := bump (s.route x.tag).inCount } : RouteEntry).track x) { s.route x.tag with
            inCount := bump (s.route x.tag).inCount } s
          exact ⟨hcount.trans (RouteEntry.track_inCount _ _), hport⟩

/-- R14: a freed stream buffer of a port in UP. -/
theorem Port.freeBuffer_freed {r : Port} (h : r.state = .up) : (r.freeBuffer .stream).freed.stream = r.freed.stream + 1 := by
  have hc : (isCredited ParcelClass.stream && (r.state == .measure || r.state == .up)) = true := by rw [h]; rfl
  unfold Port.freeBuffer
  rw [if_pos hc]
  dsimp only
  split
  · rfl
  · unfold Port.offerLink
    split <;> rfl

/-- R12, R84: a STREAM parcel of a port in UP. -/
theorem exec_streamParcelReceived {p : PortId} {x : StreamParcel} {s : State} (hs : (s.port p).state = .up)
    (hlen : x.payload.length ≤ 256) : exec (.streamParcelReceived p x) s =
      .next ((takeStream (some p) x s).updPort p (fun r => r.freeBuffer .stream)) := by
  have hshort : ¬(256 < x.payload.length ∧ (s.port p).checks = true) := fun h => absurd h.1 (Nat.not_lt.2 hlen)
  exact congrArg Host.Outcome.next ((if_neg hshort).trans (byState_up _ _ _ _ _ hs))

/-- Settles O38. -/
theorem streamParcelsAreChecked : Obligations.StreamParcelsAreChecked := by
  unfold Obligations.StreamParcelsAreChecked
  intro p x s
  dsimp only
  intro hs hlen
  simp only [exec_streamParcelReceived hs hlen]
  obtain ⟨hcount, hport⟩ := takeStream_counted (some p) x s
  refine ⟨⟨_, rfl, ?_, ?_⟩, fun he => ?inactive, fun ⟨he, hloop⟩ => ?looped, fun ⟨he, hloop, htree⟩ => ?nonTree,
    fun ⟨he, hloop, htree, hq⟩ => ?quota⟩
  · cases p <;> exact hcount
  · obtain ⟨hf, hst⟩ := hport p
    rw [State.updPort_eq, State.port_setPort_same, Port.freeBuffer_freed (hst.trans hs), hf]
  case inactive => simp only [takeStream, he, Bool.not_false, if_true]
  case looped => simp [takeStream, he, State.isLooped, hloop]
  case nonTree => simp [takeStream, he, State.isLooped, hloop, State.offTree, htree]
  case quota => simp [takeStream, he, State.isLooped, hloop, State.offTree, htree, hq]

/-- R84: an entry that counts a parcel in. -/
def RouteEntry.counted (e : RouteEntry) : RouteEntry := { e with inCount := bump e.inCount }

/-- R84: a parcel that passes the checks. -/
theorem takeStream_accepted {p : PortId} {x : StreamParcel} {s : State} (he : (s.route x.tag).active = true)
    (hroot : s.topo.rootward = some p) (hloop : s.topo.frameNumber ≠ some x.source) (hq : x.seq ≤ (s.route x.tag).q / 256) :
    takeStream (some p) x s = handOver (s.route x.tag).counted x
      (forwardStream (some p) x (s.setRoute x.tag ((s.route x.tag).counted.track x))) := by
  have htree : s.isTree p = true := by rw [State.isTree, hroot]; simp
  simp [takeStream, he, State.isLooped, hloop, State.offTree, htree, Nat.not_lt.2 hq, RouteEntry.counted]

/-- R86: a parcel from the Rootward Port goes out of the other port where the entry forwards away and that is a child port. -/
theorem outPorts_rootward {p : PortId} {s : State} (e : RouteEntry) (hroot : s.topo.rootward = some p) :
    s.outPorts (some p) e = if e.fwdAway = true ∧ s.isChild p.other = true then [p.other] else [] := by
  have hup : s.isChild p.other = true → s.isUp p.other = true := fun h => by
    simp only [State.isChild, Bool.and_eq_true] at h
    exact h.1.1
  unfold State.outPorts
  simp only [if_pos hroot]
  cases hc : s.isChild p.other with
  | false => cases p <;> simp_all [PortId.all, PortId.other]
  | true => cases p <;> cases hf : e.fwdAway <;> simp_all [PortId.all, PortId.other]

/-- R86, R87: the one copy of a parcel from the Rootward Port. -/
theorem forwardStream_child {p : PortId} {x : StreamParcel} {s : State} {e : RouteEntry} (hroot : s.topo.rootward = some p)
    (haway : e.fwdAway = true) (hchild : s.isChild p.other = true) :
    forwardStream (some p) x (s.setRoute x.tag e) =
      (s.setRoute x.tag { e with forwarded := bump e.forwarded }).updPort p.other (fun r => r.offerStream x) := by
  have hchild' : (s.setRoute x.tag e).isChild p.other = true := by rw [← hchild]; cases p <;> rfl
  have hout : (s.setRoute x.tag e).outPorts (some p) e = [p.other] :=
    (outPorts_rootward e hroot).trans (if_pos ⟨haway, hchild'⟩)
  rw [forwardStream, State.route_setRoute_same, hout, List.foldl_cons, List.foldl_nil, offerCopy, State.route_setRoute_same,
    State.setRoute_setRoute]

theorem forwardStream_nowhere {p : PortId} {x : StreamParcel} {s : State} {e : RouteEntry} (hroot : s.topo.rootward = some p)
    (haway : e.fwdAway = false) : forwardStream (some p) x (s.setRoute x.tag e) = s.setRoute x.tag e := by
  have hout : (s.setRoute x.tag e).outPorts (some p) e = [] := (outPorts_rootward e hroot).trans (if_neg (by simp [haway]))
  rw [forwardStream, State.route_setRoute_same, hout, List.foldl_nil]

theorem RouteEntry.track_expected {e : RouteEntry} {x : StreamParcel} (h : e.tracker = some (x.epoch, x.seq)) :
    e.track x = { e with tracker := some (expectedAfter x) } := by
  have hj : judgeSequence e.tracker x = .inOrder := by
    simp only [judgeSequence, h]
    exact if_pos ⟨by omega, trivial⟩
  simp only [RouteEntry.track, hj]

theorem RouteEntry.track_fwdAway (e : RouteEntry) (x : StreamParcel) : (e.track x).fwdAway = e.fwdAway := by
  unfold RouteEntry.track
  split <;> rfl

/-- Settles O39. -/
theorem streamParcelsAreForwarded : Obligations.StreamParcelsAreForwarded := by
  unfold Obligations.StreamParcelsAreForwarded
  intro p x s
  dsimp only
  intro hs hlen he haway hb hq htrack hroot hloop hchild
  have htake : takeStream (some p) x s = sendParcel (s.route x.tag).sinks x
      ((s.setRoute x.tag { s.route x.tag with
        inCount := bump (s.route x.tag).inCount, forwarded := bump (s.route x.tag).forwarded
        tracker := some (expectedAfter x) }).updPort p.other (fun r => r.offerStream x)) := by
    rw [takeStream_accepted he hroot hloop hq, RouteEntry.track_expected (e := (s.route x.tag).counted) htrack,
      forwardStream_child hroot (e := { (s.route x.tag).counted with tracker := _ }) haway hchild,
      handOver_unbound (e := (s.route x.tag).counted) hb]
    rfl
  refine ⟨_, exec_streamParcelReceived hs hlen, ?_⟩
  rw [htake, sendParcel_withSlots]
  have hother : p.other ≠ p := by cases p <;> decide
  refine ⟨?_, ?_, fun i => ?_, ?_, ?_, ?_, ?_⟩
  · show _ = { s.route x.tag with
      inCount := bump (s.route x.tag).inCount, forwarded := bump (s.route x.tag).forwarded, tracker := some (expectedAfter x) }
    cases p <;> exact State.route_setRoute_same _ _ _
  · rw [State.port_updPort, if_neg hother]
    cases p <;> rfl
  · have hslot : ∀ u : State, u.slots = s.slots → (sendParcel (s.route x.tag).sinks x u).slot i =
        if i < 16 ∧ (s.route x.tag).sinks.getLsbD i = true then (s.slot i).sinkParcel x else s.slot i := fun u hu => by
      rw [slot_sendParcel, State.slot, State.slot, hu]
    trans
    · cases p <;> exact hslot _ rfl
    · unfold Slot.sinkParcel laneCost
      by_cases hi : i < 16 ∧ (s.route x.tag).sinks.getLsbD i = true
      · by_cases hst : (s.slot i).state = .admitted
        · rw [if_pos hi, if_pos hst,
            if_pos (show i < 16 ∧ (s.route x.tag).sinks.getLsbD i = true ∧ (s.slot i).state = .admitted from ⟨hi.1, hi.2, hst⟩)]
        · rw [if_pos hi, if_neg hst, if_neg (fun h => hst h.2.2)]
      · rw [if_neg hi, if_neg (fun h => hi ⟨h.1, h.2.1⟩)]
  all_goals cases p <;> rfl

/-! ## Placement (R103, R104) -/

theorem sec_setSec_same (r : Binding) (i : Nat) (y : Section) : (r.setSec i y).sec i = y := by
  match i with
  | 0 => rfl
  | 1 => rfl
  | _ + 2 => rfl

/-- R104: a parcel placed in an OPEN section that lacks its sequence. -/
theorem placeIn_open {b i : Nat} {x : StreamParcel} {s : State} (ho : ((s.binding b).sec i).state = .opened)
    (hx : tfind ((s.binding b).sec i).received x.seq = none) :
    placeIn b i x s = { s.setBinding b ((s.binding b).setSec i (((s.binding b).sec i).place (s.binding b).size x)) with
      pool := poolWriteAll s.pool ((s.binding b).secBase i + x.seq * 256)
        (x.payload.take (placedBytes (s.binding b).size x.seq x.payload.length)) } := by
  simp only [placeIn, ho, hx, ne_eq, not_true_eq_false, if_false, Option.isSome_none, Bool.false_eq_true]
  rfl

theorem placeIn_duplicate {b i : Nat} {x : StreamParcel} {s : State} (ho : ((s.binding b).sec i).state = .opened)
    (hx : tfind ((s.binding b).sec i).received x.seq ≠ none) :
    placeIn b i x s = s.setBinding b { s.binding b with duplicate := bump (s.binding b).duplicate } := by
  simp [placeIn, ho, Option.isSome_iff_ne_none.2 hx]

theorem placeIn_unopened {b i : Nat} {x : StreamParcel} {s : State} (ho : ((s.binding b).sec i).state ≠ .opened) :
    placeIn b i x s = s.setBinding b { s.binding b with unopened := bump (s.binding b).unopened } := by
  simp [placeIn, ho]

/-- R103: the age of a parcel's epoch, modulo 2^16. -/
def State.parcelAge (s : State) (x : StreamParcel) : Nat := (s.rtu.epoch % 65536 + 65536 - x.epoch % 65536) % 65536

theorem placeParcel_near {b : Nat} {x : StreamParcel} {s : State} (h : (s.binding b).enabled = true) (hd : s.parcelAge x ≤ 1) :
    placeParcel b x s = placeIn b ((s.rtu.epoch + 3 - s.parcelAge x) % 3) x s := by
  unfold State.parcelAge at *
  simp [placeParcel, h, hd, sectionIndex]

theorem placeParcel_late {b : Nat} {x : StreamParcel} {s : State} (h : (s.binding b).enabled = true)
    (hd : 2 ≤ s.parcelAge x) (hd' : s.parcelAge x ≤ 32767) :
    placeParcel b x s = s.setBinding b { s.binding b with late := bump (s.binding b).late } := by
  unfold State.parcelAge at *
  simp [placeParcel, h, Nat.not_le.2 (show 1 < _ from hd), hd']

theorem placeParcel_early {b : Nat} {x : StreamParcel} {s : State} (h : (s.binding b).enabled = true)
    (hd : 32768 ≤ s.parcelAge x) :
    placeParcel b x s = s.setBinding b { s.binding b with early := bump (s.binding b).early } := by
  have hd1 : 1 < s.parcelAge x := Nat.lt_of_lt_of_le (by decide) hd
  unfold State.parcelAge at *
  simp [placeParcel, h, Nat.not_le.2 hd1, Nat.not_le.2 (show 32767 < _ from hd)]

/-- R104: the pool after a parcel is placed in an OPEN section that lacks its sequence. -/
theorem pool_placeIn_open {b i : Nat} {x : StreamParcel} {s : State} (ho : ((s.binding b).sec i).state = .opened)
    (hx : tfind ((s.binding b).sec i).received x.seq = none) :
    let n := placedBytes (s.binding b).size x.seq x.payload.length
    let start := (s.binding b).secBase i + x.seq * 256
    (∀ k, k < n → poolRead (placeIn b i x s).pool (start + k) = x.payload.getD k 0) ∧
      ∀ a, (a < start ∨ start + n ≤ a) → poolRead (placeIn b i x s).pool a = poolRead s.pool a := by
  dsimp only
  rw [placeIn_open ho hx]
  dsimp only
  generalize hn : placedBytes (s.binding b).size x.seq x.payload.length = n
  have hle : n ≤ x.payload.length := hn ▸ Nat.min_le_left _ _
  have hlen : (x.payload.take n).length = n := by rw [List.length_take, Nat.min_eq_left hle]
  refine ⟨fun k hk => ?_, fun a ha => ?_⟩
  · rw [poolRead_poolWriteAll_inside _ _ _ _ (lt_of_lt_of_eq hk hlen.symm), List.getElem_take,
      List.getD_eq_getElem _ _ (Nat.lt_of_lt_of_le hk hle)]
  · exact poolRead_poolWriteAll_outside _ _ _ _ (by rwa [hlen])

theorem sec_placeIn_open {b i : Nat} {x : StreamParcel} {s : State} (ho : ((s.binding b).sec i).state = .opened)
    (hx : tfind ((s.binding b).sec i).received x.seq = none) :
    ((placeIn b i x s).binding b).sec i = ((s.binding b).sec i).place (s.binding b).size x := by
  rw [placeIn_open ho hx]
  show ((s.setBinding b _).binding b).sec i = _
  rw [State.binding_setBinding_same, sec_setSec_same]

theorem Section.place_last (y : Section) (size : Nat) (x : StreamParcel) : (y.place size x).last =
    if x.last = true ∧ y.last = none then some (x.seq, x.payload.length) else y.last := by
  simp [Section.place]

/-- R103: placement changes no binding but the one a parcel is handed to. -/
theorem placeParcel_other {b j : Nat} (x : StreamParcel) (s : State) (h : j ≠ b) : (placeParcel b x s).binding j = s.binding j := by
  have hset : ∀ r, (s.setBinding b r).binding j = s.binding j := fun r => by rw [State.binding_setBinding, if_neg h]
  have hin : ∀ i, (placeIn b i x s).binding j = s.binding j := fun i => by
    unfold placeIn
    dsimp only
    split
    · exact hset _
    · split <;> exact hset _
  unfold placeParcel
  dsimp only
  split
  · exact hset _
  · split
    · exact hin _
    · split <;> exact hset _

/-- Settles O40. -/
theorem parcelsArePlaced : Obligations.ParcelsArePlaced := by
  unfold Obligations.ParcelsArePlaced
  intro p b x s
  dsimp only
  intro hs hlen he haway hsinks hb hq hroot hloop hen
  obtain ⟨u, htake, hu⟩ : ∃ u, takeStream (some p) x s = placeParcel b x u ∧
      u = s.setRoute x.tag ((s.route x.tag).counted.track x) := by
    have hset : (s.route x.tag).counted.sinks = 0 := hsinks
    rw [takeStream_accepted he hroot hloop hq,
      forwardStream_nowhere hroot ((RouteEntry.track_fwdAway (s.route x.tag).counted x).trans haway),
      handOver_bound (e := (s.route x.tag).counted) hb, hset, sendParcel_none]
    exact ⟨_, rfl, rfl⟩
  have hub : ∀ j, u.binding j = s.binding j := fun j => by rw [hu]; rfl
  have hage : (u.rtu.epoch % 65536 + 65536 - x.epoch % 65536) % 65536 = u.parcelAge x := rfl
  have hepoch : u.rtu.epoch = s.rtu.epoch := by rw [hu]; rfl
  have hpool : u.pool = s.pool := by rw [hu]; rfl
  have huen : (u.binding b).enabled = true := by rw [hub, hen]
  have hslots : (placeParcel b x u).slots = s.slots ∧ (placeParcel b x u).trans = s.trans := by
    rw [placeParcel_frame, hu]
    exact ⟨rfl, rfl⟩
  have hbind : ∀ (v : State) j, (v.updPort p fun r => r.freeBuffer .stream).binding j = v.binding j := fun v j => by
    cases p <;> rfl
  refine ⟨_, exec_streamParcelReceived hs hlen, ?_⟩
  rw [htake]
  simp only [hbind, State.updPort_pool, State.updPort_slots, State.updPort_trans, ← hepoch, hage, ← hub, ← hpool]
  clear hu htake hen
  refine ⟨fun j hj => placeParcel_other _ _ hj, hslots.1, hslots.2, fun ⟨hd, ho, hx⟩ => ?_, fun ⟨hd, ho, hx⟩ => ?_, fun ⟨hd, ho⟩ => ?_,
    fun ⟨hd, hd'⟩ => ?_, fun hd => ?_⟩
  · rw [placeParcel_near huen hd]
    obtain ⟨hinside, houtside⟩ := pool_placeIn_open ho hx
    refine ⟨hinside, houtside, (sec_placeIn_open ho hx).trans ?_⟩
    rw [← Section.place_last _ (u.binding b).size]
    rfl
  · rw [placeParcel_near huen hd, placeIn_duplicate ho hx, State.binding_setBinding_same]
    exact ⟨rfl, rfl⟩
  · rw [placeParcel_near huen hd, placeIn_unopened (by rw [ho]; decide), State.binding_setBinding_same]
    exact ⟨rfl, rfl⟩
  · rw [placeParcel_late huen hd hd', State.binding_setBinding_same]
    exact ⟨rfl, rfl⟩
  · rw [placeParcel_early huen hd, State.binding_setBinding_same]
    exact ⟨rfl, rfl⟩

end Sys2Proof.Machine
end

section
/-! SUPPORT. The writes of the Route Table, of its guard and of the bindings (O44 to O46). -/

namespace Sys2Proof.Machine

variable {s : State}

/-! ## A write of one record -/

theorem writeEach_single {α : Type} (f : Nat → α → State → Status × State) (i : Nat) (w : α) (s : State) :
    writeEach f i [w] s = f i w s := by
  cases h : f i w s with
  | mk st t => cases st <;> simp only [writeEach, h]

theorem mem_of_tfind {α : Type} {t : List (Nat × α)} {k : Nat} {v : α} (h : tfind t k = some v) : (k, v) ∈ t := by
  induction t with
  | nil => exact absurd h (by simp)
  | cons e t ih =>
    obtain ⟨j, w⟩ := e
    by_cases hj : j = k
    · simp only [tfind, if_pos hj, Option.some.injEq] at h
      exact List.mem_cons.2 (.inl (by rw [hj, h]))
    · simp only [tfind, if_neg hj] at h
      exact List.mem_cons.2 (.inr (ih h))

/-- An ACTIVE entry stands in the table. -/
theorem mem_table_of_active {k : Nat} (h : (s.route k).active = true) : (k, s.route k) ∈ s.router.table := by
  cases hf : tfind s.router.table k with
  | none => simp [State.route, tgetD, hf] at h
  | some e =>
    have he : s.route k = e := by simp [State.route, tgetD, hf]
    rw [he]
    exact mem_of_tfind hf

/-! ## The Route Table (R77, R78, R90) -/

theorem routeInRange_iff {w : RouteWrite} : routeInRange w = true ↔ w.mode ≤ 1 ∧ w.source.getD 0 ≤ 15 ∧
    w.binding.getD 0 ≤ 63 ∧ w.q ≤ 65535 ∧ ¬(w.source.isSome = true ∧ w.q = 0) := by
  simp only [routeInRange, Bool.and_eq_true, decide_eq_true_eq, Bool.not_eq_true', Bool.and_eq_false_iff, beq_eq_false_iff_ne,
    and_assoc, not_and_or, Bool.not_eq_true]

theorem bindingNamed_iff {tag : Nat} {b : Option Nat} : s.bindingNamed tag b = true ↔
    b.isSome = true ∧ ∃ x ∈ s.router.table, x.1 ≠ tag ∧ x.2.active = true ∧ x.2.binding = b := by
  simp [State.bindingNamed, and_assoc]

/-- R90: the Limit of a port at its rate. -/
theorem rateLimit_eq (r : Rate) : rateLimit r = if r = .fast then 786432 else 196608 := by cases r <;> rfl

/-- R89: what an INVALID entry contributes. -/
theorem contribution_inactive {e : RouteEntry} (h : e.active = false) (p : PortId) : s.contribution p e = 0 := by
  simp [State.contribution, State.entryUses, h]

/-- R90: a new sum that is no more than the present one or the Limit is accepted. -/
theorem overLimit_eq_false {old new : RouteEntry} {p : PortId} (h : s.committedAfter p old new ≤ (s.router.port p).committed ∨
    s.committedAfter p old new ≤ rateLimit (s.port p).rate) : s.overLimit old new p = false := by
  simp only [State.overLimit, Bool.and_eq_false_iff, decide_eq_false_iff_not]
  omega

theorem foldl_settleCommitted (old new : RouteEntry) (s : State) :
    ∃ r : PortId → RouterPort, PortId.all.foldl (settleCommitted old new) s = { s with router := { s.router with port0 := r .p0, port1 := r .p1 } } ∧
      ∀ p, (r p).committed = s.committedAfter p old new ∧
        (r p).overcommitted = decide (rateLimit (s.port p).rate < s.committedAfter p old new) :=
  ⟨fun p => { s.router.port p with
      committed := s.committedAfter p old new
      overcommitted := decide (rateLimit (s.port p).rate < s.committedAfter p old new) }, rfl, fun _ => ⟨rfl, rfl⟩⟩

/-- R77 to R79, R90: an accepted write of one entry. -/
theorem writeRoute_ok {tag : Nat} {w : RouteWrite} (hg : s.router.guard.covers tag = false) (hr : routeInRange w = true)
    (hn : w.mode = 1 → s.bindingNamed tag w.binding = false)
    (hl : w.mode = 1 → ∀ p, s.overLimit (s.route tag) ((s.route tag).written w) p = false) :
    ∃ r, writeRoute tag w s = (.ok, { s with router := r }) ∧
      (∀ k, tgetD {} r.table k = if k = tag then (s.route tag).written w else s.route k) ∧ r.guard = s.router.guard ∧
      ∀ p, (r.port p).committed = s.committedAfter p (s.route tag) ((s.route tag).written w) ∧ (r.port p).overcommitted =
        decide (rateLimit (s.port p).rate < s.committedAfter p (s.route tag) ((s.route tag).written w)) := by
  have h1 : ¬(w.mode = 1 ∧ s.bindingNamed tag w.binding = true) := fun ⟨hm, h⟩ => by simp [hn hm] at h
  have h2 : ¬(w.mode = 1 ∧ (s.overLimit (s.route tag) ((s.route tag).written w) .p0 = true ∨
      s.overLimit (s.route tag) ((s.route tag).written w) .p1 = true)) := fun ⟨hm, h⟩ => by simp [hl hm] at h
  obtain ⟨r, hab, hsum⟩ := foldl_settleCommitted (s.route tag) ((s.route tag).written w) s
  have hw : writeRoute tag w s = (.ok, (PortId.all.foldl (settleCommitted (s.route tag) ((s.route tag).written w)) s).setRoute tag
      ((s.route tag).written w)) := by
    simp [writeRoute, hg, hr, h1, h2]
  rw [hw, hab]
  exact ⟨_, rfl, fun k => tgetD_tset _ _ _ _ _, rfl, fun p => by cases p <;> exact hsum _⟩

/-- A completion depends neither on the router nor on the bindings and slots. -/
theorem accepts_units (r : Router) (b : List (Nat × Binding)) (l : List (Nat × Slot)) (f : Nat) :
    ({ s.wrote with router := r, bindings := b, slots := l } : State).accepts f = s.accepts f :=
  accepts_congr f rfl (fun p => by cases p <;> rfl) (fun p => by cases p <;> rfl)

theorem overLimit_wrote (old new : RouteEntry) (p : PortId) : s.wrote.overLimit old new p = s.overLimit old new p := by
  cases p <;> rfl

/-- R77: an accepted write of one entry, answered. -/
theorem answered_writeRoute {who : Requester} {tag : Nat} {w : RouteWrite} (ho : s.obeys who = true)
    (ha : s.accepts who.frame = true) (hg : s.router.guard.covers tag = false) (hr : routeInRange w = true)
    (hn : w.mode = 1 → s.bindingNamed tag w.binding = false)
    (hl : w.mode = 1 → ∀ p, s.overLimit (s.route tag) ((s.route tag).written w) p = false) :
    ∃ s1, Answered who .ok s1 (managed who (writeEach writeRoute tag [w]) s) ∧
      s1.route tag = (s.route tag).written w ∧ (∀ k, k ≠ tag → s1.route k = s.route k) ∧ s1.router.guard = s.router.guard ∧
      s1 = { s.wrote with router := s1.router } ∧
      ∀ p, (s1.router.port p).committed = s.committedAfter p (s.route tag) ((s.route tag).written w) ∧
        (s1.router.port p).overcommitted =
          decide (rateLimit (s.port p).rate < s.committedAfter p (s.route tag) ((s.route tag).written w)) := by
  obtain ⟨r, hw, hroute, hguard, hsum⟩ := writeRoute_ok (s := s.wrote) (tag := tag) (w := w) hg hr hn
    (fun hm p => (overLimit_wrote _ _ p).trans (hl hm p))
  have hans := managed_of_accepts ho ((writeEach_single writeRoute tag w s.wrote).trans hw) ((accepts_units r _ _ _).trans ha)
  exact ⟨_, hans, (hroute tag).trans (if_pos rfl), fun k hk => (hroute k).trans (if_neg hk), hguard, rfl,
    fun p => by cases p <;> exact hsum _⟩

/-- R78, R79: the entry that a write leaves ACTIVE. -/
theorem written_active {e : RouteEntry} {w : RouteWrite} (h : w.mode = 1) : e.written w = { e with
    active := true, source := w.source, fwdRoot := w.fwdRoot, fwdAway := w.fwdAway, sinks := w.sinks
    binding := w.binding, q := w.q, tracker := none
    packer := if w.source.isSome = true then (if e.packer.isSome = true ∧ e.source = w.source then e.packer else some {}) else none } := by
  simp [RouteEntry.written, h]

theorem written_inactive {e : RouteEntry} {w : RouteWrite} (h : w.mode = 0) : e.written w = { e with
    active := false, source := w.source, fwdRoot := w.fwdRoot, fwdAway := w.fwdAway, sinks := w.sinks
    binding := w.binding, q := w.q, tracker := none, packer := none } := by
  simp [RouteEntry.written, h]

theorem routeInRange_of {w : RouteWrite} (hm : w.mode ≤ 1) (hs : ∀ i, w.source = some i → i ≤ 15 ∧ 0 < w.q) (hq : w.q ≤ 65535)
    (hb : ∀ b, w.binding = some b → b ≤ 63) : routeInRange w = true := by
  refine routeInRange_iff.2 ⟨hm, ?_, ?_, hq, ?_⟩
  · cases h : w.source with
    | none => exact Nat.zero_le _
    | some i => exact (hs i h).1
  · cases h : w.binding with
    | none => exact Nat.zero_le _
    | some b => exact hb b h
  · rintro ⟨hsome, hq0⟩
    obtain ⟨i, h⟩ := Option.isSome_iff_exists.1 hsome
    exact absurd hq0 (Nat.pos_iff_ne_zero.1 (hs i h).2)

/-- R89: what an entry may add to a port's sum. -/
theorem committedAfter_le {old new : RouteEntry} {p : PortId} {n : Nat} (hn : new.fwdRoot = true ∨ new.fwdAway = true →
    (s.router.port p).committed + wireBytes new.q ≤ n) : s.committedAfter p old new ≤ (s.router.port p).committed ∨
      s.committedAfter p old new ≤ n := by
  unfold State.committedAfter
  by_cases h : s.entryUses p new = true
  · refine .inr ?_
    have hfwd : new.fwdRoot = true ∨ new.fwdAway = true := by
      simp only [State.entryUses, Bool.and_eq_true, Bool.or_eq_true] at h
      exact h.2.imp And.left And.left
    have hc : s.contribution p new = wireBytes new.q := if_pos h
    have := hn hfwd
    omega
  · have hc : s.contribution p new = 0 := if_neg h
    omega

/-- R92, R93: a write of the Route Table's guard. -/
theorem writeRouteGuard_cases (w : GuardWrite) (s : State) : writeRouteGuard w s =
    if s.router.guard.locked = true then (.writeProtected, s)
    else if w.low ≤ 1023 ∧ w.high ≤ 1023 then
      (.ok, { s with router := { s.router with guard := ⟨w.low, w.high, w.complement, w.locked⟩ } })
    else (.badRequest, s) := by
  unfold writeRouteGuard Guard.write
  by_cases hlock : s.router.guard.locked = true
  · simp only [if_pos hlock]
  · by_cases hw : w.low ≤ 1023 ∧ w.high ≤ 1023
    · have hw' : ¬(1023 < w.low ∨ 1023 < w.high) := by omega
      simp only [if_neg hlock, if_pos hw, if_neg hw']
    · have hw' : 1023 < w.low ∨ 1023 < w.high := by omega
      simp only [if_neg hlock, if_neg hw, if_pos hw']

/-- Settles O44. -/
theorem routesAreWritten : Obligations.RoutesAreWritten := by
  unfold Obligations.RoutesAreWritten
  intro who s ho ha
  have hrefused : ∀ {tag w st}, writeRoute tag w s.wrote = (st, s.wrote) →
      Answered who st s.wrote (managed who (writeEach writeRoute tag [w]) s) :=
    fun {tag w st} h => managed_of_accepts ho ((writeEach_single writeRoute tag w s.wrote).trans h) (by rwa [accepts_wrote])
  refine ⟨fun tag w htag => ?_, fun w => ?_⟩
  · refine ⟨_, rfl, fun hg => hrefused ?guarded, fun ⟨hg, hbad⟩ => hrefused ?range,
      fun k b ⟨hg, hm, hq, hs, hsq, hb, hb63, hk, hka, hkb⟩ => hrefused ?named, fun ⟨hg, hm, hs, hq, hb⟩ => ?invalid,
      fun ⟨hg, hm, hs, hq, hb, hl⟩ => ?active⟩
    case guarded => exact if_pos hg
    case range =>
      have hout : routeInRange w = false := by
        refine Bool.eq_false_iff.2 fun h => ?_
        obtain ⟨hm, hs, hb, hq, hsq⟩ := routeInRange_iff.1 h
        rcases hbad with h | h | h | ⟨i, h, hi⟩ | ⟨b, h, hi⟩
        · exact absurd hm (Nat.not_le.2 h)
        · exact absurd hq (Nat.not_le.2 h)
        · exact hsq h
        · rw [h, Option.getD_some] at hs; omega
        · rw [h, Option.getD_some] at hb; omega
      have hg' : s.wrote.router.guard.covers tag = false := hg
      simp [writeRoute, hg', hout]
    case named =>
      have hin : routeInRange w = true := routeInRange_iff.2 ⟨Nat.le_of_eq hm, hs, by rwa [hb], hq,
        fun ⟨h, h0⟩ => absurd h0 (Nat.pos_iff_ne_zero.1 (hsq h))⟩
      have hnamed : s.wrote.bindingNamed tag w.binding = true := bindingNamed_iff.2
        ⟨by rw [hb]; rfl, _, mem_table_of_active hka, hk, hka, by rw [hb]; exact hkb⟩
      have hg' : s.wrote.router.guard.covers tag = false := hg
      simp [writeRoute, hg', hin, hm, hnamed]
    case invalid =>
      have hne : w.mode ≠ 1 := by omega
      obtain ⟨s1, hans, hroute, hother, hguard, hs1, -⟩ := answered_writeRoute ho ha hg
        (routeInRange_of (by omega) hs hq hb) (absurd · hne) (absurd · hne)
      exact ⟨s1, hans, hroute.trans (written_inactive hm), hother, hguard, hs1⟩
    case active =>
      have hnamed : s.bindingNamed tag w.binding = false := by
        refine Bool.eq_false_iff.2 fun h => ?_
        obtain ⟨hsome, x, hx, hk, hxa, hxb⟩ := bindingNamed_iff.1 h
        obtain ⟨b, hwb⟩ := Option.isSome_iff_exists.1 hsome
        exact (hb b hwb).2 x hx hk hxa (hxb.trans hwb)
      have hlimit : ∀ p, s.overLimit (s.route tag) ((s.route tag).written w) p = false := fun p =>
        overLimit_eq_false (committedAfter_le fun hfwd => by rw [rateLimit_eq]; exact hl hfwd p)
      obtain ⟨s1, hans, hroute, hother, hguard, hs1, -⟩ := answered_writeRoute ho ha hg
        (routeInRange_of (Nat.le_of_eq hm) hs hq fun b h => (hb b h).1) (fun _ => hnamed) (fun _ => hlimit)
      refine ⟨s1, _, hans, hroute.trans (written_active hm), fun h => ?_, fun ⟨h, hsrc, hpk⟩ => ?_, fun ⟨h, hno⟩ => ?_,
        hother, hguard, hs1⟩
      · rw [h]; rfl
      · rw [if_pos h, if_pos ⟨hpk, hsrc⟩]
      · refine ⟨{}, ?_, rfl, rfl, rfl, rfl⟩
        rw [if_pos h, if_neg fun ⟨hpk, hsrc⟩ => hno.elim (fun hn => by simp [hn] at hpk) (fun hn => hn hsrc)]
  · have hw := writeRouteGuard_cases w s.wrote
    by_cases hlock : s.router.guard.locked = true
    · obtain ⟨t, ht, hans⟩ := answered_of_accepts (i := .routeGuardWrite who w) rfl ho (hw.trans (if_pos hlock)) (by rwa [accepts_wrote])
      exact ⟨t, ht, (if_pos hlock).symm ▸ hans⟩
    · rw [if_neg (show ¬s.wrote.router.guard.locked = true from hlock)] at hw
      by_cases hr : w.low ≤ 1023 ∧ w.high ≤ 1023
      · obtain ⟨t, ht, hans⟩ := answered_of_accepts (i := .routeGuardWrite who w) rfl ho (hw.trans (if_pos hr))
          ((accepts_units _ _ _ _).trans ha)
        simp only [if_neg hlock, if_pos hr]
        exact ⟨t, ht, hans⟩
      · simp only [if_neg hlock, if_neg hr]
        exact answered_of_accepts rfl ho (hw.trans (if_neg hr)) (by rwa [accepts_wrote])

/-- Settles O45. -/
theorem bandwidthIsCommitted : Obligations.BandwidthIsCommitted := by
  unfold Obligations.BandwidthIsCommitted
  intro who s p tag w ho ha hroot hchild htag hg hinv hm hsrc hbind hfwd hq
  dsimp only
  have hin : routeInRange w = true := routeInRange_of (Nat.le_of_eq hm) (by simp [hsrc]) hq (by simp [hbind])
  have hnamed : s.bindingNamed tag w.binding = false := Bool.eq_false_iff.2 fun h => by
    have := (bindingNamed_iff.1 h).1
    simp [hbind] at this
  have hnew : ((s.route tag).written w).active = true ∧ ((s.route tag).written w).fwdRoot = true ∧
      ((s.route tag).written w).q = w.q := by
    rw [written_active hm]
    exact ⟨rfl, hfwd, rfl⟩
  obtain ⟨hact, hfr, hwq⟩ := hnew
  have hsum : s.committedAfter p (s.route tag) ((s.route tag).written w) =
      (s.router.port p).committed + (w.q + 20 * (w.q / 256 + 1)) := by
    have hold := contribution_inactive (s := s) hinv p
    have hcontr : s.contribution p ((s.route tag).written w) = wireBytes w.q := by
      rw [State.contribution, State.entryUses, hact, hfr, hroot, hwq]
      simp
    rw [State.committedAfter, hold, hcontr]
    rfl
  have hother : s.committedAfter p.other (s.route tag) ((s.route tag).written w) ≤ (s.router.port p.other).committed := by
    have hcontr : s.contribution p.other ((s.route tag).written w) = 0 := by
      have hp : (p == p.other) = false := by cases p <;> rfl
      rw [State.contribution, State.entryUses, hchild, hroot]
      simp [hp]
    rw [State.committedAfter, hcontr]
    omega
  refine ⟨_, rfl, fun hlt => ?_, fun hle => ?_⟩
  · have hover : s.wrote.overLimit (s.route tag) ((s.route tag).written w) p = true := by
      rw [overLimit_wrote, State.overLimit, hsum, rateLimit_eq]
      refine Bool.and_eq_true_iff.2 ⟨decide_eq_true hlt, decide_eq_true ?_⟩
      omega
    have hboth : s.wrote.overLimit (s.wrote.route tag) ((s.wrote.route tag).written w) .p0 = true ∨
        s.wrote.overLimit (s.wrote.route tag) ((s.wrote.route tag).written w) .p1 = true := by
      cases p
      · exact .inl hover
      · exact .inr hover
    have hg' : s.wrote.router.guard.covers tag = false := hg
    have hnamed' : s.wrote.bindingNamed tag w.binding = false := hnamed
    refine managed_of_accepts ho ((writeEach_single writeRoute tag w s.wrote).trans ?_) (by rwa [accepts_wrote])
    simp [writeRoute, hg', hin, hnamed', hm, hboth]
  · have hlimit : ∀ q, s.overLimit (s.route tag) ((s.route tag).written w) q = false := fun q => by
      by_cases h : q = p
      · subst h
        exact overLimit_eq_false (.inr (by rw [hsum, rateLimit_eq]; exact hle))
      · have hqo : q = p.other := by cases p <;> cases q <;> first | rfl | exact absurd rfl h
        subst hqo
        exact overLimit_eq_false (.inl hother)
    obtain ⟨s1, hans, hroute, -, -, -, hports⟩ := answered_writeRoute ho ha hg hin (fun _ => hnamed) (fun _ => hlimit)
    obtain ⟨hc, hover⟩ := hports p
    refine ⟨s1, hans, hc.trans hsum, ?_, by rw [hroute, hact], by rw [hroute, hwq]⟩
    rw [hover, hsum, rateLimit_eq]
    exact decide_eq_false (Nat.not_lt.2 hle)

/-! ## Bindings (R97 to R99) -/

/-- The manager's write of binding 0 with a Swap code above 3. -/
def swapFour : BindingWrite := ⟨0, 1, 1, 0, 4⟩

/-- The state after reset, as the model answers that write. -/
def afterSwapFour : State := managed ⟨0, 0, 0⟩ (writeEach writeBinding 0 [swapFour]) State.reset

/-- `Swap.ofCode` names no swap out of range as `Swap.none`: the write is performed. -/
theorem afterSwapFour_base : (afterSwapFour.binding 0).base = 1 := by decide

theorem refused_base : (sendCompletion false ⟨0, 0, 0⟩ .badRequest [] State.reset.wrote).map (fun t => (t.binding 0).base) = some 0 := by
  decide

/-- Refutes O46: a Swap code above 3 is not refused, as the last case of `Swap.ofCode` is `Swap.none` and not `Option.none`. -/
theorem not_bindingsAreWritten : ¬Obligations.BindingsAreWritten := by
  unfold Obligations.BindingsAreWritten
  intro h
  obtain ⟨t, ht, hrefused, -⟩ := h ⟨0, 0, 0⟩ State.reset 0 swapFour (by decide) (by decide) (by decide)
  have heq : afterSwapFour = t := Host.Outcome.next.inj ht
  have hans : sendCompletion false ⟨0, 0, 0⟩ .badRequest [] State.reset.wrote = some t := hrefused (.inl (by decide))
  have hbase := refused_base
  rw [hans, Option.map_some, Option.some.injEq, ← heq, afterSwapFour_base] at hbase
  exact absurd hbase (by decide)

/-- R99: one slot once a binding is disabled. -/
def Slot.dropBinding (b : Nat) (r : Slot) : Slot := (r.dropDelivery (fun e => e.binding == b)).unsend (isSectionOf b none)

theorem dropDeliveries_withSlots (b : Nat) (s : State) : dropDeliveries b s = s.withSlots (dropDeliveries b s) :=
  foldl_withSlots (fun _ _ => rfl) _ s

theorem slot_dropDeliveries (b : Nat) (s : State) (i : Nat) :
    (dropDeliveries b s).slot i = if i < 16 then (s.slot i).dropBinding b else s.slot i := by
  show ((List.range 16).foldl (fun u i => u.updSlot i (Slot.dropBinding b)) s).slot i = _
  rw [slot_foldl (g := fun _ => Slot.dropBinding b) (fun u i j => State.slot_updSlot u i j _) List.nodup_range]
  simp only [List.mem_range]

/-- R99, R102: messages not sent change only what is committed and the credits. -/
theorem unsend_frame (r : Slot) (p : LaneMsg → Bool) :
    r.unsend p = { r with committed := (r.unsend p).committed, available := (r.unsend p).available } := by
  unfold Slot.unsend
  split
  · rfl
  · split <;> rfl

end Sys2Proof.Machine
end

section
/-! SUPPORT. Answers (R129, R151, R152, R156, R160): what a completion, an answer and the departure cleanup of a slot may
change, and what they leave of the Inbound Request List, the locks and the Outstanding Transaction Table. -/

namespace Sys2Proof.Machine

variable {s t u : State}

/-! ## Tables -/

theorem mem_of_mem_tins {α : Type} {t : List (Nat × α)} {k : Nat} {v : α} {x : Nat × α} (h : x ∈ tins k v t) :
    x = (k, v) ∨ x ∈ t := by
  induction t with
  | nil => exact .inl (List.mem_singleton.1 h)
  | cons e r ih =>
    unfold tins at h
    split at h
    · exact List.mem_cons.1 h
    · rcases List.mem_cons.1 h with h | h
      · exact .inr (List.mem_cons.2 (.inl h))
      · exact (ih h).imp_right (List.mem_cons_of_mem _)

theorem mem_of_mem_tdel {α : Type} {t : List (Nat × α)} {k : Nat} {x : Nat × α} (h : x ∈ tdel t k) : x ∈ t :=
  (List.mem_filter.1 h).1

theorem mem_of_mem_tput {α : Type} {t : List (Nat × α)} {k : Nat} {v : α} {x : Nat × α} (h : x ∈ tput t k v) :
    x = (k, v) ∨ x ∈ t :=
  (mem_of_mem_tins h).imp_right mem_of_mem_tdel

theorem tfind_ne_none {α : Type} {t : List (Nat × α)} {k : Nat} {v : α} (h : (k, v) ∈ t) : tfind t k ≠ none := by
  induction t with
  | nil => cases h
  | cons e t ih =>
    obtain ⟨j, w⟩ := e
    by_cases hj : j = k
    · simp [tfind, hj]
    · simp only [tfind, if_neg hj]
      exact ih ((List.mem_cons.1 h).resolve_left fun he => hj (Prod.mk.inj he).1.symm)

/-! ## What answering may change -/

/-- From `s` to `t` requests are answered: completion queues grow, OTT entries end, back off or are answered, and
besides the Transaction Unit, the channels and the Event Summary nothing changes. -/
structure Answering (s t : State) : Prop where
  units : ∃ a b tr ch m n, t = { s with port0 := a, port1 := b, trans := tr, channels := ch, mgmt := m, serial := n }
  ports : ∀ p, ∃ l, t.port p = { s.port p with qCompletion := (s.port p).qCompletion ++ l }
  ott : ∀ x ∈ t.trans.ott, x.2.awaitsRoute = true ∨ (∀ y ∈ s.trans.ott, y.2.id ≠ x.2.id) → x ∈ s.trans.ott
  events : ∀ k, (s.event k).pending = true → (t.event k).pending = true

theorem port_append_nil (r : Port) : r = { r with qCompletion := r.qCompletion ++ [] } := by rw [List.append_nil]

theorem Answering.refl (s : State) : Answering s s where
  units := ⟨_, _, _, _, _, _, rfl⟩
  ports _ := ⟨[], port_append_nil _⟩
  ott _ hx _ := hx
  events _ h := h

theorem Answering.trans (h : Answering s t) (h' : Answering t u) : Answering s u where
  units := by
    obtain ⟨_, _, _, _, _, _, rfl⟩ := h.units
    obtain ⟨_, _, _, _, _, _, rfl⟩ := h'.units
    exact ⟨_, _, _, _, _, _, rfl⟩
  ports p := by
    obtain ⟨l, hl⟩ := h.ports p
    obtain ⟨l', hl'⟩ := h'.ports p
    exact ⟨l ++ l', by rw [hl', hl, List.append_assoc]⟩
  ott x hx hc := by
    have hsub : ∀ y ∈ t.trans.ott, ∃ z ∈ s.trans.ott, z.2.id = y.2.id := fun y hy => by
      by_contra hno
      push Not at hno
      exact hno y (h.ott y hy (.inr hno)) rfl
    have ht : x ∈ t.trans.ott := h'.ott x hx (hc.imp_right fun hno y hy he => by
      obtain ⟨z, hz, hze⟩ := hsub y hy
      exact hno z hz (hze.trans he))
    exact h.ott x ht hc
  events k hk := h'.events k (h.events k hk)

/-- A change of the Transaction Unit alone that adds nothing to the table. -/
theorem Answering.ofTrans {tr : Trans} (h : ∀ x ∈ tr.ott, x ∈ s.trans.ott) : Answering s { s with trans := tr } where
  units := ⟨_, _, _, _, _, _, rfl⟩
  ports p := ⟨[], by cases p <;> exact port_append_nil _⟩
  ott x hx _ := h x hx
  events _ h := h

theorem Answering.topo (h : Answering s t) : t.topo = s.topo := by obtain ⟨_, _, _, _, _, _, rfl⟩ := h.units; rfl

theorem Answering.slots (h : Answering s t) : t.slots = s.slots := by obtain ⟨_, _, _, _, _, _, rfl⟩ := h.units; rfl

theorem Answering.slot (h : Answering s t) (i : Nat) : t.slot i = s.slot i := by rw [State.slot, h.slots]; rfl

theorem Answering.localTime (h : Answering s t) : t.localTime = s.localTime := by
  obtain ⟨_, _, _, _, _, _, rfl⟩ := h.units; rfl

theorem Answering.routeTo (h : Answering s t) (f : Nat) : t.routeTo f = s.routeTo f := by
  unfold State.routeTo
  rw [h.topo]

theorem Answering.isUp (h : Answering s t) (p : PortId) : t.isUp p = s.isUp p := by
  obtain ⟨l, hl⟩ := h.ports p
  rw [State.isUp, State.isUp, hl]

theorem Answering.routed (h : Answering s t) (hs : s.routed) : t.routed := fun x hx => by
  by_contra hc
  have hc' : x.2.awaitsRoute = true := by simpa using hc
  exact absurd (hs x (h.ott x hx (.inl hc'))) (by rw [hc']; decide)

theorem Answering.ids (h : Answering s t) {i : Nat} (hs : ∀ x ∈ s.trans.ott, x.2.id ≠ i) : ∀ x ∈ t.trans.ott, x.2.id ≠ i :=
  fun x hx he => hs x (h.ott x hx (.inr fun y hy hye => hs y hy (hye.trans he))) he

/-! ## The steps of an answer -/

theorem Answering.nextSerial (h : Answering s t) : Answering s t.nextSerial := h.trans
  { units := ⟨_, _, _, _, _, _, rfl⟩
    ports := fun p => ⟨[], by cases p <;> exact port_append_nil _⟩
    ott := fun x hx _ => hx
    events := fun _ h => h }

theorem Answering.setChannel (c : Nat) (r : Channel) : Answering s (s.setChannel c r) where
  units := ⟨_, _, _, _, _, _, rfl⟩
  ports p := ⟨[], by cases p <;> exact port_append_nil _⟩
  ott x hx _ := hx
  events _ h := h

theorem Answering.updMgmt {f : Mgmt → Mgmt} (h : ∀ m, (f m).summary = m.summary) : Answering s (s.updMgmt f) where
  units := ⟨_, _, _, _, _, _, rfl⟩
  ports p := ⟨[], by cases p <;> exact port_append_nil _⟩
  ott x hx _ := hx
  events k hk := by
    show (tgetD {} (f s.mgmt).summary k).pending = true
    rw [h]
    exact hk

theorem Answering.raise (k : EventKind) : Answering s (raise k s) where
  units := ⟨_, _, _, _, _, _, rfl⟩
  ports p := ⟨[], by cases p <;> exact port_append_nil _⟩
  ott x hx _ := hx
  events _ h := pending_raise (.inl h)

theorem Answering.noteFreed (h : Answering s t) : Answering s (u.noteFreed t) := by
  rcases noteFreed_cases u t with ⟨-, g, l, he⟩ | ⟨-, he⟩ <;> rw [he]
  · exact h.trans (.ofTrans fun x hx => hx)
  · exact h

/-- R152, R156: an entry that is answered or backs off keeps its requester and awaits no route. -/
theorem Answering.setOtt {i : Nat} {e e' : OttEntry} (hs : s.ottEntry i = some e) (hid : e'.id = e.id)
    (hw : e'.awaitsRoute = false) : Answering s (s.setOtt i e') where
  units := ⟨_, _, _, _, _, _, rfl⟩
  ports p := ⟨[], by cases p <;> exact port_append_nil _⟩
  ott x hx hc := by
    rcases mem_of_mem_tput hx with rfl | hx
    · rcases hc with hc | hc
      · exact absurd hc (by rw [hw]; decide)
      · exact absurd hid.symm (hc _ (mem_of_tfind hs))
    · exact hx
  events _ h := h

/-- R169 to R171: a channel takes its answer. -/
theorem answering_channelAnswer (c tag : Nat) (st : Status) (d : List Byte) (s : State) :
    Answering s (channelAnswer c tag st d s) := by
  unfold channelAnswer
  dsimp only
  split
  · exact .setChannel _ _
  · split
    · exact (Answering.setChannel _ _).trans (.raise _)
    · split
      · unfold chunkWritten
        dsimp only
        split
        · exact (Answering.setChannel _ _).trans (.raise _)
        · exact .setChannel _ _
      · exact .setChannel _ _

/-- R180: the notice engine takes its answer. -/
theorem answering_noticeAnswer (tag : Nat) (st : Status) (s : State) : Answering s (noticeAnswer tag st s) := by
  have hsettle : ∀ k n (v : State), Answering v (settleNotice k n v) := fun k n v => by
    unfold settleNotice
    dsimp only
    split
    · exact
        { units := ⟨_, _, _, _, _, _, rfl⟩
          ports := fun p => ⟨[], by cases p <;> exact port_append_nil _⟩
          ott := fun x hx _ => hx
          events := fun j hj => by
            rw [State.event_setEvent]
            split
            · next he => subst he; exact hj
            · exact hj }
    · exact .refl v
  unfold noticeAnswer
  split
  · exact .refl s
  · split
    · exact .refl s
    · have hmgmt : Answering s (s.updMgmt (fun m => if st = .ok then
          { m with inFlight := none, noticesSent := bump m.noticesSent }
        else { m with inFlight := none, noticesFailed := bump m.noticesFailed })) :=
        .updMgmt fun m => by split <;> rfl
      dsimp only
      split
      · exact hmgmt
      · exact hmgmt.trans (hsettle _ _ _)

theorem answering_delOtt (i : Nat) (s : State) : Answering s (s.delOtt i) := .ofTrans fun _ hx => mem_of_mem_tdel hx

theorem answering_freeOtt (i : Nat) (s : State) : Answering s (s.freeOtt i) := (answering_delOtt i s).noteFreed

theorem answering_answerEntry (i : Nat) (st : Status) (d : List Byte) (s : State) : Answering s (answerEntry i st d s) := by
  unfold answerEntry
  split
  · exact .refl s
  · next e he =>
    dsimp only
    split
    · exact ((answering_delOtt i s).trans (answering_channelAnswer _ _ _ _ _)).noteFreed
    · split
      · exact ((answering_delOtt i s).trans (answering_noticeAnswer _ _ _)).noteFreed
      · exact (Answering.setOtt he (by rfl) (by rfl)).nextSerial

theorem answering_completionHere (id tag : Nat) (st : Status) (d : List Byte) (s : State) :
    Answering s (completionHere id tag st d s) := by
  unfold completionHere
  dsimp only
  split
  · exact .ofTrans fun _ hx => hx
  · split
    · exact .ofTrans fun _ hx => hx
    · next e he =>
      split
      · exact .ofTrans fun _ hx => hx
      · split
        · exact (Answering.setOtt he (by rfl) (by rfl)).trans (.ofTrans fun _ hx => hx)
        · exact answering_answerEntry _ _ _ _

theorem answering_pushCompletion (p : PortId) (c : Completion) (s : State) :
    Answering s (s.updPort p (fun r => { r with qCompletion := r.qCompletion ++ [c] })) where
  units := by cases p <;> exact ⟨_, _, _, _, _, _, rfl⟩
  ports q := by
    rw [State.port_updPort]
    split
    · next h => subst h; exact ⟨[c], rfl⟩
    · exact ⟨[], port_append_nil _⟩
  ott x hx _ := by rwa [State.updPort_trans] at hx
  events k hk := by
    have : (s.updPort p (fun r => { r with qCompletion := r.qCompletion ++ [c] })).event k = s.event k := by cases p <;> rfl
    rwa [this]

theorem answering_sendCompletion {direct : Bool} {who : Requester} {st : Status} {d : List Byte}
    (h : sendCompletion direct who st d s = some t) : Answering s t := by
  unfold sendCompletion at h
  split at h
  · exact Option.some.inj h ▸ answering_completionHere _ _ _ _ s
  · split at h
    · exact Option.some.inj h ▸ answering_completionHere _ _ _ _ s
    · split at h
      · exact Option.some.inj h ▸ answering_pushCompletion _ _ s
      · cases h
    · exact Option.some.inj h ▸ Answering.ofTrans fun _ hx => hx

/-! ## Completions leave the Inbound Request List and the locks alone (R151) -/

/-- The Inbound Request List, the locks and the settings stand as they were. -/
def SameLists (s t : State) : Prop :=
  t.trans.inbound = s.trans.inbound ∧ t.trans.locks = s.trans.locks ∧ t.trans.settings = s.trans.settings

theorem SameLists.ofTrans (h : t.trans = s.trans) : SameLists s t := by rw [SameLists, h]; exact ⟨rfl, rfl, rfl⟩

theorem SameLists.noteFreed (h : SameLists s t) : SameLists s (u.noteFreed t) := by
  rcases noteFreed_cases u t with ⟨-, g, l, he⟩ | ⟨-, he⟩ <;> rw [he] <;> exact h

theorem channelAnswer_trans (c tag : Nat) (st : Status) (d : List Byte) (s : State) :
    (channelAnswer c tag st d s).trans = s.trans := by
  unfold channelAnswer chunkWritten
  dsimp only
  split
  · rfl
  · split
    · rfl
    · split
      · split <;> rfl
      · rfl

theorem noticeAnswer_trans (tag : Nat) (st : Status) (s : State) : (noticeAnswer tag st s).trans = s.trans := by
  have hsettle : ∀ k n (v : State), (settleNotice k n v).trans = v.trans := fun k n v => by
    unfold settleNotice
    dsimp only
    split <;> rfl
  unfold noticeAnswer
  split
  · rfl
  · split
    · rfl
    · dsimp only
      split
      · rfl
      · exact hsettle _ _ _

theorem sameLists_answerEntry (i : Nat) (st : Status) (d : List Byte) (s : State) : SameLists s (answerEntry i st d s) := by
  unfold answerEntry
  split
  · exact .ofTrans rfl
  · dsimp only
    split
    · exact SameLists.noteFreed (by rw [SameLists, channelAnswer_trans]; exact ⟨rfl, rfl, rfl⟩)
    · split
      · exact SameLists.noteFreed (by rw [SameLists, noticeAnswer_trans]; exact ⟨rfl, rfl, rfl⟩)
      · exact ⟨rfl, rfl, rfl⟩

theorem sameLists_completionHere (id tag : Nat) (st : Status) (d : List Byte) (s : State) :
    SameLists s (completionHere id tag st d s) := by
  unfold completionHere
  dsimp only
  split
  · exact ⟨rfl, rfl, rfl⟩
  · split
    · exact ⟨rfl, rfl, rfl⟩
    · split
      · exact ⟨rfl, rfl, rfl⟩
      · split
        · exact ⟨rfl, rfl, rfl⟩
        · exact sameLists_answerEntry _ _ _ _

theorem sameLists_sendCompletion {direct : Bool} {who : Requester} {st : Status} {d : List Byte}
    (h : sendCompletion direct who st d s = some t) : SameLists s t := by
  unfold sendCompletion at h
  split at h
  · exact Option.some.inj h ▸ sameLists_completionHere _ _ _ _ s
  · split at h
    · exact Option.some.inj h ▸ sameLists_completionHere _ _ _ _ s
    · split at h
      · exact Option.some.inj h ▸ .ofTrans (State.updPort_trans _ _ _)
      · cases h
    · exact Option.some.inj h ▸ ⟨rfl, rfl, rfl⟩

/-- R151: what an accepted completion leaves of its port's queue. -/
theorem sendCompletion_queue {who : Requester} {st : Status} {d : List Byte} {p : PortId}
    (h : sendCompletion false who st d s = some t) (hr : s.routeTo who.frame = some (.port p)) :
    ⟨who, st.code, 31, d⟩ ∈ (t.port p).qCompletion := by
  rcases sendCompletion_cases h with ⟨hh, -⟩ | ⟨q, hq, -, rfl⟩ | ⟨hn, -⟩
  · rw [hr] at hh; cases hh
  · rw [hr] at hq
    cases hq
    rw [State.port_updPort_same]
    exact List.mem_append_right _ (List.mem_singleton.2 rfl)
  · rw [hr] at hn; cases hn

/-- R151: a completion takes at most one place of a queue. -/
theorem sendCompletion_length {direct : Bool} {who : Requester} {st : Status} {d : List Byte} (p : PortId)
    (h : sendCompletion direct who st d s = some t) : (t.port p).qCompletion.length ≤ (s.port p).qCompletion.length + 1 := by
  have hhere : ((completionHere who.id who.tag st d s).port p).qCompletion.length ≤ (s.port p).qCompletion.length + 1 := by
    rw [(answersOnly_completionHere who.id who.tag st d s).port p]
    exact Nat.le_succ _
  cases direct with
  | true => exact Option.some.inj h ▸ hhere
  | false =>
    rcases sendCompletion_cases h with ⟨-, rfl⟩ | ⟨q, -, -, rfl⟩ | ⟨-, rfl⟩
    · exact hhere
    · rw [State.port_updPort]
      split
      · next he => subst he; simp
      · exact Nat.le_succ _
    · exact Nat.le_trans (Nat.le_of_eq (by cases p <;> rfl)) (Nat.le_succ _)

/-! ## One inbound entry answered (R158 to R162) -/

/-- R160: an ANSWERING entry with its answer. -/
def InEntry.answeredWith (e : InEntry) (st : Status) (d : List Byte) (order : Nat) : InEntry :=
  { e with state := .answering, answer := some ⟨st, d⟩, order := order }

/-- R158 to R162: the state in which an inbound entry's completion is offered. -/
def State.withAnswer (s : State) (h : Nat) (e : InEntry) (st : Status) (d : List Byte) : State :=
  let s1 := (s.setIn h (e.answeredWith st d s.serial)).nextSerial
  if (s.lock e.slot).unlockHandle = some h then releaseLock e.slot s1 else s1

theorem withAnswer_frame (h : Nat) (e : InEntry) (st : Status) (d : List Byte) (s : State) :
    ∃ l n, s.withAnswer h e st d =
      { s with trans := { s.trans with inbound := tput s.trans.inbound h (e.answeredWith st d s.serial), locks := l }, serial := n } := by
  unfold State.withAnswer
  dsimp only
  split <;> exact ⟨_, _, rfl⟩

theorem withAnswer_inEntry (h : Nat) (e : InEntry) (st : Status) (d : List Byte) (s : State) (k : Nat) :
    (s.withAnswer h e st d).inEntry k = if k = h then some (e.answeredWith st d s.serial) else s.inEntry k := by
  obtain ⟨l, n, he⟩ := withAnswer_frame h e st d s
  rw [he]
  show tfind (tput s.trans.inbound h _) k = _
  split
  · next hk => subst hk; exact tfind_tput_same _ _ _
  · next hk => exact tfind_tput_other _ _ hk

theorem withAnswer_lock (h : Nat) (e : InEntry) (st : Status) (d : List Byte) (s : State) (i : Nat) :
    (s.withAnswer h e st d).lock i = if i = e.slot ∧ (s.lock e.slot).unlockHandle = some h then {} else s.lock i := by
  unfold State.withAnswer
  dsimp only
  by_cases hu : (s.lock e.slot).unlockHandle = some h
  · rw [if_pos hu]
    by_cases hi : i = e.slot
    · rw [if_pos ⟨hi, hu⟩, hi]
      exact tgetD_tset_same (α := Lock) {} s.trans.locks e.slot {}
    · rw [if_neg fun hc => hi hc.1]
      exact tgetD_tset_other (α := Lock) {} s.trans.locks {} hi
  · rw [if_neg hu, if_neg fun hc => hu hc.2]
    rfl

theorem answering_withAnswer (h : Nat) (e : InEntry) (st : Status) (d : List Byte) (s : State) :
    Answering s (s.withAnswer h e st d) := by
  obtain ⟨l, n, he⟩ := withAnswer_frame h e st d s
  rw [he]
  exact
    { units := ⟨_, _, _, _, _, _, rfl⟩
      ports := fun p => ⟨[], by cases p <;> exact port_append_nil _⟩
      ott := fun x hx _ => hx
      events := fun _ h => h }

/-- R158 to R162: an inbound entry answered keeps its answer, or leaves with its completion. -/
theorem answerInbound_cases {h : Nat} {e : InEntry} (st : Status) (d : List Byte) (he : s.inEntry h = some e) :
    answerInbound h st d s = s.withAnswer h e st d ∨
    ∃ t, sendCompletion (e.source == .here) e.who st (Answer.completionData ⟨st, d⟩) (s.withAnswer h e st d) = some t ∧
      answerInbound h st d s = t.delIn h := by
  have hop : answerInbound h st d s = offerInbound s h (s.withAnswer h e st d) := by
    simp only [answerInbound, he]
    rfl
  have htake : takeInbound h (s.withAnswer h e st d) =
      (sendCompletion (e.source == .here) e.who st (Answer.completionData ⟨st, d⟩) (s.withAnswer h e st d)).map
        (fun t => t.delIn h) := by
    have hin := withAnswer_inEntry h e st d s h
    rw [if_pos rfl] at hin
    simp only [takeInbound, hin]
    rfl
  rw [hop]
  unfold offerInbound
  cases hsend : sendCompletion (e.source == .here) e.who st (Answer.completionData ⟨st, d⟩) (s.withAnswer h e st d) with
  | none => rw [htake, hsend]; exact .inl rfl
  | some t =>
    rw [htake, hsend]
    simp only [Option.map_some]
    split
    · exact .inl rfl
    · exact .inr ⟨t, rfl, rfl⟩

theorem answerInbound_none {h : Nat} {st : Status} {d : List Byte} (he : s.inEntry h = none) : answerInbound h st d s = s := by
  simp only [answerInbound, he]

theorem answering_answerInbound (h : Nat) (st : Status) (d : List Byte) (s : State) : Answering s (answerInbound h st d s) := by
  cases he : s.inEntry h with
  | none => rw [answerInbound_none he]; exact .refl s
  | some e =>
    rcases answerInbound_cases st d he with hc | ⟨t, hsend, hc⟩ <;> rw [hc]
    · exact answering_withAnswer h e st d s
    · exact ((answering_withAnswer h e st d s).trans (answering_sendCompletion hsend)).trans (.ofTrans fun _ hx => hx)

/-- R160: no entry but the one answered changes. -/
theorem answerInbound_other {h k : Nat} (st : Status) (d : List Byte) (hk : k ≠ h) (s : State) :
    (answerInbound h st d s).inEntry k = s.inEntry k := by
  cases he : s.inEntry h with
  | none => rw [answerInbound_none he]
  | some e =>
    have hin := withAnswer_inEntry h e st d s k
    rw [if_neg hk] at hin
    rcases answerInbound_cases st d he with hc | ⟨t, hsend, hc⟩ <;> rw [hc]
    · exact hin
    · refine Eq.trans ?_ hin
      show tfind (tdel t.trans.inbound h) k = tfind (s.withAnswer h e st d).trans.inbound k
      rw [tfind_tdel_other _ hk, (sameLists_sendCompletion hsend).1]

/-- R162: the locks after an inbound entry is answered. -/
theorem answerInbound_lock {h : Nat} {e : InEntry} (st : Status) (d : List Byte) (he : s.inEntry h = some e) (i : Nat) :
    (answerInbound h st d s).lock i = if i = e.slot ∧ (s.lock e.slot).unlockHandle = some h then {} else s.lock i := by
  rw [← withAnswer_lock h e st d s i]
  rcases answerInbound_cases st d he with hc | ⟨t, hsend, hc⟩ <;> rw [hc]
  show tgetD {} t.trans.locks i = tgetD {} (s.withAnswer h e st d).trans.locks i
  rw [(sameLists_sendCompletion hsend).2.1]

theorem answerInbound_length (h : Nat) (st : Status) (d : List Byte) (s : State) (p : PortId) :
    ((answerInbound h st d s).port p).qCompletion.length ≤ (s.port p).qCompletion.length + 1 := by
  cases he : s.inEntry h with
  | none => rw [answerInbound_none he]; exact Nat.le_succ _
  | some e =>
    have hport : (s.withAnswer h e st d).port p = s.port p := by
      obtain ⟨l, n, hw⟩ := withAnswer_frame h e st d s
      rw [hw]
      cases p <;> rfl
    rcases answerInbound_cases st d he with hc | ⟨t, hsend, hc⟩ <;> rw [hc]
    · rw [hport]; exact Nat.le_succ _
    · have := sendCompletion_length p hsend
      rw [hport] at this
      exact Nat.le_trans (Nat.le_of_eq (by cases p <;> rfl)) this

/-! ## The fate of an inbound entry that is answered -/

/-- An entry of `s` has the answer `st` in `t`, or has left with its completion. -/
def Settled (s : State) (h : Nat) (e : InEntry) (st : Status) (t : State) : Prop :=
  (∃ o, t.inEntry h = some (e.answeredWith st [] o)) ∨
  (t.inEntry h = none ∧ ∀ p, e.source ≠ .here → s.routeTo e.who.frame = some (.port p) →
    ⟨e.who, st.code, 31, []⟩ ∈ (t.port p).qCompletion)

theorem completionData_nil (st : Status) : Answer.completionData ⟨st, []⟩ = [] := by
  unfold Answer.completionData
  split <;> rfl

/-- R160: an answer settles its entry. -/
theorem settled_answerInbound {h : Nat} {e e' : InEntry} {st : Status} (hst : Answering s t) (he : t.inEntry h = some e')
    (heq : ∀ o, e'.answeredWith st [] o = e.answeredWith st [] o) : Settled s h e st (answerInbound h st [] t) := by
  have hsrc : e'.source = e.source ∧ e'.who = e.who :=  by
    have h0 := heq 0
    exact ⟨show (e'.answeredWith st [] 0).source = (e.answeredWith st [] 0).source by rw [h0],
      show (e'.answeredWith st [] 0).who = (e.answeredWith st [] 0).who by rw [h0]⟩
  rcases answerInbound_cases st [] he with hc | ⟨u, hsend, hc⟩ <;> rw [hc]
  · refine .inl ⟨t.serial, ?_⟩
    rw [withAnswer_inEntry, if_pos rfl, heq]
  · refine .inr ⟨tfind_tdel_same _ _, fun p hhere hr => ?_⟩
    have hdirect : (e'.source == Via.here) = false := by rw [hsrc.1]; exact beq_eq_false_iff_ne.2 hhere
    rw [hdirect, hsrc.2, completionData_nil] at hsend
    have hroute : (t.withAnswer h e' st []).routeTo e.who.frame = some (.port p) := by
      rw [(answering_withAnswer h e' st [] t).routeTo, hst.routeTo, hr]
    have hq := sendCompletion_queue hsend hroute
    cases p <;> exact hq

/-- A settled entry stays settled while others, or itself, are answered with the same status. -/
theorem Settled.answerInbound {h k : Nat} {e : InEntry} {st : Status} (hst : Answering s t) (hs : Settled s h e st t) :
    Settled s h e st (answerInbound k st [] t) := by
  by_cases hk : h = k
  · subst hk
    rcases hs with ⟨o, ho⟩ | ⟨hnone, hq⟩
    · exact settled_answerInbound hst ho fun _ => rfl
    · rw [answerInbound_none hnone]
      exact .inr ⟨hnone, hq⟩
  · rcases hs with ⟨o, ho⟩ | ⟨hnone, hq⟩
    · exact .inl ⟨o, (answerInbound_other st [] hk t).trans ho⟩
    · refine .inr ⟨(answerInbound_other st [] hk t).trans hnone, fun p hhere hr => ?_⟩
      obtain ⟨l, hl⟩ := (answering_answerInbound k st [] t).ports p
      rw [hl]
      exact List.mem_append_left _ (hq p hhere hr)

/-! ## The entries of a slot answered together (R129, R130) -/

/-- Inbound entries answered one after the other. -/
def answerAll (st : Status) (l : List Nat) (s : State) : State := l.foldl (fun s h => answerInbound h st [] s) s

theorem answerSlotInbound_eq (i : Nat) (p : InState → Bool) (st : Status) (s : State) :
    answerSlotInbound i p st s = answerAll st (s.inHandles i p) s := rfl

theorem answering_answerAll (st : Status) (l : List Nat) (s : State) : Answering s (answerAll st l s) := by
  induction l generalizing s with
  | nil => exact .refl s
  | cons h l ih => exact (answering_answerInbound h st [] s).trans (ih _)

theorem answerAll_other {st : Status} {l : List Nat} {k : Nat} (hk : k ∉ l) (s : State) :
    (answerAll st l s).inEntry k = s.inEntry k := by
  induction l generalizing s with
  | nil => rfl
  | cons h l ih =>
    rw [List.mem_cons, not_or] at hk
    exact (ih hk.2 _).trans (answerInbound_other st [] hk.1 s)

theorem answerAll_length (st : Status) (l : List Nat) (s : State) (p : PortId) :
    ((answerAll st l s).port p).qCompletion.length ≤ (s.port p).qCompletion.length + l.length := by
  induction l generalizing s with
  | nil => exact Nat.le_refl _
  | cons h l ih =>
    have h1 := ih (answerInbound h st [] s)
    have h2 := answerInbound_length h st [] s p
    rw [List.length_cons]
    exact Nat.le_trans h1 (by omega)

theorem settled_answerAll {st : Status} {l : List Nat} {h : Nat} {e : InEntry} (hst : Answering s t)
    (he : Settled s h e st t ∨ (t.inEntry h = some e ∧ h ∈ l)) : Settled s h e st (answerAll st l t) := by
  induction l generalizing t with
  | nil =>
    rcases he with he | ⟨-, hmem⟩
    · exact he
    · cases hmem
  | cons k l ih =>
    refine ih (hst.trans (answering_answerInbound k st [] t)) ?_
    rcases he with he | ⟨he, hmem⟩
    · exact .inl (he.answerInbound hst)
    · by_cases hk : h = k
      · subst hk
        exact .inl (settled_answerInbound hst he fun _ => rfl)
      · exact .inr ⟨(answerInbound_other st [] hk t).trans he, (List.mem_cons.1 hmem).resolve_left hk⟩

/-- R162: a lock is kept, or released. -/
theorem answerAll_lock (st : Status) (l : List Nat) (s : State) (i : Nat) :
    (answerAll st l s).lock i = s.lock i ∨ (answerAll st l s).lock i = {} := by
  induction l generalizing s with
  | nil => exact .inl rfl
  | cons h l ih =>
    have hone : (answerInbound h st [] s).lock i = s.lock i ∨ (answerInbound h st [] s).lock i = {} := by
      cases he : s.inEntry h with
      | none => rw [answerInbound_none he]; exact .inl rfl
      | some e =>
        rw [answerInbound_lock st [] he]
        split
        · exact .inr rfl
        · exact .inl rfl
    rcases ih (answerInbound h st [] s) with h1 | h1
    · rcases hone with h2 | h2
      · exact .inl (h1.trans h2)
      · exact .inr (h1.trans h2)
    · exact .inr h1

theorem answerAll_lock_default {st : Status} {l : List Nat} {i : Nat} (h : s.lock i = {}) : (answerAll st l s).lock i = {} :=
  (answerAll_lock st l s i).elim (fun he => he.trans h) id

/-- R162: an answered WRITE_UNLOCK releases its lock. -/
theorem answerAll_unlocks {st : Status} {l : List Nat} {i h : Nat} {e : InEntry} (hu : (s.lock i).unlockHandle = some h)
    (he : s.inEntry h = some e) (hi : e.slot = i) (hl : h ∈ l) : (answerAll st l s).lock i = {} := by
  induction l generalizing s with
  | nil => cases hl
  | cons k l ih =>
    by_cases hk : h = k
    · subst hk
      refine answerAll_lock_default (l := l) ?_
      rw [answerInbound_lock st [] he, if_pos ⟨hi.symm, by rw [hi]; exact hu⟩]
    · have hmem : h ∈ l := (List.mem_cons.1 hl).resolve_left hk
      have he' : (answerInbound k st [] s).inEntry h = some e := (answerInbound_other st [] hk s).trans he
      cases hek : s.inEntry k with
      | none =>
        have hsame : answerInbound k st [] s = s := answerInbound_none hek
        show (answerAll st l (answerInbound k st [] s)).lock i = {}
        rw [hsame]
        exact ih hu he hmem
      | some e2 =>
        refine ih (s := answerInbound k st [] s) ?_ he' hmem
        rw [answerInbound_lock st [] hek, if_neg]
        · exact hu
        · rintro ⟨rfl, hc⟩
          rw [hu] at hc
          exact hk (Option.some.inj hc)

/-- R129, R130: the Handles of a slot's entries in some states. -/
theorem mem_inHandles {i h : Nat} {p : InState → Bool} :
    h ∈ s.inHandles i p ↔ ∃ e, (h, e) ∈ s.trans.inbound ∧ e.slot = i ∧ p e.state = true := by
  unfold State.inHandles
  simp only [List.mem_map, List.mem_insertionSort, List.mem_filter, Bool.and_eq_true, beq_iff_eq]
  constructor
  · rintro ⟨⟨k, e⟩, ⟨hmem, hs, hp⟩, rfl⟩
    exact ⟨e, hmem, hs, hp⟩
  · rintro ⟨e, hmem, hs, hp⟩
    exact ⟨(h, e), ⟨hmem, hs, hp⟩, rfl⟩

theorem inHandles_length (s : State) (i : Nat) (p : InState → Bool) : (s.inHandles i p).length ≤ s.trans.inbound.length := by
  unfold State.inHandles
  rw [List.length_map, List.length_insertionSort]
  exact List.length_filter_le _ _

theorem inHandles_of_none {i : Nat} {p : InState → Bool} (h : ∀ x ∈ s.trans.inbound, x.2.slot = i → p x.2.state = false) :
    s.inHandles i p = [] := by
  refine List.eq_nil_iff_forall_not_mem.2 fun k hk => ?_
  obtain ⟨e, hmem, hs, hp⟩ := mem_inHandles.1 hk
  rw [h _ hmem hs] at hp
  cases hp

/-- R129, R130: no entry of the slot is left in one of the states answered. -/
theorem answerSlotInbound_clears {i h : Nat} {p : InState → Bool} {st : Status} {e : InEntry} (hp : p .answering = false)
    (he : (answerSlotInbound i p st s).inEntry h = some e) (hs : e.slot = i) : p e.state = false := by
  rw [answerSlotInbound_eq] at he
  by_cases hmem : h ∈ s.inHandles i p
  · cases h0 : s.inEntry h with
    | none =>
      obtain ⟨e0, hm, -, -⟩ := mem_inHandles.1 hmem
      exact absurd h0 (tfind_ne_none hm)
    | some e0 =>
      rcases settled_answerAll (st := st) (.refl s) (.inr ⟨h0, hmem⟩) with ⟨o, ho⟩ | ⟨hnone, -⟩
      · rw [ho] at he
        cases he
        exact hp
      · rw [hnone] at he; cases he
  · rw [answerAll_other hmem] at he
    by_contra hc
    exact hmem (mem_inHandles.2 ⟨e, mem_of_tfind he, hs, by simpa using hc⟩)

end Sys2Proof.Machine
end

section
/-! SUPPORT. Slots that leave service (R127 to R138): the departure cleanup, and the statement about it (O49). -/

namespace Sys2Proof.Machine

variable {s t : State} {i : Nat}

/-! ## The departure cleanup (R129) -/

/-- R126, R129: a slot's lane and Delivery List discarded. -/
def Slot.cleared (r : Slot) : Slot :=
  { r with
    waiting := [], committed := [], delivery := []
    counters := { r.counters with requestsDiscarded := bumpBy r.waiting.length r.counters.requestsDiscarded } }

/-- R129: what the departure cleanup of a slot leaves in `t`, where it begins in `s`. -/
structure CleanedUp (i : Nat) (st : Status) (s t : State) : Prop where
  inbound : ∀ h e, t.inEntry h = some e → e.slot = i → e.state = .answering
  ott : ∀ k e, t.ottEntry k = some e → e.id ≠ i
  lock : t.lock i = {}
  slot : ∀ j, t.slot j = if j = i then (s.slot i).cleared else s.slot j
  settled : ∀ h e, s.inEntry h = some e → e.slot = i → e.state ≠ .answering → Settled s h e st t
  routed : s.routed → t.routed
  events : ∀ k, (s.event k).pending = true → (t.event k).pending = true
  topo : t.topo = s.topo
  isUp : ∀ p, t.isUp p = s.isUp p
  queue : ∀ p, (t.port p).qCompletion.length ≤ (s.port p).qCompletion.length + (s.inHandles i (fun x => x != .answering)).length

theorem sameLists_dropSlotEntries (i : Nat) (s : State) : SameLists s (dropSlotEntries i s) :=
  SameLists.noteFreed ⟨rfl, rfl, rfl⟩

theorem answering_dropSlotEntries (i : Nat) (s : State) : Answering s (dropSlotEntries i s) :=
  (Answering.ofTrans fun _ hx => (List.mem_filter.1 hx).1).noteFreed

theorem dropSlotEntries_ids (i : Nat) (s : State) : ∀ x ∈ (dropSlotEntries i s).trans.ott, x.2.id ≠ i := by
  unfold dropSlotEntries
  have hfilter : ∀ x ∈ (s.updTrans (fun t => { t with ott := t.ott.filter (fun e => e.2.id != i) })).trans.ott, x.2.id ≠ i :=
    fun x hx => by simpa using (List.mem_filter.1 hx).2
  rcases noteFreed_cases s (s.updTrans (fun t => { t with ott := t.ott.filter (fun e => e.2.id != i) })) with
    ⟨-, g, l, he⟩ | ⟨-, he⟩ <;> rw [he] <;> exact hfilter

theorem cleanedUp_departureCleanup (i : Nat) (st : Status) (s : State) : CleanedUp i st s (departureCleanup i st s) := by
  have hrel : Answering s (releaseLock i s) := .ofTrans fun _ hx => hx
  have hans : Answering (releaseLock i s) (answerSlotInbound i (fun x => x != .answering) st (releaseLock i s)) :=
    answering_answerAll _ _ _
  have hboth := hrel.trans hans
  have hsettled : ∀ h e, s.inEntry h = some e → e.slot = i → e.state ≠ .answering →
      Settled s h e st (answerSlotInbound i (fun x => x != .answering) st (releaseLock i s)) := fun h e he hs hst =>
    settled_answerAll (t := releaseLock i s) hrel
      (.inr ⟨he, mem_inHandles.2 ⟨e, mem_of_tfind he, hs, by simpa using hst⟩⟩)
  have hclears : ∀ h e, (answerSlotInbound i (fun x => x != .answering) st (releaseLock i s)).inEntry h = some e →
      e.slot = i → e.state = .answering := fun h e he hs => by
    simpa using answerSlotInbound_clears (p := fun x => x != .answering) rfl he hs
  have hlock : (answerSlotInbound i (fun x => x != .answering) st (releaseLock i s)).lock i = {} :=
    answerAll_lock_default (tgetD_tset_same (α := Lock) {} s.trans.locks i {})
  have hlen : ∀ p, ((answerSlotInbound i (fun x => x != .answering) st (releaseLock i s)).port p).qCompletion.length ≤
      (s.port p).qCompletion.length + (s.inHandles i (fun x => x != .answering)).length := fun p =>
    Nat.le_trans (answerAll_length st _ _ p) (Nat.le_of_eq (by cases p <;> rfl))
  unfold departureCleanup
  dsimp only
  generalize hu : answerSlotInbound i (fun x => x != .answering) st (releaseLock i s) = u at *
  have hdrop := answering_dropSlotEntries i (clearLane i u)
  have hlists := sameLists_dropSlotEntries i (clearLane i u)
  have hin : ∀ h, (dropSlotEntries i (clearLane i u)).inEntry h = u.inEntry h := fun h => by
    rw [State.inEntry, hlists.1]; rfl
  have hport : ∀ p, (dropSlotEntries i (clearLane i u)).port p = u.port p := fun p => by
    have hp : (dropSlotEntries i (clearLane i u)).port p = (clearLane i u).port p := by
      unfold dropSlotEntries
      rcases noteFreed_cases (clearLane i u) ((clearLane i u).updTrans (fun t => { t with ott := t.ott.filter (fun e => e.2.id != i) })) with
        ⟨-, g, l, he⟩ | ⟨-, he⟩ <;> rw [he] <;> cases p <;> rfl
    rw [hp]
    cases p <;> rfl
  exact
    { inbound := fun h e he hs => hclears h e ((hin h).symm.trans he) hs
      ott := fun k e he => dropSlotEntries_ids i _ _ (mem_of_tfind he)
      lock := by rw [State.lock, hlists.2.1]; exact hlock
      slot := fun j => by
        rw [hdrop.slot, clearLane, State.slot_updSlot, hboth.slot, hboth.slot]
        rfl
      settled := fun h e he hs hst => by
        rcases hsettled h e he hs hst with ⟨o, ho⟩ | ⟨hnone, hq⟩
        · exact .inl ⟨o, (hin h).trans ho⟩
        · exact .inr ⟨(hin h).trans hnone, fun p hp hr => by rw [hport]; exact hq p hp hr⟩
      routed := fun hs => hdrop.routed (hboth.routed hs)
      events := fun k hk => hdrop.events k (hboth.events k hk)
      topo := by rw [hdrop.topo]; exact hboth.topo
      isUp := fun p => by rw [State.isUp, hport]; exact hboth.isUp p
      queue := fun p => by rw [hport]; exact hlen p }

/-! ## Ends of acts -/

theorem finish_of_settled (hr : s.routed) (hd : ∀ j, (s.slot j).drain = none) : finish s = s :=
  finishLeavesASettledState s ⟨hr, hd⟩

theorem finish_of_answered {who : Requester} {st : Status} {s1 : State} (h : Answered who st s1 t) (hr : s1.routed)
    (hd : ∀ j, (s1.slot j).drain = none) : finish t = t :=
  have ha := answering_sendCompletion h
  finish_of_settled (ha.routed hr) fun j => by rw [ha.slot]; exact hd j

/-- Another state's transactions and routes. -/
def SameTraffic (s u : State) : Prop := u.trans = s.trans ∧ u.topo = s.topo

/-- R129: the statement's clauses about a slot that has left service. -/
theorem CleanedUp.cleaned {st : Status} {u : State} (h : CleanedUp i st u t) (hd : (u.slot i).drain = none) :
    (∀ k e, t.inEntry k = some e → e.slot = i → e.state = .answering) ∧ (∀ k e, t.ottEntry k = some e → e.id ≠ i) ∧
      t.lock i = {} ∧ (t.slot i).waiting = [] ∧ (t.slot i).committed = [] ∧ (t.slot i).delivery = [] ∧ (t.slot i).drain = none := by
  have hslot : t.slot i = (u.slot i).cleared := (h.slot i).trans (if_pos rfl)
  rw [hslot]
  exact ⟨h.inbound, h.ott, h.lock, rfl, rfl, rfl, hd⟩

theorem CleanedUp.answered {st : Status} {u : State} (h : CleanedUp i st u t) (hu : SameTraffic s u) :
    ∀ k e, s.inEntry k = some e → e.slot = i → e.state ≠ .answering → Settled s k e st t := fun k e he hs hne => by
  have hroute : ∀ f, u.routeTo f = s.routeTo f := fun f => by rw [State.routeTo, State.routeTo, hu.2]
  rcases h.settled k e (by rw [State.inEntry, hu.1]; exact he) hs hne with ho | ⟨hnone, hq⟩
  · exact .inl ho
  · exact .inr ⟨hnone, fun p hp hr => hq p hp ((hroute _).trans hr)⟩

/-- R129: what a departure with the cause's status leaves, where it makes the slot's record `r` before the cleanup. -/
structure Departed (s : State) (i : Nat) (st : Status) (r : Slot) (t : State) : Prop where
  routed : t.routed
  drains : ∀ j, (t.slot j).drain = none
  cleaned : (∀ k e, t.inEntry k = some e → e.slot = i → e.state = .answering) ∧ (∀ k e, t.ottEntry k = some e → e.id ≠ i) ∧
    t.lock i = {} ∧ (t.slot i).waiting = [] ∧ (t.slot i).committed = [] ∧ (t.slot i).delivery = [] ∧ (t.slot i).drain = none
  answered : ∀ k e, s.inEntry k = some e → e.slot = i → e.state ≠ .answering → Settled s k e st t
  slot : t.slot i = r.cleared

theorem departed {st : Status} {u : State} {r : Slot} (hu : SameTraffic s u) (hr : s.routed) (hslot : u.slot i = r)
    (hd : ∀ j, (u.slot j).drain = none) : Departed s i st r (departureCleanup i st u) :=
  have h := cleanedUp_departureCleanup i st u
  { routed := h.routed fun x hx => hr x (by rwa [hu.1] at hx)
    drains := fun j => by
      rw [h.slot]
      split
      · exact hd i
      · exact hd j
    cleaned := h.cleaned (hd i)
    answered := h.answered hu
    slot := by rw [h.slot, if_pos rfl, hslot] }

theorem Departed.fin {st : Status} {r : Slot} (h : Departed s i st r t) : finish t = t := finish_of_settled h.routed h.drains

theorem pending_departureCleanup {st : Status} {u : State} {k : Nat} (h : (u.event k).pending = true) :
    ((departureCleanup i st u).event k).pending = true :=
  (cleanedUp_departureCleanup i st u).events k h

/-- A slot's record replaced, and kinds raised: the drains of the others stand. -/
theorem drain_setSlot {r : Slot} (hd : ∀ j, j ≠ i → (s.slot j).drain = none) (hr : r.drain = none) (j : Nat) :
    ((s.setSlot i r).slot j).drain = none := by
  rw [State.slot_setSlot]
  split
  · exact hr
  · next h => exact hd j h

/-! ## What takes a slot out of service (R127, R132, R134, R136 to R138) -/

/-- R137: a slot whose module is gone. -/
def Slot.surprised (r : Slot) : Slot :=
  { r with
    state := .empty, presence := false, powerEnable := false, removal := false, timer := none, drain := none
    lastCause := .surpriseRemoval, lane := .off, advertised := 0, available := 0, committed := []
    counters := { r.counters with surpriseRemovals := bump r.counters.surpriseRemovals } }

theorem surpriseRemoval_eq (i : Nat) (s : State) : surpriseRemoval i s =
    departureCleanup i .noTarget (raise .surpriseRemoval (s.setSlot i (s.slot i).surprised)) := by
  simp only [surpriseRemoval, enterEmpty, State.countSlot, State.updSlot, State.slot_setSlot_same, State.setSlot_setSlot]
  rfl

/-- R138: a slot whose power fails. -/
def Slot.powerLost (r : Slot) : Slot :=
  { r with
    powerGood := false, state := .faulted, powerEnable := false, removal := true, timer := none, drain := none
    lastCause := .powerGoodLost, lane := .off, advertised := 0, available := 0, committed := []
    counters := { r.counters with powerFaults := bump r.counters.powerFaults } }

theorem powerFault_eq (i : Nat) (s : State) :
    powerFault i (s.setSlot i { s.slot i with powerGood := false }) = raise .powerFault (s.setSlot i (s.slot i).powerLost) := by
  simp only [powerFault, enterFaulted, State.countSlot, State.updSlot, State.slot_setSlot_same, State.setSlot_setSlot]
  rfl

/-- R131, R132: a slot in QUIESCED. -/
def Slot.quiescedBy (r : Slot) (c : Cause) : Slot :=
  { r with
    state := .quiesced, powerEnable := false, removal := true, timer := none, drain := none, lastCause := c
    lane := .off, advertised := 0, available := 0, committed := [] }

theorem enterQuiesced_eq (i : Nat) (c : Cause) (s : State) :
    enterQuiesced i c s = raise .slotQuiesced (s.setSlot i ((s.slot i).quiescedBy c)) := rfl

/-- R121: a slot in POWERING. -/
def Slot.powered (r : Slot) (c : Cause) (now : Nat) : Slot :=
  { r with
    state := .powering, powerEnable := true, removal := false, timer := some ⟨.power, now⟩, lastCause := c
    lane := if r.powerEnable = true ∨ r.powerGood = true then .training else .off
    advertised := 0, available := 0, committed := [] }

theorem enterPowering_eq (i : Nat) (c : Cause) (s : State) :
    enterPowering i c s = s.setSlot i ((s.slot i).powered c s.localTime) := by
  simp only [enterPowering, State.updSlot, Slot.setLane, Slot.powered, Bool.or_eq_true]

/-- R129: a departure that raises a kind. -/
theorem departed_raise {st : Status} {k : EventKind} {r : Slot} (hr : s.routed) (hd : ∀ j, j ≠ i → (s.slot j).drain = none)
    (hnone : r.drain = none) : Departed s i st r (departureCleanup i st (raise k (s.setSlot i r))) ∧
      ((departureCleanup i st (raise k (s.setSlot i r))).event k.code).pending = true :=
  ⟨departed ⟨rfl, rfl⟩ hr (State.slot_setSlot_same _ _ _) (drain_setSlot hd hnone),
    pending_departureCleanup (pending_raise (.inr rfl))⟩

/-- R132: an entry to QUIESCED before the drain is complete. -/
theorem quiesceEarly_setSlot (i : Nat) (c : Cause) (r : Slot) (s : State) : quiesceEarly i c (s.setSlot i r) =
    departureCleanup i .noTarget (raise .slotQuiesced (s.setSlot i (r.quiescedBy c))) := by
  rw [quiesceEarly, enterQuiesced_eq, State.slot_setSlot_same, State.setSlot_setSlot]

/-- R127: a lane lost. -/
theorem laneGone_admitted (hup : (s.slot i).lane = .up) (hst : (s.slot i).state = .admitted) : laneGone i s =
    departureCleanup i .targetReset (enterPowering i .laneLost (s.countSlot i (fun c => { c with laneLosses := bump c.laneLosses }))) := by
  simp only [laneGone, hup, hst, if_true]

theorem laneGone_extracting (hup : (s.slot i).lane = .up) (hst : (s.slot i).state = .extracting) : laneGone i s =
    quiesceEarly i .laneLost (s.countSlot i (fun c => { c with laneLosses := bump c.laneLosses })) := by
  simp only [laneGone, hup, hst, if_true]

/-- R134: a slot in PARKED. -/
def Slot.parkedNow (r : Slot) : Slot :=
  { r with
    state := .parked, lastCause := .park, lane := .dormant, advertised := 0, available := 0, committed := []
    counters := { r.counters with parks := bump r.counters.parks } }

theorem parkSlot_eq (i : Nat) (s : State) : parkSlot i s = departureCleanup i .noTarget (s.setSlot i (s.slot i).parkedNow) := rfl

/-- R136: a slot reset. -/
theorem resetSlot_eq (i : Nat) (s : State) : resetSlot i s = departureCleanup i .targetReset (s.setSlot i
    (({ s.slot i with counters := { (s.slot i).counters with slotResets := bump (s.slot i).counters.slotResets } } : Slot).powered
      .slotReset s.localTime)) := by
  rw [resetSlot, State.countSlot, State.updSlot, enterPowering_eq, State.slot_setSlot_same, State.setSlot_setSlot]
  rfl

/-- R151: the completion of a departure's command finds room. -/
theorem accepts_departureCleanup {st : Status} {r : Slot} {f : Nat} (ha : s.accepts f = true)
    (hroom : (∀ x ∈ s.trans.inbound, x.2.slot ≠ i) ∨ (∀ p, (s.port p).qCompletion.length + s.trans.inbound.length < 16)) :
    (departureCleanup i st (s.wrote.setSlot i r)).accepts f = true := by
  have h := cleanedUp_departureCleanup i st (s.wrote.setSlot i r)
  have hroute : (departureCleanup i st (s.wrote.setSlot i r)).routeTo f = s.routeTo f := by
    rw [State.routeTo, h.topo]; rfl
  unfold State.accepts at *
  rw [hroute]
  split
  · next p hp =>
    rw [hp] at ha
    obtain ⟨hup, hlen⟩ : s.isUp p = true ∧ (s.port p).qCompletion.length < 16 := by simpa using ha
    have hup' : (s.wrote.setSlot i r).isUp p = s.isUp p := by cases p <;> rfl
    have hport : (s.wrote.setSlot i r).port p = s.port p := by cases p <;> rfl
    have hq := h.queue p
    have hcount : (s.port p).qCompletion.length + ((s.wrote.setSlot i r).inHandles i (fun x => x != .answering)).length < 16 := by
      rcases hroom with hno | hsum
      · rw [inHandles_of_none (s := s.wrote.setSlot i r) fun x hx he => absurd he (hno x hx)]
        exact hlen
      · have := inHandles_length (s.wrote.setSlot i r) i (fun x => x != .answering)
        exact Nat.lt_of_le_of_lt (Nat.add_le_add_left this _) (hsum p)
    rw [hport] at hq
    rw [h.isUp, hup', hup]
    exact decide_eq_true (Nat.lt_of_le_of_lt hq hcount)
  · rfl

/-- Settles O49. -/
theorem departuresAreCleanedUp : Obligations.DeparturesAreCleanedUp := by
  unfold Obligations.DeparturesAreCleanedUp
  intro i s hr hd
  dsimp only
  have hsurprised : (s.slot i).state = .admitted ∨ (s.slot i).state = .parked ∨ (s.slot i).state = .extracting →
      presenceGone i s = surpriseRemoval i s := fun h => by
    rcases h with h | h | h <;> simp only [presenceGone, h]
  have hfaulted : (s.slot i).state = .admitted ∨ (s.slot i).state = .parked ∨ (s.slot i).state = .extracting →
      powerGone i s = departureCleanup i .noTarget (powerFault i (s.setSlot i { s.slot i with powerGood := false })) := fun h => by
    rcases h with h | h | h <;> simp only [powerGone, h]
  refine ⟨fun h => ?presence, fun h => ?power, fun ⟨hst, hup, hnone⟩ => ?lane, fun ⟨hst, hup⟩ => ?draining, fun ⟨hst, ht⟩ => ?limit,
    fun who ho ha hroom hst hnone => ⟨?reset, fun hfree => ?park, fun hheld => ?locked⟩⟩
  case presence =>
    obtain ⟨hdep, hev⟩ := departed_raise (st := .noTarget) (k := .surpriseRemoval) hr hd (r := (s.slot i).surprised) rfl
    refine ⟨_, congrArg Host.Outcome.next
      ((congrArg finish ((hsurprised h).trans (surpriseRemoval_eq i s))).trans hdep.fin), hdep.cleaned, hdep.answered, ?_, ?_, ?_, hev⟩ <;>
    · rw [hdep.slot]; rfl
  case power =>
    obtain ⟨hdep, hev⟩ := departed_raise (st := .noTarget) (k := .powerFault) hr hd (r := (s.slot i).powerLost) rfl
    refine ⟨_, congrArg Host.Outcome.next ((congrArg finish ((hfaulted h).trans (by rw [powerFault_eq]))).trans hdep.fin),
      hdep.cleaned, hdep.answered, ?_, ?_, ?_, hev⟩ <;>
    · rw [hdep.slot]; rfl
  case lane =>
    have hgone : laneGone i s = departureCleanup i .targetReset (s.setSlot i
        (({ s.slot i with counters := { (s.slot i).counters with laneLosses := bump (s.slot i).counters.laneLosses } } : Slot).powered
          .laneLost s.localTime)) := by
      rw [laneGone_admitted hup hst, enterPowering_eq, State.countSlot, State.updSlot, State.slot_setSlot_same, State.setSlot_setSlot]
      rfl
    have hdep := departed (s := s) (st := .targetReset) (u := s.setSlot i (({ s.slot i with
      counters := { (s.slot i).counters with laneLosses := bump (s.slot i).counters.laneLosses } } : Slot).powered .laneLost s.localTime))
      ⟨rfl, rfl⟩ hr (State.slot_setSlot_same _ _ _) (drain_setSlot hd hnone)
    refine ⟨_, congrArg Host.Outcome.next ((congrArg finish hgone).trans hdep.fin), hdep.cleaned, hdep.answered, ?_, ?_⟩ <;>
    · rw [hdep.slot]; rfl
  case draining =>
    have hgone : laneGone i s = quiesceEarly i .laneLost (s.setSlot i
        { s.slot i with counters := { (s.slot i).counters with laneLosses := bump (s.slot i).counters.laneLosses } }) :=
      laneGone_extracting hup hst
    obtain ⟨hdep, -⟩ := departed_raise (st := .noTarget) (k := .slotQuiesced) hr hd (r := ({ s.slot i with
      counters := { (s.slot i).counters with laneLosses := bump (s.slot i).counters.laneLosses } } : Slot).quiescedBy .laneLost) rfl
    refine ⟨_, congrArg Host.Outcome.next ((congrArg finish (hgone.trans (quiesceEarly_setSlot _ _ _ _))).trans hdep.fin),
      hdep.cleaned, hdep.answered, ?_, ?_⟩ <;>
    · rw [hdep.slot]; rfl
  case limit =>
    have hgone : drainExpired i s = quiesceEarly i .drainLimit (s.setSlot i
        { s.slot i with counters := { (s.slot i).counters with drainTimeouts := bump (s.slot i).counters.drainTimeouts } }) :=
      if_pos ⟨hst, ht⟩
    obtain ⟨hdep, hev⟩ := departed_raise (st := .noTarget) (k := .slotQuiesced) hr hd (r := ({ s.slot i with
      counters := { (s.slot i).counters with drainTimeouts := bump (s.slot i).counters.drainTimeouts } } : Slot).quiescedBy .drainLimit) rfl
    refine ⟨_, congrArg Host.Outcome.next ((congrArg finish (hgone.trans (quiesceEarly_setSlot _ _ _ _))).trans hdep.fin),
      hdep.cleaned, hdep.answered, ?_, ?_, hev⟩ <;>
    · rw [hdep.slot]; rfl
  case reset =>
    have hop : slotCommand i 6 s.wrote = (.ok, resetSlot i s.wrote) := by
      simp only [slotCommand, slotResetCommand, show (s.wrote.slot i).state = .admitted from hst]
    have hdep := departed (s := s) (i := i.val) (st := .targetReset) (u := s.wrote.setSlot i (({ s.slot i with
      counters := { (s.slot i).counters with slotResets := bump (s.slot i).counters.slotResets } } : Slot).powered .slotReset s.localTime))
      ⟨rfl, rfl⟩ hr (State.slot_setSlot_same _ _ _) (drain_setSlot (s := s.wrote) hd hnone)
    rw [resetSlot_eq] at hop
    have hans := managed_of_accepts ho hop (accepts_departureCleanup ha hroom)
    exact ⟨_, _, hans, congrArg Host.Outcome.next (finish_of_answered hans hdep.routed hdep.drains), hdep.cleaned, hdep.answered,
      congrArg Slot.state hdep.slot, congrArg (fun r => r.counters.slotResets) hdep.slot⟩
  case park =>
    have hfree' : (s.wrote.lock i).holder.isSome = false := by rw [show (s.wrote.lock i).holder = none from hfree]; rfl
    have hop : slotCommand i 3 s.wrote = (.ok, parkSlot i s.wrote) := by
      simp only [slotCommand, parkCommand, show (s.wrote.slot i).state = .admitted from hst, hfree', Bool.false_eq_true, if_false]
    have hdep := departed (s := s) (i := i.val) (st := .noTarget) (u := s.wrote.setSlot i (s.slot i).parkedNow)
      ⟨rfl, rfl⟩ hr (State.slot_setSlot_same _ _ _) (drain_setSlot (s := s.wrote) hd hnone)
    rw [parkSlot_eq] at hop
    have hans := managed_of_accepts ho hop (accepts_departureCleanup ha hroom)
    exact ⟨_, _, hans, congrArg Host.Outcome.next (finish_of_answered hans hdep.routed hdep.drains), hdep.cleaned, hdep.answered,
      congrArg Slot.state hdep.slot, congrArg Slot.lane hdep.slot, (congrArg Slot.powerEnable hdep.slot).trans rfl⟩
  case locked =>
    have hop : slotCommand i 3 s.wrote = (.inUse, s.wrote) := by
      have hheld' : (s.wrote.lock i).holder.isSome = true := Option.isSome_iff_ne_none.2 hheld
      simp only [slotCommand, parkCommand, show (s.wrote.slot i).state = .admitted from hst, hheld', if_true]
    have hans := managed_of_accepts ho hop (by rwa [accepts_wrote])
    refine ⟨_, hans, congrArg Host.Outcome.next (finish_of_answered hans hr fun j => ?_)⟩
    by_cases hj : j = i.val
    · subst hj; exact hnone
    · exact hd j hj

end Sys2Proof.Machine
end

section
/-! SUPPORT. Slots (R117 to R128, R130, R133): bring-up, handles, removals without traffic, and the statements about
them (O47, O48, O50). -/

namespace Sys2Proof.Machine

variable {s t : State} {i : Nat}

/-! ## Extraction (R130, R131) -/

theorem unsend_available {r : Slot} {p : LaneMsg → Bool} (h : ∀ y ∈ r.committed.tail, p y = false) :
    (r.unsend p).available = r.available := by
  unfold Slot.unsend
  split
  · rfl
  · next m rest hm =>
    rw [if_neg]
    rw [hm] at h
    simpa using h

/-- R130: a slot that enters EXTRACTING. -/
def Slot.extracted (r : Slot) (c : Cause) (now : Nat) : Slot :=
  { r with
    state := .extracting, timer := some ⟨.drain, now⟩, drain := some {}, delivery := [], lastCause := c
    counters := { r.counters with extractions := bump r.counters.extractions } }.unsend isDelivery

theorem extracted_eq (r : Slot) (c : Cause) (now : Nat) : r.extracted c now = { r with
    state := .extracting, timer := some ⟨.drain, now⟩, drain := some {}, delivery := [], lastCause := c
    counters := { r.counters with extractions := bump r.counters.extractions }
    committed := r.committed.take 1 ++ (r.committed.drop 1).filter (fun m => !isDelivery m)
    available := (r.extracted c now).available } := by
  refine (unsend_frame _ _).trans ?_
  rw [unsend_committed]
  have h : ∀ l : List LaneMsg, l.head?.toList ++ l.tail.filter (fun x => !isDelivery x) =
      l.take 1 ++ (l.drop 1).filter (fun m => !isDelivery m) := fun l => by cases l <;> rfl
  simp only [h]
  rfl

theorem extracted_drained (r : Slot) (c : Cause) (now : Nat) (d : Drain) : { r.extracted c now with drain := some d } = { r with
    state := .extracting, timer := some ⟨.drain, now⟩, drain := some d, delivery := [], lastCause := c
    counters := { r.counters with extractions := bump r.counters.extractions }
    committed := r.committed.take 1 ++ (r.committed.drop 1).filter (fun m => !isDelivery m)
    available := (r.extracted c now).available } := by
  conv_lhs => rw [extracted_eq]

theorem extracted_available {r : Slot} (c : Cause) (now : Nat) (h : ∀ m ∈ r.committed.drop 1, isDelivery m = false) :
    (r.extracted c now).available = r.available :=
  unsend_available fun y hy => h y (by rwa [List.drop_one])

/-- R131: a drain that is not complete follows its conditions. -/
theorem settleDrain_left {d : Drain} (hst : (s.slot i).state = .extracting) (hd : (s.slot i).drain = some d)
    (hc : (s.drainFlags i d).complete = false) : settleDrain s i = s.setSlot i { s.slot i with drain := some (s.drainFlags i d) } := by
  simp only [settleDrain, hd, hst, if_true, hc, Bool.false_eq_true, if_false]

theorem settleDrains_of_still (h : ∀ j, settleDrain s j = s) : settleDrains s = s := by
  unfold settleDrains
  induction List.range 16 with
  | nil => rfl
  | cons j l ih => rw [List.foldl_cons, h j, ih]

/-- A drain's record that already stands on its conditions. -/
theorem settleDrain_setSlot {r : Slot} {d : Drain} (hst : r.state = .extracting)
    (hd : r.drain = some ((s.setSlot i r).drainFlags i d)) (hc : ((s.setSlot i r).drainFlags i d).complete = false) :
    settleDrain (s.setSlot i r) i = s.setSlot i r := by
  have hslot : (s.setSlot i r).slot i = r := State.slot_setSlot_same _ _ _
  rw [settleDrain_left (d := (s.setSlot i r).drainFlags i d) (by rw [hslot, hst]) (by rw [hslot, hd]) hc, hslot,
    State.setSlot_setSlot]
  exact congrArg (s.setSlot i) (by rw [show (s.setSlot i r).drainFlags i ((s.setSlot i r).drainFlags i d) =
    (s.setSlot i r).drainFlags i d from rfl, ← hd])

/-- R130: the state in which a slot that enters EXTRACTING has its waiting requests answered. -/
def State.extracting (s : State) (i : Nat) (c : Cause) : State :=
  answerSlotInbound i (fun x => x == .waiting) .noTarget
    (raise .extractRequest (s.setSlot i ((s.slot i).extracted c s.localTime)))

theorem answering_extracting (s : State) (i : Nat) (c : Cause) :
    Answering (raise .extractRequest (s.setSlot i ((s.slot i).extracted c s.localTime))) (s.extracting i c) :=
  answering_answerAll _ _ _

theorem slot_extracting (s : State) (i : Nat) (c : Cause) (j : Nat) :
    (s.extracting i c).slot j = if j = i then (s.slot i).extracted c s.localTime else s.slot j := by
  rw [(answering_extracting s i c).slot, raise_slot, State.slot_setSlot]

theorem extracted_state (r : Slot) (c : Cause) (now : Nat) : (r.extracted c now).state = .extracting := by rw [extracted_eq]

theorem extracted_drain (r : Slot) (c : Cause) (now : Nat) : (r.extracted c now).drain = some {} := by rw [extracted_eq]

/-- R130, R131: a slot that has entered EXTRACTING, whose drain no boundary has passed. -/
theorem enterExtracting_eq (i : Nat) (c : Cause) (s : State) : enterExtracting i c s =
    (s.extracting i c).setSlot i { (s.slot i).extracted c s.localTime with
      drain := some ((s.extracting i c).drainFlags i {}) } := by
  have hslot := (slot_extracting s i c i).trans (if_pos rfl)
  have h : enterExtracting i c s = settleDrain (s.extracting i c) i := rfl
  rw [h, settleDrain_left (d := {}) (by rw [hslot, extracted_state]) (by rw [hslot, extracted_drain]) rfl, hslot]

theorem finish_enterExtracting {c : Cause} (hr : s.routed) (hd : ∀ j, j ≠ i → (s.slot j).drain = none) :
    finish (enterExtracting i c s) = enterExtracting i c s := by
  rw [enterExtracting_eq]
  have hrouted : ((s.extracting i c).setSlot i { (s.slot i).extracted c s.localTime with
      drain := some ((s.extracting i c).drainFlags i {}) }).routed :=
    (answering_extracting s i c).routed (s := raise .extractRequest _) hr
  rw [finish, rerouteAll_of_routed 33 hrouted]
  refine settleDrains_of_still fun j => ?_
  by_cases hj : j = i
  · subst hj
    refine settleDrain_setSlot (d := {}) (extracted_state _ _ _) (congrArg some ?_) rfl
    have hw : ((s.extracting j c).slot j).waiting = ((s.slot j).extracted c s.localTime).waiting := by
      rw [slot_extracting, if_pos rfl]
    simp only [State.drainFlags, State.slot_setSlot_same, hw]
    rfl
  · refine settleDrain_none _ _ ?_
    rw [State.slot_setSlot, if_neg hj, slot_extracting, if_neg hj]
    exact hd j hj

theorem extracting_lock (s : State) (i : Nat) (c : Cause) :
    (s.extracting i c).lock i = s.lock i ∨ (s.extracting i c).lock i = {} :=
  answerAll_lock _ _ _ _

/-- R162: where no request waits for the slot, its lock stands. -/
theorem extracting_lock_kept {c : Cause} (h : ∀ x ∈ s.trans.inbound, x.2.slot = i → x.2.state ≠ .waiting) :
    (s.extracting i c).lock i = s.lock i := by
  have hnone : (raise .extractRequest (s.setSlot i ((s.slot i).extracted c s.localTime))).inHandles i (fun x => x == .waiting) = [] :=
    inHandles_of_none fun x hx hs => beq_eq_false_iff_ne.2 (h x hx hs)
  rw [State.extracting, answerSlotInbound_eq, hnone]
  rfl

/-- R162: a WRITE_UNLOCK not yet sent to the slot releases its lock. -/
theorem extracting_unlocks {c : Cause} {h : Nat} {e : InEntry} (hu : (s.lock i).unlockHandle = some h)
    (he : s.inEntry h = some e) (hi : e.slot = i) (hw : e.state = .waiting) : (s.extracting i c).lock i = {} :=
  answerAll_unlocks (s := raise .extractRequest (s.setSlot i ((s.slot i).extracted c s.localTime))) hu he hi
    (mem_inHandles.2 ⟨e, mem_of_tfind he, hi, beq_iff_eq.2 hw⟩)

/-- R130: no request is left that was not yet sent to the slot. -/
theorem extracting_none_waiting {c : Cause} {h : Nat} {e : InEntry} (he : (s.extracting i c).inEntry h = some e)
    (hi : e.slot = i) : e.state ≠ .waiting :=
  beq_eq_false_iff_ne.1 (answerSlotInbound_clears (p := fun x => x == .waiting) rfl he hi)

/-! ## Bring-up (R119 to R123) -/

theorem noteAdmitted_slot (i j : Nat) (s : State) : (noteAdmitted i s).slot j = s.slot j := rfl

/-- R122: a slot that is admitted. -/
def Slot.admittedWith (r : Slot) (credits : Nat) : Slot :=
  { r with
    state := .admitted, lane := .up, advertised := credits, available := credits, timer := none
    lastCause := if r.lastCause = .laneLost then .laneLost else .laneUp
    counters := { r.counters with admissions := bump r.counters.admissions } }

theorem laneAdvertised_taken {credits : Nat} (hst : (s.slot i).state = .powering) (hl : (s.slot i).lane = .training)
    (h1 : 1 ≤ credits) (h255 : credits ≤ 255) : laneAdvertised i credits s =
      let u := raise .slotAdmitted (noteAdmitted i (s.setSlot i ((s.slot i).admittedWith credits)))
      if (s.slot i).handleOpen then enterExtracting i .handleOpened u else u :=
  if_pos ⟨hst, hl, h1, h255⟩

/-- R119, R120: a slot in INSERTED. -/
def Slot.insertedBy (r : Slot) (c : Cause) : Slot := { r with state := .inserted, timer := none, removal := false, lastCause := c }

theorem enterInserted_eq (i : Nat) (c : Cause) (s : State) : enterInserted i c s =
    s.setSlot i (if (s.slot i).auto = true then ((s.slot i).insertedBy c).powered .autoOrAdmit s.localTime
      else (s.slot i).insertedBy c) := by
  unfold enterInserted
  split
  · simp only [enterPowering_eq, State.updSlot, State.slot_setSlot_same, State.setSlot_setSlot]
    rfl
  · rfl

theorem settled_drains {i : Nat} (hs : s.settled) : ∀ j, j ≠ i → (s.slot j).drain = none := fun j _ => hs.2 j

theorem finish_setSlot {r : Slot} (hs : s.settled) (hr : r.drain = none) : finish (s.setSlot i r) = s.setSlot i r :=
  finish_of_settled hs.1 (drain_setSlot (settled_drains hs) hr)

theorem finish_raise_setSlot {r : Slot} (k : EventKind) (hs : s.settled) (hr : r.drain = none) :
    finish (raise k (s.setSlot i r)) = raise k (s.setSlot i r) :=
  finish_of_settled hs.1 (drain_setSlot (settled_drains hs) hr)

/-- Settles O47. -/
theorem slotsAreBroughtUp : Obligations.SlotsAreBroughtUp := by
  unfold Obligations.SlotsAreBroughtUp
  intro i s
  dsimp only
  refine ⟨fun ⟨hst, hp⟩ => ?presence, fun ⟨hst, ht⟩ => ?debounce, ?power, fun ⟨hst, ht⟩ => ?timeout,
    fun credits hs hst hl => ?advertised, fun credits hs hl => ?dormant⟩
  case presence =>
    refine congrArg Host.Outcome.next ?_
    simp only [presenceShown, State.updSlot, hst, hp, Bool.not_false, and_self, if_true]
  case debounce =>
    have hdone : debounceDone i s = enterInserted i .presenceStable
        (raise .slotInserted (s.countSlot i (fun c => { c with insertions := bump c.insertions }))) := if_pos ⟨hst, ht⟩
    refine congrArg Host.Outcome.next (hdone.trans ?_)
    rw [enterInserted_eq, raise_slot, State.countSlot, State.updSlot, State.slot_setSlot_same, ← raise_setSlot, State.setSlot_setSlot]
    rfl
  case power =>
    refine congrArg Host.Outcome.next ?_
    refine congrArg (s.setSlot i) ?_
    by_cases h : (s.slot i).state = .powering ∧ (s.slot i).lane = .off
    · rw [if_pos h]; exact if_pos h
    · rw [if_neg h]; exact if_neg h
  case timeout =>
    have hexp : powerExpired i s = enterFaulted i .powerTimeout
        (s.countSlot i (fun c => { c with powerTimeouts := bump c.powerTimeouts })) := if_pos ⟨hst, ht⟩
    refine congrArg Host.Outcome.next (hexp.trans ?_)
    rw [enterFaulted, State.countSlot, State.updSlot, State.updSlot, State.slot_setSlot_same, State.setSlot_setSlot]
    rfl
  case advertised =>
    have hslot : ∀ credits j, (raise .slotAdmitted (noteAdmitted i (s.setSlot i ((s.slot i).admittedWith credits)))).slot j =
        if j = i.val then (s.slot i).admittedWith credits else s.slot j := fun credits j => by
      rw [raise_slot, noteAdmitted_slot, State.slot_setSlot]
    have hdrains : ∀ credits j, j ≠ i.val →
        ((raise .slotAdmitted (noteAdmitted i (s.setSlot i ((s.slot i).admittedWith credits)))).slot j).drain = none :=
      fun credits j hj => by rw [hslot, if_neg hj]; exact hs.2 j
    refine ⟨_, rfl, fun ⟨h1, h255, hopen⟩ => ?_, fun ⟨h1, h255, hopen⟩ => ?_, fun hbad => ?_⟩
    · have hadv := laneAdvertised_taken hst hl h1 h255
      simp only [hopen, Bool.false_eq_true, if_false] at hadv
      have hfin : finish (laneAdvertised i credits s) = laneAdvertised i credits s := by
        rw [hadv]
        refine finish_of_settled hs.1 fun j => ?_
        by_cases hj : j = i.val
        · rw [hslot, if_pos hj]; exact hs.2 i
        · exact hdrains credits j hj
      rw [hfin, hadv]
      exact ⟨(hslot credits i).trans (if_pos rfl), pending_raise (.inr rfl), rfl, rfl, fun j hj => (hslot credits j).trans (if_neg hj)⟩
    · have hadv := laneAdvertised_taken hst hl h1 h255
      simp only [hopen, if_true] at hadv
      rw [hadv, finish_enterExtracting (s := raise .slotAdmitted (noteAdmitted i (s.setSlot i ((s.slot i).admittedWith credits))))
        hs.1 (hdrains credits), enterExtracting_eq, State.slot_setSlot_same]
      exact ⟨extracted_state _ _ _, (answering_extracting _ _ _).events _ (pending_raise (.inr rfl))⟩
    · have hnot : ¬((s.slot i).state = .powering ∧ (s.slot i).lane = .training ∧ 1 ≤ credits ∧ credits ≤ 255) := by omega
      have hadv : laneAdvertised i credits s = s :=
        (if_neg hnot).trans (if_neg (by rw [hl]; decide))
      rw [hadv, finish_of_settled hs.1 hs.2]
  case dormant =>
    have hnot : ¬((s.slot i).state = .powering ∧ (s.slot i).lane = .training ∧ 1 ≤ credits ∧ credits ≤ 255) := fun h => by
      rw [hl] at h; exact absurd h.2.1 (by decide)
    have hadv : laneAdvertised i credits s = s.countSlot i (fun c => { c with dormantIgnored := bump c.dormantIgnored }) :=
      (if_neg hnot).trans (if_pos hl)
    exact congrArg Host.Outcome.next ((congrArg finish hadv).trans (finish_setSlot hs (hs.2 i)))

/-! ## Removals and the handle (R119, R121, R130, R133, R137 to R139) -/

theorem presenceGone_empty (h : (s.slot i).state = .empty) :
    presenceGone i s = s.updSlot i (fun r => { r with presence := false, timer := none }) := by
  simp only [presenceGone, h]

theorem presenceGone_inserted (h : (s.slot i).state = .inserted) :
    presenceGone i s = enterEmpty i .presenceLost (s.countSlot i (fun c => { c with withdrawn := bump c.withdrawn })) := by
  simp only [presenceGone, h]

theorem presenceGone_powering (h : (s.slot i).state = .powering) : presenceGone i s = raise .surpriseRemoval
    (enterEmpty i .presenceLost (s.countSlot i (fun c => { c with surpriseRemovals := bump c.surpriseRemovals }))) := by
  simp only [presenceGone, h]

theorem presenceGone_quiesced (h : (s.slot i).state = .quiesced) : presenceGone i s = enterEmpty i .removed s := by
  simp only [presenceGone, h]

theorem presenceGone_faulted (h : (s.slot i).state = .faulted) : presenceGone i s = enterEmpty i .presenceLost s := by
  simp only [presenceGone, h]

theorem powerGone_powering (h : (s.slot i).state = .powering) (hp : (s.slot i).powerGood = true) :
    powerGone i s = powerFault i (s.setSlot i { s.slot i with powerGood := false }) := by
  unfold powerGone
  simp only [h, hp, if_true]

theorem handleOpens_inUse (h : (s.slot i).state = .admitted ∨ (s.slot i).state = .parked) :
    handleOpens i s = enterExtracting i .handleOpened (s.updSlot i (fun r => { r with handleOpen := true })) := by
  rcases h with h | h <;> simp only [handleOpens, h]

theorem handleOpens_other (h : (s.slot i).state ≠ .admitted ∧ (s.slot i).state ≠ .parked) :
    handleOpens i s = s.updSlot i (fun r => { r with handleOpen := true }) := by
  obtain ⟨h1, h2⟩ := h
  unfold handleOpens
  dsimp only
  split
  · next h => exact absurd h h1
  · next h => exact absurd h h2
  · rfl

/-- R133, R137, R139: a slot whose module is gone. -/
def Slot.emptied (r : Slot) (c : Cause) : Slot :=
  { r with
    state := .empty, presence := false, powerEnable := false, removal := false, timer := none, drain := none, lastCause := c
    lane := .off, advertised := 0, available := 0, committed := [] }

theorem enterEmpty_eq (i : Nat) (c : Cause) (s : State) : enterEmpty i c s = s.setSlot i ((s.slot i).emptied c) := rfl

theorem enterEmpty_countSlot (i : Nat) (c : Cause) (f : SlotCounters → SlotCounters) (s : State) :
    enterEmpty i c (s.countSlot i f) = s.setSlot i (({ s.slot i with counters := f (s.slot i).counters } : Slot).emptied c) := by
  rw [enterEmpty_eq, State.countSlot, State.updSlot, State.slot_setSlot_same, State.setSlot_setSlot]

/-- Settles O48. -/
theorem handlesAndRemovalsAct : Obligations.HandlesAndRemovalsAct := by
  unfold Obligations.HandlesAndRemovalsAct
  intro i s hs
  dsimp only
  refine ⟨fun h => congrArg Host.Outcome.next ?empty, fun h => congrArg Host.Outcome.next ?inserted,
    fun h => congrArg Host.Outcome.next ?powering, fun h => congrArg Host.Outcome.next ?quiesced,
    fun h => congrArg Host.Outcome.next ?faulted, fun ⟨h, hp⟩ => congrArg Host.Outcome.next ?power,
    ⟨_, rfl, fun h => ?opens, fun h => ?stands⟩, congrArg Host.Outcome.next ?closes⟩
  case empty => exact (congrArg finish (presenceGone_empty h)).trans (finish_setSlot hs (hs.2 i))
  case inserted => exact (congrArg finish ((presenceGone_inserted h).trans (enterEmpty_countSlot _ _ _ _))).trans (finish_setSlot hs rfl)
  case powering =>
    exact (congrArg finish ((presenceGone_powering h).trans (congrArg _ (enterEmpty_countSlot _ _ _ _)))).trans
      (finish_raise_setSlot _ hs rfl)
  case quiesced => exact (congrArg finish (presenceGone_quiesced h)).trans (finish_setSlot hs rfl)
  case faulted => exact (congrArg finish (presenceGone_faulted h)).trans (finish_setSlot hs rfl)
  case power =>
    exact (congrArg finish ((powerGone_powering h hp).trans (powerFault_eq _ _))).trans (finish_raise_setSlot _ hs rfl)
  case stands =>
    exact (congrArg finish (handleOpens_other h)).trans (finish_setSlot hs (hs.2 i))
  case closes =>
    have hclose : handleCloses i s = if (s.slot i).state = .quiesced
        then enterPowering i .handleClosed (s.setSlot i { s.slot i with handleOpen := false })
        else s.setSlot i { s.slot i with handleOpen := false } := rfl
    rw [hclose]
    split
    · rw [enterPowering_eq, State.slot_setSlot_same, State.setSlot_setSlot]
      have hd := hs.2 i
      simp only [Slot.powered, hd]
      rfl
    · rfl
  case opens =>
    obtain ⟨u, hu, hslot, hother, hrouted, hlock, hin, hentry, hnow⟩ : ∃ u, handleOpens i s = enterExtracting i .handleOpened u ∧
        u.slot i = { s.slot i with handleOpen := true } ∧ (∀ j, j ≠ i.val → (u.slot j).drain = none) ∧ u.routed ∧
        u.lock i = s.lock i ∧ u.trans.inbound = s.trans.inbound ∧ (∀ k, u.inEntry k = s.inEntry k) ∧ u.localTime = s.localTime :=
      ⟨_, handleOpens_inUse h, State.slot_updSlot_same _ _ _,
        fun j hj => by rw [State.slot_updSlot, if_neg hj]; exact hs.2 j, hs.1, rfl, rfl, fun _ => rfl, rfl⟩
    have hev := (answering_extracting u i .handleOpened).events EventKind.extractRequest.code (pending_raise (.inr rfl))
    rw [hu, finish_enterExtracting hrouted hother, enterExtracting_eq]
    have hcommitted : (u.slot i).committed = (s.slot i).committed := by rw [hslot]
    have havail : (u.slot i).available = (s.slot i).available := by rw [hslot]
    refine ⟨(u.extracting i .handleOpened).drainFlags i {}, ?_, fun hm => ?_, rfl, rfl, ?_, fun hx => ?_, fun k e hk he hi hw => ?_,
      fun k e he hi => ?_, hev⟩
    · rw [State.slot_setSlot_same]
      rw [hslot, hnow]
      exact extracted_drained { s.slot i with handleOpen := true } .handleOpened s.localTime _
    · rw [State.slot_setSlot_same]
      exact (extracted_available _ _ (by rwa [hcommitted])).trans havail
    · rw [← hlock]
      exact extracting_lock u i _
    · rw [← hlock]
      exact extracting_lock_kept (by rwa [hin])
    · exact extracting_unlocks (s := u) (by rw [hlock]; exact hk) (by rw [hentry]; exact he) hi hw
    · exact extracting_none_waiting (s := u) he hi

/-! ## Slot commands (R128) -/

/-- A slot in service beside a table in which one index is listed twice, the first entry that of the Manager's request. -/
def doubled : State :=
  { State.reset with
    slots := [(2, { state := .admitted, lane := .up, advertised := 8, available := 8 })]
    trans := { State.reset.trans with
      ott := [(3, ⟨0, 1, 0, 2, .read, 0, 4, [], none, none, .none, false, 0, 0, none, .sent, none, 0⟩),
        (3, ⟨2, 1, 0, 2, .read, 0, 4, [], none, none, .none, false, 0, 0, none, .sent, none, 0⟩)] } }

/-- The manager's EJECT of slot 2 there. -/
def afterDoubled : State := finish (managed ⟨0, 0, 1⟩ (slotCommand 2 2) doubled)

/-- The completion writes the first entry anew, and takes the one behind it off the table, so that the slot is left without
an entry of its own. -/
theorem afterDoubled_drain : (afterDoubled.slot 2).drain = some ⟨false, true, true, true⟩ := by decide

theorem doubled_settled : doubled.settled := by
  refine ⟨by unfold State.routed; decide, fun i => ?_⟩
  by_cases hi : 2 = i
  · subst hi; rfl
  · simp [doubled, State.slot, tgetD, tfind, hi]

/-- Refutes O50: where an index is listed twice in the Outstanding Transaction Table, the command's own completion
changes what the drain finds. -/
theorem not_slotCommandsAct : ¬Obligations.SlotCommandsAct := by
  unfold Obligations.SlotCommandsAct
  rintro ⟨h, -⟩
  obtain ⟨-, -, -, -, -, -, heject, -⟩ := h ⟨0, 0, 1⟩ 2 doubled doubled_settled (by decide) (by decide)
  obtain ⟨s1, t, ht, hans, -, -, -, -, hdrain⟩ := heject (by decide) (.inl (by decide))
  have heq : afterDoubled = t := Host.Outcome.next.inj ht
  have hslot : t.slot 2 = s1.slot 2 := (answering_sendCompletion hans).slot 2
  have hleft : (t.slot 2).drain = some ⟨false, true, (doubled.lock 2).holder.isNone,
      doubled.trans.ott.all (fun e => e.2.id ≠ 2) && (doubled.slot 2).waiting.isEmpty⟩ := by rw [hslot]; exact hdrain
  rw [← heq, afterDoubled_drain] at hleft
  exact absurd hleft (by decide)

end Sys2Proof.Machine
end

section
/-! SUPPORT. The lane arbiter (R124 to R126, R141, R156, R158), and the statement about it (O51). -/

namespace Sys2Proof.Machine

variable {s t : State} {i : Nat}

/-! ## The oldest of a list -/

theorem oldest_eq_none {α : Type} {f : α → Nat} {l : List (Nat × α)} : oldest f l = none ↔ l = [] := by
  cases l with
  | nil => simp [oldest]
  | cons e l =>
    simp only [oldest, reduceCtorEq, iff_false]
    split
    · simp
    · split <;> simp

/-- The oldest of a list stands in it, and none is older. -/
theorem oldest_spec {α : Type} {f : α → Nat} {l : List (Nat × α)} {x : Nat × α} (h : oldest f l = some x) :
    x ∈ l ∧ ∀ y ∈ l, f x.2 ≤ f y.2 := by
  induction l generalizing x with
  | nil => cases h
  | cons e l ih =>
    unfold oldest at h
    split at h
    · next hn =>
      cases h
      refine ⟨List.mem_cons_self, fun y hy => ?_⟩
      rcases List.mem_cons.1 hy with rfl | hy
      · exact Nat.le_refl _
      · rw [oldest_eq_none.1 hn] at hy; cases hy
    · next z hz =>
      obtain ⟨hmem, hmin⟩ := ih hz
      split at h
      · next hlt =>
        cases h
        refine ⟨List.mem_cons_of_mem _ hmem, fun y hy => ?_⟩
        rcases List.mem_cons.1 hy with rfl | hy
        · exact Nat.le_of_lt hlt
        · exact hmin y hy
      · next hge =>
        cases h
        refine ⟨List.mem_cons_self, fun y hy => ?_⟩
        rcases List.mem_cons.1 hy with rfl | hy
        · exact Nat.le_refl _
        · exact Nat.le_trans (Nat.le_of_not_lt hge) (hmin y hy)

theorem oldestAnswer_spec {k : Nat} {e : OttEntry} (h : s.oldestAnswer i = some (k, e)) :
    ((k, e) ∈ s.trans.ott ∧ e.id = i ∧ e.state = .answered) ∧
    ∀ x ∈ s.trans.ott, x.2.id = i → x.2.state = .answered → e.order ≤ x.2.order := by
  obtain ⟨hmem, hmin⟩ := oldest_spec h
  obtain ⟨hx, hc⟩ := List.mem_filter.1 hmem
  simp only [Bool.and_eq_true, beq_iff_eq] at hc
  refine ⟨⟨hx, hc.1, hc.2⟩, fun x hx hid hst => hmin x (List.mem_filter.2 ⟨hx, ?_⟩)⟩
  simp [hid, hst]

theorem oldestAnswer_none (h : ∀ x ∈ s.trans.ott, x.2.id = i → x.2.state ≠ .answered) : s.oldestAnswer i = none := by
  refine oldest_eq_none.2 (List.filter_eq_nil_iff.2 fun x hx hc => ?_)
  simp only [Bool.and_eq_true, beq_iff_eq] at hc
  exact h x hx hc.1 hc.2

theorem firstWaiting_spec {k : Nat} {e : InEntry} (h : s.firstWaiting i = some (k, e)) :
    ∀ x ∈ s.trans.inbound, x.2.slot = i → x.2.state = .waiting → e.order ≤ x.2.order := by
  obtain ⟨-, hmin⟩ := oldest_spec h
  refine fun x hx hid hst => hmin x (List.mem_filter.2 ⟨hx, ?_⟩)
  simp [hid, hst]

theorem firstWaiting_none (h : ∀ x ∈ s.trans.inbound, x.2.slot = i → x.2.state ≠ .waiting) : s.firstWaiting i = none := by
  refine oldest_eq_none.2 (List.filter_eq_nil_iff.2 fun x hx hc => ?_)
  simp only [Bool.and_eq_true, beq_iff_eq] at hc
  exact h x hx hc.1 hc.2

/-! ## What the arbiter commits (R125) -/

/-- R156: the oldest answer, for its credits. -/
theorem commitCompletion_answer {k : Nat} {e : OttEntry} (h : s.oldestAnswer i = some (k, e)) : commitCompletion i s =
    let a := e.answer.getD ⟨.badRequest, []⟩
    if (s.slot i).canCommit (laneCost a.data.length) = true then
      some ((s.freeOtt k).setSlot i ((s.slot i).commit (.completion e.tag a.status.code a.data) (laneCost a.data.length)))
    else none := by
  simp only [commitCompletion, h]

/-- R141: the refusal of the request at the head of the lane. -/
theorem commitCompletion_head {w : WaitingRequest} {rest : List WaitingRequest} (h : s.oldestAnswer i = none)
    (hw : (s.slot i).waiting = w :: rest) : commitCompletion i s =
    if (w.refused && (s.slot i).canCommit (laneCost 0)) = true then
      some ((s.updTrans (fun t => { t with refusedAtIssue := bump t.refusedAtIssue })).setSlot i
        ({ s.slot i with waiting := rest }.commit (.completion w.req.tag Status.badRequest.code []) (laneCost 0)))
    else none := by
  simp only [commitCompletion, h, hw]

theorem commitCompletion_idle (h : s.oldestAnswer i = none) (hw : (s.slot i).waiting = []) : commitCompletion i s = none := by
  simp only [commitCompletion, h, hw]

/-- R158: the oldest waiting inbound request, for its credits. -/
theorem commitInbound_first {h : Nat} {e : InEntry} (hf : s.firstWaiting i = some (h, e)) : commitInbound i s =
    if (s.slot i).canCommit e.cost = true then
      some ((s.setIn h { e with state := .atModule }).setSlot i ((s.slot i).commit (e.message h) e.cost))
    else none := by
  simp only [commitInbound, hf]

theorem commitInbound_idle (hf : s.firstWaiting i = none) : commitInbound i s = none := by
  simp only [commitInbound, hf]

theorem commitSegment_idle (hd : (s.slot i).delivery = []) : commitSegment i s = none := by
  simp [commitSegment, State.segmentReady, State.nextSegment, hd]

/-- R109: the next segment, for its credits. -/
theorem commitSegment_ready {d : DeliveryItem} {rest : List DeliveryItem} (hst : (s.slot i).state = .admitted)
    (hd : (s.slot i).delivery = d :: rest)
    (hc : (s.slot i).canCommit (laneCost (s.sectionMessage d).data.length) = true) :
    commitSegment i s = some (sendSegment i s) ∧
      ((sendSegment i s).slot i).committed = (s.slot i).committed ++ [.sectionMsg (s.sectionMessage d)] := by
  refine ⟨?_, by rw [sendSegment_ready hst hd hc, State.slot_setSlot_same]⟩
  simp [commitSegment, State.segmentReady, State.nextSegment, hd, hst, hc]

/-- R125: whatever the arbiter commits joins the messages committed. -/
theorem arbitrateLane_committed (h : arbitrateLane i s = some t) :
    ∃ m, (t.slot i).committed = (s.slot i).committed ++ [m] ∧ (t.slot i).drain = (s.slot i).drain := by
  unfold arbitrateLane at h
  split at h
  · next u hu =>
    obtain rfl := Option.some.inj h
    cases ho : s.oldestAnswer i with
    | some x =>
      rw [commitCompletion_answer (k := x.1) (e := x.2) ho] at hu
      dsimp only at hu
      split at hu
      · rw [← Option.some.inj hu, State.slot_setSlot_same]
        exact ⟨_, rfl, rfl⟩
      · cases hu
    | none =>
      cases hw : (s.slot i).waiting with
      | nil => rw [commitCompletion_idle ho hw] at hu; cases hu
      | cons w rest =>
        rw [commitCompletion_head ho hw] at hu
        split at hu
        · rw [← Option.some.inj hu, State.slot_setSlot_same]
          exact ⟨_, rfl, rfl⟩
        · cases hu
  · split at h
    · next u hu =>
      obtain rfl := Option.some.inj h
      cases hf : s.firstWaiting i with
      | none => rw [commitInbound_idle hf] at hu; cases hu
      | some x =>
        rw [commitInbound_first (h := x.1) (e := x.2) hf] at hu
        split at hu
        · rw [← Option.some.inj hu, State.slot_setSlot_same]
          exact ⟨_, rfl, rfl⟩
        · cases hu
    · unfold commitSegment at h
      split at h
      · next hready =>
        obtain rfl := Option.some.inj h
        cases hd : (s.slot i).delivery with
        | nil => simp [State.segmentReady, State.nextSegment, hd] at hready
        | cons d rest =>
          by_cases hst : (s.slot i).state = .admitted
          · simp only [State.segmentReady, State.nextSegment, hd, hst, if_true] at hready
            rw [sendSegment_ready hst hd hready, State.slot_setSlot_same]
            exact ⟨_, rfl, rfl⟩
          · simp [State.segmentReady, State.nextSegment, hd, hst] at hready
      · cases h

theorem serveLane_committed (n : Nat) (s : State) :
    ∃ more, ((serveLane i n s).slot i).committed = (s.slot i).committed ++ more ∧
      ((serveLane i n s).slot i).drain = (s.slot i).drain := by
  induction n generalizing s with
  | zero => exact ⟨[], (List.append_nil _).symm, rfl⟩
  | succ n ih =>
    unfold serveLane
    split
    · next t ht =>
      obtain ⟨m, hm, hd⟩ := arbitrateLane_committed ht
      obtain ⟨more, hmore, hd'⟩ := ih t
      exact ⟨m :: more, by rw [hmore, hm, List.append_assoc]; rfl, hd'.trans hd⟩
    · exact ⟨[], (List.append_nil _).symm, rfl⟩

/-- R125: the message that the arbiter offers first is committed first. -/
theorem serveLane_first {n : Nat} {m : LaneMsg} (hn : 0 < n) (ha : arbitrateLane i s = some t)
    (hm : (t.slot i).committed = (s.slot i).committed ++ [m]) :
    ∃ more, ((serveLane i n s).slot i).committed = (s.slot i).committed ++ m :: more := by
  obtain ⟨k, rfl⟩ : ∃ k, n = k + 1 := ⟨n - 1, by omega⟩
  obtain ⟨more, hmore, -⟩ := serveLane_committed (i := i) k t
  refine ⟨more, ?_⟩
  simp only [serveLane, ha]
  rw [hmore, hm, List.append_assoc]
  rfl

theorem serveLane_idle {n : Nat} (ha : arbitrateLane i s = none) : serveLane i n s = s := by
  cases n with
  | zero => rfl
  | succ n => simp only [serveLane, ha]

/-! ## Credits returned (R124) -/

/-- R124: a lane to which credits have returned. -/
def Slot.credited (r : Slot) (n : Nat) : Slot :=
  { r with
    available := min (r.available + n) r.advertised
    counters := { r.counters with
      creditExcess := min (r.counters.creditExcess + (r.available + n - r.advertised)) 4294967295 } }

theorem creditsReturned_eq (n : Nat) (hd : (s.slot i).drain = none) : creditsReturned i n s =
    serveLane i (min ((s.slot i).available + n) (s.slot i).advertised) (s.setSlot i ((s.slot i).credited n)) := by
  have h : creditsReturned i n s = settleDrain (serveLane i
      (((s.setSlot i ((s.slot i).credited n)).slot i).available) (s.setSlot i ((s.slot i).credited n))) i := rfl
  obtain ⟨-, -, hdrain⟩ := serveLane_committed (i := i) (((s.setSlot i ((s.slot i).credited n)).slot i).available)
    (s.setSlot i ((s.slot i).credited n))
  rw [State.slot_setSlot_same] at hdrain h
  rw [h, settleDrain_none _ _ (hdrain.trans hd)]
  rfl

theorem laneCost_pos (d : Nat) : 0 < laneCost d := by unfold laneCost; omega

theorem Slot.canCommit_of_le {r : Slot} {cost : Nat} (hup : r.lane = .up) (h : cost ≤ r.available) : r.canCommit cost = true :=
  Slot.canCommit_iff.2 ⟨hup, .inl h⟩

theorem Slot.canCommit_waits {r : Slot} {cost : Nat} (h : r.lane ≠ .up ∨ r.available < cost ∧ cost ≤ r.advertised) :
    r.canCommit cost = false := by
  refine Bool.eq_false_iff.2 fun hc => ?_
  obtain ⟨hup, hc⟩ := Slot.canCommit_iff.1 hc
  rcases h with h | ⟨hlt, hle⟩
  · exact h hup
  · omega

theorem commitCompletion_waits (hans : ∀ k e, s.oldestAnswer i = some (k, e) →
      ∃ a, e.answer = some a ∧ (s.slot i).canCommit (laneCost a.data.length) = false)
    (href : s.oldestAnswer i = none → ∀ w ∈ (s.slot i).waiting.head?, w.refused = false) : commitCompletion i s = none := by
  cases ho : s.oldestAnswer i with
  | some x =>
    obtain ⟨a, ha, hc⟩ := hans x.1 x.2 ho
    rw [commitCompletion_answer (k := x.1) (e := x.2) ho, ha]
    dsimp only [Option.getD_some]
    rw [hc]
    rfl
  | none =>
    cases hw : (s.slot i).waiting with
    | nil => exact commitCompletion_idle ho hw
    | cons w rest =>
      rw [commitCompletion_head ho hw, href ho w (by rw [hw]; rfl)]
      rfl

theorem arbitrateLane_completion (h : commitCompletion i s = some t) : arbitrateLane i s = some t := by
  simp only [arbitrateLane, h]

theorem arbitrateLane_inbound (hc : commitCompletion i s = none) (h : commitInbound i s = some t) :
    arbitrateLane i s = some t := by simp only [arbitrateLane, hc, h]

theorem arbitrateLane_segment (hc : commitCompletion i s = none) (hi : commitInbound i s = none)
    (h : commitSegment i s = some t) : arbitrateLane i s = some t := by simp only [arbitrateLane, hc, hi, h]

/-- R158: the message of an entry whose operation writes takes its data. -/
theorem inboundMessage_eq (h : Nat) (e : InEntry) :
    e.message h = .inbound h e.who.frame e.who.id (decide (e.op = .write ∨ e.op = .writeUnlock)) e.length e.address
      (if e.op = .write ∨ e.op = .writeUnlock then e.data else []) ∧
    e.cost = (16 + (if e.op = .write ∨ e.op = .writeUnlock then e.data else []).length + 63) / 64 := by
  simp only [InEntry.message, InEntry.cost, laneCost]
  cases e.op <;> simp [Op.writes]

theorem finish_countSlot {f : SlotCounters → SlotCounters} (hs : s.settled) :
    finish (s.countSlot i f) = s.setSlot i { s.slot i with counters := f (s.slot i).counters } :=
  finish_setSlot (r := { s.slot i with counters := f (s.slot i).counters }) hs (hs.2 i)

/-- Settles O51. -/
theorem lanesCarryMessages : Obligations.LanesCarryMessages := by
  unfold Obligations.LanesCarryMessages
  intro i s hs
  dsimp only
  refine ⟨fun n hup hw hdel hans hwait => ?idle, fun bytes hdec => congrArg Host.Outcome.next ?undefined,
    fun k e a ho ha => ⟨(oldestAnswer_spec ho).2, fun ⟨hup, hle⟩ => congrArg Host.Outcome.next ?answer,
      fun hno => congrArg Host.Outcome.next ?answerWaits⟩,
    fun h e hf => ⟨firstWaiting_spec hf, fun ⟨hup, hle⟩ => congrArg Host.Outcome.next ?inbound,
      fun hno => congrArg Host.Outcome.next ?inboundWaits⟩,
    fun w rest ho hw href hup hle => congrArg Host.Outcome.next ?refusal, fun n hup => ?credits⟩
  case idle =>
    have ha : arbitrateLane i (s.setSlot i ((s.slot i).credited n)) = none := by
      have hslot : (s.setSlot i ((s.slot i).credited n)).slot i = (s.slot i).credited n := State.slot_setSlot_same _ _ _
      rw [arbitrateLane, commitCompletion_idle (s := s.setSlot i _) (oldestAnswer_none (s := s.setSlot i _) hans) (by rw [hslot]; exact hw),
        commitInbound_idle (s := s.setSlot i _) (firstWaiting_none (s := s.setSlot i _) hwait)]
      exact commitSegment_idle (by rw [hslot]; exact hdel)
    exact congrArg Host.Outcome.next ((fromModule_up _ _ _ hup).trans ((creditsReturned_eq n (hs.2 i)).trans (serveLane_idle ha)))
  case undefined =>
    cases hl : (s.slot i).lane with
    | up =>
      have h : receiveLaneBytes i bytes s = laneError i s := by
        rw [receiveLaneBytes, fromModule_up _ _ _ hl, hdec]
      rw [h, laneError, finish_countSlot hs]
      dsimp only
      rw [hl]
    | dormant =>
      rw [receiveLaneBytes, fromModule_dormant _ _ _ hl, finish_countSlot hs]
      dsimp only
      rw [hl]
    | off =>
      rw [receiveLaneBytes, fromModule_off _ _ _ (.inl hl)]
      exact finish_of_settled hs.1 hs.2
    | training =>
      rw [receiveLaneBytes, fromModule_off _ _ _ (.inr hl)]
      exact finish_of_settled hs.1 hs.2
  case answer =>
    have hc : (s.slot i).canCommit (laneCost a.data.length) = true := Slot.canCommit_of_le hup hle
    have hsend := commitCompletion_answer ho
    rw [ha] at hsend
    dsimp only [Option.getD_some] at hsend
    rw [if_pos hc] at hsend
    have hfree := answering_freeOtt k s
    rw [hsend]
    exact finish_of_settled (hfree.routed hs.1) (drain_setSlot (fun j _ => by rw [hfree.slot]; exact hs.2 j) (hs.2 i))
  case answerWaits =>
    have hc : (s.slot i).canCommit (laneCost a.data.length) = false := Slot.canCommit_waits hno
    have hsend := commitCompletion_answer ho
    rw [ha] at hsend
    dsimp only [Option.getD_some] at hsend
    rw [hc] at hsend
    rw [hsend]
    exact finish_of_settled hs.1 hs.2
  case inbound =>
    obtain ⟨hm, hcost⟩ := inboundMessage_eq h e
    rw [← hcost] at hle
    rw [commitInbound_first hf, if_pos (Slot.canCommit_of_le hup hle), hm, hcost]
    rfl
  case inboundWaits =>
    obtain ⟨-, hcost⟩ := inboundMessage_eq h e
    rw [← hcost] at hno
    rw [commitInbound_first hf, if_neg (by rw [Slot.canCommit_waits hno]; decide)]
    rfl
  case refusal =>
    rw [commitCompletion_head ho hw, if_pos (by rw [href, Slot.canCommit_of_le hup (cost := laneCost 0) hle]; rfl)]
    exact finish_of_settled hs.1 (drain_setSlot (settled_drains hs) (hs.2 i))
  case credits =>
    obtain ⟨u, hu⟩ : ∃ u, u = s.setSlot i ((s.slot i).credited n) := ⟨_, rfl⟩
    have hslot : u.slot i = (s.slot i).credited n := by rw [hu]; exact State.slot_setSlot_same _ _ _
    have hans : u.oldestAnswer i = s.oldestAnswer i := by rw [hu]; rfl
    have hin : u.firstWaiting i = s.firstWaiting i := by rw [hu]; rfl
    have hsec (d : DeliveryItem) : u.sectionMessage d = s.sectionMessage d := by rw [hu]; rfl
    have hcan {cost : Nat} (h : cost ≤ min ((s.slot i).available + n) (s.slot i).advertised) :
        (u.slot i).canCommit cost = true := Slot.canCommit_of_le (by rw [hslot]; exact hup) (by rw [hslot]; exact h)
    have hwaits {cost : Nat} (h : min ((s.slot i).available + n) (s.slot i).advertised < cost ∧ cost ≤ (s.slot i).advertised) :
        (u.slot i).canCommit cost = false := Slot.canCommit_waits (.inr (by rw [hslot]; exact h))
    refine ⟨_, congrArg Host.Outcome.next ((fromModule_up _ _ _ hup).trans ((creditsReturned_eq n (hs.2 i)).trans (by rw [← hu]))), ?_⟩
    have hfirst {m : LaneMsg} {v : State} {cost : Nat} (hc : cost ≤ min ((s.slot i).available + n) (s.slot i).advertised)
        (hpos : 0 < cost) (ha : arbitrateLane i u = some v) (hm : (v.slot i).committed = (u.slot i).committed ++ [m]) :
        ∃ more, ((serveLane i (min ((s.slot i).available + n) (s.slot i).advertised) u).slot i).committed =
          (s.slot i).committed ++ m :: more := by
      obtain ⟨more, hmore⟩ := serveLane_first (Nat.lt_of_lt_of_le hpos hc) ha hm
      exact ⟨more, by rw [hmore, hslot]; rfl⟩
    have hno (h1 : ∀ k e, s.oldestAnswer i = some (k, e) → ∃ a, e.answer = some a ∧
          min ((s.slot i).available + n) (s.slot i).advertised < (16 + a.data.length + 63) / 64 ∧
          (16 + a.data.length + 63) / 64 ≤ (s.slot i).advertised)
        (h2 : s.oldestAnswer i = none → ∀ w ∈ (s.slot i).waiting.head?, w.refused = false) : commitCompletion i u = none := by
      refine commitCompletion_waits (fun k e ho => ?_) (fun ho w hw => ?_)
      · obtain ⟨a, ha, hlt⟩ := h1 k e (hans.symm.trans ho)
        exact ⟨a, ha, hwaits hlt⟩
      · exact h2 (hans.symm.trans ho) w (by rw [hslot] at hw; exact hw)
    refine ⟨fun k e a ho ha hle => ?_, fun w rest ho hw href hle => ?_, fun h e h1 h2 hf hle => ?_,
      fun d rest h1 h2 h3 hst hd hle => ?_⟩
    · have hc := commitCompletion_answer (hans.trans ho)
      rw [ha] at hc
      dsimp only [Option.getD_some] at hc
      rw [if_pos (hcan (cost := laneCost a.data.length) hle)] at hc
      exact hfirst hle (laneCost_pos _) (arbitrateLane_completion hc) (by rw [State.slot_setSlot_same]; rfl)
    · have hc := commitCompletion_head (hans.trans ho) (by rw [hslot]; exact hw)
      rw [if_pos (by rw [href, hcan (cost := laneCost 0) hle]; rfl)] at hc
      exact hfirst hle Nat.one_pos (arbitrateLane_completion hc) (by rw [State.slot_setSlot_same]; rfl)
    · have hc := commitInbound_first (hin.trans hf)
      rw [if_pos (hcan hle)] at hc
      exact hfirst hle (laneCost_pos _) (arbitrateLane_inbound (hno h1 h2) hc) (by rw [State.slot_setSlot_same]; rfl)
    · have hnone : commitInbound i u = none := by
        cases hf : u.firstWaiting i with
        | none => exact commitInbound_idle hf
        | some x =>
          rw [commitInbound_first (h := x.1) (e := x.2) hf, if_neg (by rw [hwaits (h3 x.1 x.2 (hin.symm.trans hf))]; decide)]
      obtain ⟨hseg, hcom⟩ := commitSegment_ready (s := u) (i := i) (d := d) (rest := rest) (by rw [hslot]; exact hst)
        (by rw [hslot]; exact hd) (by rw [hsec]; exact hcan hle)
      rw [← hsec d]
      exact hfirst hle (laneCost_pos _) (arbitrateLane_segment (hno h1 h2) hnone hseg) hcom

end Sys2Proof.Machine
end

section
/-! SUPPORT. The write of a window with a Swap code above 3 (O56). -/

namespace Sys2Proof.Machine

/-- The manager's write of window 0 with a Swap code above 3. -/
def windowSwapFour : WindowWrite :=
  { enabled := true, frame := 0, target := 0, base := 4096, size := 4096, swap := 4, readOnly := false, policy := 0, retryLimit := 0 }

/-- The state after reset, as the model answers that write. -/
def afterWindowSwapFour : State := managed ⟨0, 0, 0⟩ (writeEach writeWindow 0 [windowSwapFour]) State.reset

/-- `Swap.ofCode` names no swap out of range as `Swap.none`: the write is performed. -/
theorem afterWindowSwapFour_base : (afterWindowSwapFour.window 0).base = 4096 := by decide

theorem refusedWindow_base :
    (sendCompletion false ⟨0, 0, 0⟩ .badRequest [] State.reset.wrote).map (fun t => (t.window 0).base) = some 0 := by
  decide

/-- Refutes O56: a window's Swap code above 3 is not refused, as the last case of `Swap.ofCode` is `Swap.none` and not
`Option.none`. -/
theorem not_onlyTheManagerWrites : ¬Obligations.OnlyTheManagerWrites := by
  unfold Obligations.OnlyTheManagerWrites
  intro h
  obtain ⟨-, hwindow, -⟩ := (h ⟨0, 0, 0⟩ State.reset (by decide)).1 (by decide)
  obtain ⟨t, ht, -, hrefused, -⟩ := hwindow 0 windowSwapFour (by decide)
  have heq : afterWindowSwapFour = t := Host.Outcome.next.inj ht
  have hans : sendCompletion false ⟨0, 0, 0⟩ .badRequest [] State.reset.wrote = some t :=
    hrefused ⟨by decide, .inr (.inl (by decide))⟩
  have hbase := refusedWindow_base
  rw [hans, Option.map_some, Option.some.injEq, ← heq, afterWindowSwapFour_base] at hbase
  exact absurd hbase (by decide)

end Sys2Proof.Machine
end

section
/-! SUPPORT. The setup and the commands of the channels (R165, R167), and the statement about them (O58). -/

namespace Sys2Proof.Machine

variable {s : State} {c : Nat} {who : Requester}

/-- R165, R167: neither a setup nor START acts on the channel. -/
def Channel.busy (r : Channel) : Prop := r.state = .running ∨ r.state = .paused

theorem accepts_setChannel (r : Channel) (f : Nat) : (s.wrote.setChannel c r).accepts f = s.accepts f :=
  accepts_congr f rfl (fun p => by cases p <;> rfl) (fun p => by cases p <;> rfl)

/-! ## Each command on the channel's record -/

theorem writeChannel_busy {w : ChannelSetup} (h : (s.channel c).busy) : writeChannel c w s = (.inUse, s) := if_pos h

theorem writeChannel_refused {w : ChannelSetup} (h : ¬(s.channel c).busy) (hw : setupInRange w = false) :
    writeChannel c w s = (.badRequest, s) := (if_neg h).trans (if_neg (by rw [hw]; decide))

theorem writeChannel_written {w : ChannelSetup} (h : ¬(s.channel c).busy) (hw : setupInRange w = true) :
    writeChannel c w s = (.ok, s.setChannel c { s.channel c with
      srcFrame := w.srcFrame, srcTarget := w.srcTarget, srcAddr := w.srcAddr, dstFrame := w.dstFrame
      dstTarget := w.dstTarget, dstAddr := w.dstAddr, length := w.length, chunk := w.chunk, pacing := w.pacing
      retry := w.policy == 1 }) := (if_neg h).trans (if_pos hw)

theorem setupInRange_iff {w : ChannelSetup} : setupInRange w = true ↔
    w.srcFrame ≤ 31 ∧ w.dstFrame ≤ 31 ∧ validTarget w.srcTarget = true ∧ validTarget w.dstTarget = true ∧
      1 ≤ w.length ∧ w.length ≤ 2 ^ 24 ∧ (w.chunk = 64 ∨ w.chunk = 128 ∨ w.chunk = 256) ∧ w.pacing ≤ 255 ∧ w.policy ≤ 1 := by
  simp [setupInRange, and_assoc, or_assoc]

theorem startCommand_busy (h : (s.channel c).busy) : startCommand c s = (.inUse, s) := if_pos h

theorem startCommand_idle (h : ¬(s.channel c).busy) : startCommand c s = (.ok, s.setChannel c { s.channel c with
    state := .running, remaining := (s.channel c).length, readOffset := 0, fault := none
    starts := bump (s.channel c).starts }) := if_neg h

theorem pauseCommand_eq : pauseCommand c s =
    if (s.channel c).state = .running then (.ok, s.setChannel c { s.channel c with state := .paused })
    else if (s.channel c).state = .paused then (.ok, s) else (.badRequest, s) := by
  unfold pauseCommand
  cases hr : (s.channel c).state <;> simp [hr]

theorem resumeCommand_eq : resumeCommand c s =
    if (s.channel c).state = .paused then (.ok, s.setChannel c { s.channel c with state := .running })
    else if (s.channel c).state = .running then (.ok, s) else (.badRequest, s) := by
  unfold resumeCommand
  cases hr : (s.channel c).state <;> simp [hr]

/-! ## The statement -/

/-- Settles O58. -/
theorem channelsAreCommanded : Obligations.ChannelsAreCommanded := by
  unfold Obligations.ChannelsAreCommanded
  intro who c s ho ha
  dsimp only
  have hleft {op : State → Status × State} {st : Status} (h : op s.wrote = (st, s.wrote)) :
      Answered who st s.wrote (managed who op s) := managed_of_accepts ho h (by rwa [accepts_wrote])
  have hset {op : State → Status × State} {r : Channel} (h : op s.wrote = (.ok, s.wrote.setChannel c r)) :
      Answered who .ok (s.wrote.setChannel c r) (managed who op s) :=
    managed_of_accepts ho h ((accepts_setChannel _ _).trans ha)
  refine ⟨fun w => ⟨_, rfl, fun hb => hleft (writeChannel_busy hb), fun ⟨hb, hw⟩ => hleft (writeChannel_refused hb ?_),
    fun ⟨hb, hw⟩ => hset (writeChannel_written hb (setupInRange_iff.2 hw))⟩, ⟨_, rfl, ?start⟩, ⟨_, rfl, ?pause⟩,
    ⟨_, rfl, ?resume⟩, ⟨_, rfl, hset (op := channelCommand c 4) rfl⟩⟩
  · refine Bool.eq_false_iff.2 fun h => ?_
    obtain ⟨h1, h2, -, -, h3, h4, h5, h6, h7⟩ := setupInRange_iff.1 h
    omega
  case start =>
    split
    · next hb => exact hleft (op := channelCommand c 1) (startCommand_busy hb)
    · next hb => exact hset (op := channelCommand c 1) (startCommand_idle hb)
  case pause =>
    have h : channelCommand c 2 s.wrote = _ := pauseCommand_eq (s := s.wrote)
    split
    · next hr => exact hset (h.trans (if_pos hr))
    · next hr =>
      split
      · next hp => exact hleft (h.trans ((if_neg hr).trans (if_pos hp)))
      · next hp => exact hleft (h.trans ((if_neg hr).trans (if_neg hp)))
  case resume =>
    have h : channelCommand c 3 s.wrote = _ := resumeCommand_eq (s := s.wrote)
    split
    · next hp => exact hset (h.trans (if_pos hp))
    · next hp =>
      split
      · next hr => exact hleft (h.trans ((if_neg hp).trans (if_pos hr)))
      · next hr => exact hleft (h.trans ((if_neg hp).trans (if_neg hr)))

end Sys2Proof.Machine
end

section
/-! SUPPORT. Module replies, Response Deadlines and the end of locks (R131, R158 to R163), and the statement about
them (O55). -/

namespace Sys2Proof.Machine

variable {s t : State} {i : Nat}

/-! ## Statuses by code (11.5) -/

theorem ofCode_code (st : Status) : Status.ofCode st.code = some st := by cases st <;> rfl

theorem code_of_ofCode {c : Nat} {st : Status} (h : Status.ofCode c = some st) : c = st.code := by
  obtain ⟨hlt, rfl⟩ := List.getElem?_eq_some_iff.1 h
  have hall : ∀ c, (h : c < Status.all.length) → c = (Status.all[c]).code := by decide
  exact hall c hlt

theorem ofCode_eq_none_iff {c : Nat} : Status.ofCode c = none ↔ 17 < c := List.getElem?_eq_none_iff

/-- R158, R184: the answer of a reply. -/
theorem replyAnswer_eq (e : InEntry) (code : Nat) (data : List Byte) :
    let good := if e.op = .write ∨ e.op = .writeUnlock then data = [] ∧ (code = Status.ok.code ∨ code = Status.busy.code)
      else data.length = e.length ∧ code ≤ 17
    replyAnswer e code data = ⟨if good then Status.received code else .badRequest, if good then data else []⟩ := by
  dsimp only
  have hrefused : replyRefused e code data = false ↔
      if e.op = .write ∨ e.op = .writeUnlock then data = [] ∧ (code = Status.ok.code ∨ code = Status.busy.code)
        else data.length = e.length ∧ code ≤ 17 := by
    have hw : Op.writes e.op = true ↔ e.op = .write ∨ e.op = .writeUnlock := by cases e.op <;> simp [Op.writes]
    unfold replyRefused
    cases hc : Status.ofCode code with
    | none =>
      have hlt := ofCode_eq_none_iff.1 hc
      have hok : Status.ok.code = 0 := rfl
      have hbusy : Status.busy.code = 1 := rfl
      refine ⟨fun h => (Bool.noConfusion (show true = false from h)), fun h => ?_⟩
      split at h <;> omega
    | some st =>
      obtain rfl := code_of_ofCode hc
      have hle : st.code ≤ 17 := by
        by_contra hlt
        rw [ofCode_eq_none_iff.2 (by omega)] at hc
        cases hc
      have hst : st = .ok ∨ st = .busy ↔ st.code = Status.ok.code ∨ st.code = Status.busy.code := by cases st <;> decide
      by_cases h : e.op = .write ∨ e.op = .writeUnlock
      · simp only [if_pos h, hw.2 h, if_true, ← hst]
        cases st <;> simp
      · simp [if_neg h, Bool.eq_false_iff.2 fun hc => h (hw.1 hc), hle]
  unfold replyAnswer
  by_cases hr : replyRefused e code data = true
  · rw [if_pos hr]
    have hno := mt hrefused.2 (by rw [hr]; decide)
    rw [if_neg hno, if_neg hno]
  · have hg := hrefused.1 (Bool.eq_false_iff.2 hr)
    rw [if_neg hr, if_pos hg, if_pos hg]

/-! ## An inbound entry answered at once, or left with its answer (R150, R160) -/

/-- R151: what an accepted completion adds, it adds to the queue it goes to. -/
theorem sendCompletion_other {who : Requester} {st : Status} {d : List Byte} {p : PortId}
    (h : sendCompletion false who st d s = some t) (hr : s.routeTo who.frame ≠ some (.port p)) : t.port p = s.port p := by
  rcases sendCompletion_cases h with ⟨-, rfl⟩ | ⟨q, hq, -, rfl⟩ | ⟨-, rfl⟩
  · exact (answersOnly_completionHere who.id who.tag st d s).port p
  · rw [State.port_updPort, if_neg (by rintro rfl; exact hr hq)]
  · cases p <;> rfl

theorem port_withAnswer (h : Nat) (e : InEntry) (st : Status) (d : List Byte) (p : PortId) :
    (s.withAnswer h e st d).port p = s.port p := by
  obtain ⟨l, n, hw⟩ := withAnswer_frame h e st d s
  rw [hw]
  cases p <;> rfl

theorem answerInbound_offered {h : Nat} {e : InEntry} {p : PortId} (st : Status) (d : List Byte) (he : s.inEntry h = some e)
    (hp : e.source = .port p) : answerInbound h st d s =
      match sendCompletion false e.who st (Answer.completionData ⟨st, d⟩) (s.withAnswer h e st d) with
      | some t => if s.overtakes (t.delIn h) then s.withAnswer h e st d else t.delIn h
      | none => s.withAnswer h e st d := by
  have hop : answerInbound h st d s = offerInbound s h (s.withAnswer h e st d) := by
    simp only [answerInbound, he]
    rfl
  have hin := withAnswer_inEntry h e st d s h
  rw [if_pos rfl] at hin
  have htake : takeInbound h (s.withAnswer h e st d) =
      (sendCompletion (e.source == .here) e.who st (Answer.completionData ⟨st, d⟩) (s.withAnswer h e st d)).map
        (fun t => t.delIn h) := by
    simp only [takeInbound, hin]
    rfl
  rw [hop, offerInbound, htake, hp]
  have hdir : (Via.port p == Via.here) = false := by cases p <;> rfl
  rw [hdir]
  cases sendCompletion false e.who st (Answer.completionData ⟨st, d⟩) (s.withAnswer h e st d) <;> rfl

theorem State.takes_iff {f : Nat} : s.takes f = true ↔
    s.accepts f = true ∧ ∀ p, s.routeTo f = some (.port p) → s.completionWaiting p = false := by
  unfold State.takes
  rw [Bool.and_eq_true]
  refine and_congr_right fun _ => ?_
  split
  · next p hp => simp [hp]
  · next h => simp only [true_iff]; exact fun p hp => absurd hp (h p)

/-- R151, R160: a completion that can go at once takes its entry with it. -/
theorem answerInbound_sent {h : Nat} {e : InEntry} {p : PortId} (st : Status) (d : List Byte) (he : s.inEntry h = some e)
    (hp : e.source = .port p) (ht : s.takes e.who.frame = true) :
    ∃ t, sendCompletion false e.who st (Answer.completionData ⟨st, d⟩) (s.withAnswer h e st d) = some t ∧
      answerInbound h st d s = t.delIn h := by
  obtain ⟨hacc, hwait⟩ := State.takes_iff.1 ht
  have hans := answering_withAnswer h e st d s
  have hacc' : (s.withAnswer h e st d).accepts e.who.frame = true := by
    rw [accepts_congr _ (hans.routeTo _) hans.isUp fun q => by rw [port_withAnswer]]
    exact hacc
  obtain ⟨t, hsend⟩ := Option.isSome_iff_exists.1
    ((sendCompletion_isSome (s := s.withAnswer h e st d) e.who st (Answer.completionData ⟨st, d⟩)).trans hacc')
  refine ⟨t, hsend, ?_⟩
  have hno : s.overtakes (t.delIn h) = false := by
    refine Bool.eq_false_iff.2 fun hov => ?_
    obtain ⟨q, -, hq⟩ := List.any_eq_true.1 hov
    have hport : (t.delIn h).port q = t.port q := by cases q <;> rfl
    rw [hport, Bool.or_eq_true, Bool.and_eq_true, Bool.and_eq_true, decide_eq_true_iff, decide_eq_true_iff] at hq
    obtain ⟨l, hl⟩ := (answering_sendCompletion hsend).ports q
    rw [port_withAnswer] at hl
    rcases hq with ⟨hlt, -⟩ | ⟨hlt, hw⟩
    · rw [hl] at hlt
      exact absurd hlt (Nat.lt_irrefl _)
    · by_cases hr : s.routeTo e.who.frame = some (.port q)
      · rw [hwait q hr] at hw
        cases hw
      · rw [sendCompletion_other hsend (by rw [hans.routeTo]; exact hr), port_withAnswer] at hlt
        exact absurd hlt (Nat.lt_irrefl _)
  rw [answerInbound_offered st d he hp, hsend]
  dsimp only
  rw [hno]
  rfl

/-- R160: an entry keeps the answer whose completion its queue has no room for. -/
theorem answerInbound_kept {h : Nat} {e : InEntry} {p q : PortId} (st : Status) (d : List Byte) (he : s.inEntry h = some e)
    (hp : e.source = .port q) (hr : s.routeTo e.who.frame = some (.port p)) (hfull : 16 ≤ (s.port p).qCompletion.length) :
    answerInbound h st d s = s.withAnswer h e st d := by
  have hans := answering_withAnswer h e st d s
  have hnone : sendCompletion false e.who st (Answer.completionData ⟨st, d⟩) (s.withAnswer h e st d) = none := by
    refine Option.not_isSome_iff_eq_none.1 ?_
    rw [sendCompletion_isSome, accepts_congr _ (hans.routeTo _) hans.isUp fun q => by rw [port_withAnswer], State.accepts, hr]
    simp [Nat.not_lt.2 hfull]
  rw [answerInbound_offered st d he hp, hnone]

theorem finish_answerInbound (hs : s.settled) (h : Nat) (st : Status) (d : List Byte) :
    finish (answerInbound h st d s) = answerInbound h st d s :=
  finish_of_settled ((answering_answerInbound h st d s).routed hs.1)
    fun j => by rw [(answering_answerInbound h st d s).slot]; exact hs.2 j

/-- R158: a reply to the entry it names. -/
theorem replyArrives_entry {h code : Nat} {data : List Byte} {e : InEntry} (he : s.inEntry h = some e)
    (hst : e.state = .atModule) (hi : e.slot = i) : replyArrives i h code data s =
      answerInbound h (replyAnswer e code data).status (replyAnswer e code data).data s := by
  simp only [replyArrives, he, hst, hi, and_self, if_true]

theorem replyArrives_none {h code : Nat} {data : List Byte} (he : s.inEntry h = none) : replyArrives i h code data s =
    s.updTrans (fun x => { x with repliesDiscarded := bump x.repliesDiscarded }) := by
  simp only [replyArrives, he]

/-! ## Response Deadlines (R159) -/

theorem responseExpires_early {h : Nat} {e : InEntry} (he : s.inEntry h = some e) (hlt : s.localTime < e.deadline) :
    responseExpires h s = s := by
  simp [responseExpires, he, State.reached, Nat.not_le.2 hlt]

theorem responseExpires_due {h : Nat} {e : InEntry} (he : s.inEntry h = some e) (hle : e.deadline ≤ s.localTime)
    (hst : e.state ≠ .answering) : responseExpires h s =
      answerInbound h .targetTimeout [] (s.updTrans (fun x => { x with targetTimeouts := bump x.targetTimeouts })) := by
  simp [responseExpires, he, State.reached, hle, hst]

/-- The counter of R159 has no part in an answer. -/
theorem withAnswer_targetTimeouts (h : Nat) (e : InEntry) (st : Status) (d : List Byte) (f : Nat → Nat) :
    (s.updTrans (fun x => { x with targetTimeouts := f x.targetTimeouts })).withAnswer h e st d =
      (s.withAnswer h e st d).updTrans (fun x => { x with targetTimeouts := f x.targetTimeouts }) := by
  have hlock : ∀ j, (s.updTrans (fun x => { x with targetTimeouts := f x.targetTimeouts })).lock j = s.lock j := fun _ => rfl
  unfold State.withAnswer
  dsimp only
  rw [hlock]
  split <;> rfl

/-! ## Locks (R163) -/

/-- R163: a state with the lock of a slot expired. -/
def State.lockExpired (s : State) (i : Nat) : State :=
  raise .lockExpired (State.updTrans (s.setLock i {}) (fun x => { x with lockExpiries := bump x.lockExpiries }))

theorem lockExpires_eq : lockExpires i s =
    if (s.lock i).holder.isSome = true ∧ (s.lock i).releasing = false ∧ (s.lock i).expiry ≤ s.localTime then s.lockExpired i
    else s := by
  have hc : ((s.lock i).holder.isSome = true ∧ (!(s.lock i).releasing) = true ∧ s.reached (s.lock i).expiry = true) ↔
      (s.lock i).holder.isSome = true ∧ (s.lock i).releasing = false ∧ (s.lock i).expiry ≤ s.localTime := by
    simp [State.reached]
  unfold lockExpires
  exact if_congr hc rfl rfl

theorem settleDrains_of_none' (hd : ∀ j, (s.slot j).drain = none) (l : List Nat) : l.foldl settleDrain s = s := by
  induction l with
  | nil => rfl
  | cons j l ih => rw [List.foldl_cons, settleDrain_none _ _ (hd j), ih]

/-- R131: where one slot alone drains, and its drain ends, the drains are settled by that slot's. -/
theorem settleDrains_one (hi : i < 16) (hd : ∀ j, j ≠ i → (s.slot j).drain = none)
    (hend : ∀ j, ((settleDrain s i).slot j).drain = none) : settleDrains s = settleDrain s i := by
  have hfold : ∀ l : List Nat, i ∈ l → l.foldl settleDrain s = settleDrain s i := fun l => by
    induction l with
    | nil => exact fun h => absurd h List.not_mem_nil
    | cons j l ih =>
      intro hmem
      rw [List.foldl_cons]
      by_cases hj : j = i
      · rw [hj]
        exact settleDrains_of_none' hend l
      · rw [settleDrain_none _ _ (hd j hj)]
        exact ih ((List.mem_cons.1 hmem).resolve_left fun h => hj h.symm)
  exact hfold _ (List.mem_range.2 hi)

theorem settleDrain_complete {d : Drain} (hst : (s.slot i).state = .extracting) (hd : (s.slot i).drain = some d)
    (hc : (s.drainFlags i d).complete = true) : settleDrain s i = enterQuiesced i .drainComplete s := by
  simp only [settleDrain, hd, hst, if_true, hc]

/-- R131: the last of the drains completes. -/
theorem finish_drained {d : Drain} (hi : i < 16) (hr : s.routed) (hd : ∀ j, j ≠ i → (s.slot j).drain = none)
    (hst : (s.slot i).state = .extracting) (hdr : (s.slot i).drain = some d) (hc : (s.drainFlags i d).complete = true) :
    finish s = raise .slotQuiesced (s.setSlot i ((s.slot i).quiescedBy .drainComplete)) := by
  have hset : settleDrain s i = raise .slotQuiesced (s.setSlot i ((s.slot i).quiescedBy .drainComplete)) :=
    settleDrain_complete hst hdr hc
  rw [finish, rerouteAll_of_routed 33 hr, settleDrains_one hi hd, hset]
  rw [hset]
  exact drain_setSlot (r := (s.slot i).quiescedBy .drainComplete) hd rfl

/-! ## The statement -/

/-- Settles O55. -/
theorem repliesAndLocksEnd : Obligations.RepliesAndLocksEnd := by
  unfold Obligations.RepliesAndLocksEnd
  intro s
  dsimp only
  refine ⟨fun hs i h code data hup => ⟨fun e he hst hi => ?reply, fun hn => congrArg Host.Outcome.next ?discarded⟩,
    fun hs h e he hlt => congrArg Host.Outcome.next ?early, fun hs h e p he hle hst hp ht => ?due, fun i => ⟨fun hs => congrArg Host.Outcome.next ?expiry,
      fun d hr hd hst hdr hbp hin hott hw hho hrel hle => congrArg Host.Outcome.next ?drained⟩⟩
  case reply =>
    have hrun : exec (.moduleReply i h code data) s =
        .next (answerInbound h (replyAnswer e code data).status (replyAnswer e code data).data s) := by
      refine congrArg Host.Outcome.next ?_
      rw [fromModule_up _ _ _ hup, replyArrives_entry he hst hi, finish_answerInbound hs]
    rw [hrun, replyAnswer_eq]
    dsimp only
    refine ⟨fun p hp ht => ?_, fun p hp hr hfull => congrArg Host.Outcome.next (answerInbound_kept _ _ he hp hr hfull)⟩
    obtain ⟨t, hsend, heq⟩ := answerInbound_sent _ _ he hp ht
    exact ⟨t, congrArg Host.Outcome.next heq, hsend⟩
  case discarded =>
    rw [fromModule_up _ _ _ hup, replyArrives_none hn]
    exact finish_of_settled hs.1 hs.2
  case early =>
    rw [responseExpires_early he hlt]
    exact finish_of_settled hs.1 hs.2
  case due =>
    obtain ⟨u, hu⟩ : ∃ u, u = s.updTrans (fun x => { x with targetTimeouts := bump x.targetTimeouts }) := ⟨_, rfl⟩
    have hset : u.settled := by rw [hu]; exact hs
    obtain ⟨t, hsend, heq⟩ := answerInbound_sent (s := u) .targetTimeout [] (e := e) (h := h) (p := p) (by rw [hu]; exact he) hp
      (by rw [hu]; exact ht)
    refine ⟨t, congrArg Host.Outcome.next ?_, ?_⟩
    · rw [responseExpires_due he hle hst, ← hu, finish_answerInbound hset, heq]
    · rw [hu, withAnswer_targetTimeouts] at hsend
      exact hsend
  case expiry =>
    rw [lockExpires_eq]
    split
    · exact finish_of_settled hs.1 hs.2
    · exact finish_of_settled hs.1 hs.2
  case drained =>
    have hexp : lockExpires i s = s.lockExpired i := lockExpires_eq.trans (if_pos ⟨hho, hrel, hle⟩)
    have hlock : (s.lockExpired i).lock i = {} := tgetD_tset_same (α := Lock) {} s.trans.locks i.val {}
    rw [hexp, finish_drained (s := s.lockExpired i) i.isLt hr hd hst hdr ?_]
    · rfl
    · have h1 : s.trans.inbound.all (fun e => e.2.slot != i.val) = true := by simpa using fun a b h => hin (a, b) h
      have h2 : s.trans.ott.all (fun e => e.2.id != i.val) = true := by simpa using fun a b h => hott (a, b) h
      have hflags : (s.lockExpired i).drainFlags i d = ⟨true, true, true, true⟩ := by
        simp only [State.drainFlags, hlock, hbp]
        show (⟨_, s.trans.inbound.all (fun e => e.2.slot != i.val), _,
          s.trans.ott.all (fun e => e.2.id != i.val) && (s.slot i).waiting.isEmpty⟩ : Drain) = _
        rw [h1, h2, hw]
        rfl
      rw [hflags]
      rfl

end Sys2Proof.Machine
end

section
/-! SUPPORT. Completions from the cables, what waits for a completion queue, and the deadlines of the OTT (R149 to R154),
and the statement about them (O54). -/

namespace Sys2Proof.Machine

variable {s t : State}

/-! ## Settled states -/

theorem finish_settled (h : s.settled) : finish s = s := finishLeavesASettledState s h

theorem settled_updPort (hs : s.settled) (p : PortId) (f : Port → Port) : (s.updPort p f).settled := by
  cases p <;> exact hs

theorem settled_holdCompletion (hs : s.settled) (q : PortId) (c : Completion) : (holdCompletion q c s).settled := by
  cases q <;> exact hs

theorem holdCompletion_eq (q : PortId) (c : Completion) : holdCompletion q c s =
    { s.updPort q (fun x => { x with heldCompletions := x.heldCompletions ++ [⟨s.serial, c⟩] }) with serial := s.serial + 1 } := by
  cases q <;> rfl

theorem Answering.settled (h : Answering s t) (hs : s.settled) : t.settled :=
  ⟨h.routed hs.1, fun j => by rw [h.slot]; exact hs.2 j⟩

/-- R152, R156: an entry that is answered or backs off keeps its requester and awaits no route. -/
theorem settled_setOtt {k : Nat} {e e' : OttEntry} (hs : s.settled) (he : s.ottEntry k = some e) (hid : e'.id = e.id)
    (hw : e'.awaitsRoute = false) : (s.setOtt k e').settled := (Answering.setOtt he hid hw).settled hs

theorem settled_enterBackoff {k : Nat} {e : OttEntry} (hs : s.settled) (he : s.ottEntry k = some e) :
    (enterBackoff k e s).settled := by
  have h : (s.setOtt k { e with
      state := .backoff, retries := e.retries - 1, via := none, deadline := s.localTime + Config.backoffCycles }).settled :=
    settled_setOtt hs he rfl rfl
  exact h

/-! ## Overtaking (R150) -/

/-- R150: what grows no queue overtakes nothing. -/
theorem overtakes_of_ports (h : ∀ p, t.port p = s.port p) : s.overtakes t = false := by
  simp [State.overtakes, h]

/-- R150: one parcel more in a completion queue overtakes what waits for it. -/
theorem overtakes_pushCompletion (p : PortId) (c : Completion) :
    s.overtakes (s.updPort p (fun r => { r with qCompletion := r.qCompletion ++ [c] })) = s.completionWaiting p := by
  cases p <;> simp [State.overtakes, PortId.all, State.port_updPort]

/-! ## The OTT's answers (R152, R153) -/

theorem findOtt_spec {id tag k : Nat} {e : OttEntry} (h : s.findOtt id tag = some k) (he : s.ottEntry k = some e) :
    e.id = id ∧ e.tag = tag := by
  have hk := List.find?_some h
  simp only [he, Bool.and_eq_true, beq_iff_eq] at hk
  exact hk

/-- R156: a slot's entry with its answer. -/
def State.ottAnswered (s : State) (k : Nat) (e : OttEntry) (st : Status) (d : List Byte) : State :=
  { s.setOtt k { e with state := .answered, via := none, order := s.serial, answer := some ⟨st, d⟩ } with
    serial := s.serial + 1 }

theorem answerEntry_slot {k : Nat} {e : OttEntry} (st : Status) (d : List Byte) (he : s.ottEntry k = some e)
    (hid : e.id ≤ 15) : answerEntry k st d s = s.ottAnswered k e st (e.readData st d) := by
  have h1 : ¬(16 ≤ e.id ∧ e.id ≤ 19) := by omega
  have h2 : e.id ≠ 20 := by omega
  simp only [answerEntry, he, if_neg h1, if_neg h2]
  rfl

theorem completionHere_late {id tag : Nat} {st : Status} {d : List Byte} (h : s.findOtt id tag = none ∨
      ∃ k e, s.findOtt id tag = some k ∧ s.ottEntry k = some e ∧ e.state = .answered) :
    completionHere id tag st d s = s.updTrans (fun x => { x with lateCompletions := bump x.lateCompletions }) := by
  rcases h with h | ⟨k, e, hk, he, hst⟩
  · simp only [completionHere, h]
  · simp only [completionHere, hk, he, hst, if_true]

theorem completionHere_backoff {id tag k : Nat} {e : OttEntry} {st : Status} {d : List Byte} (hk : s.findOtt id tag = some k)
    (he : s.ottEntry k = some e) (hst : e.state ≠ .answered) (hb : st = .busy ∧ e.retry = true ∧ 0 < e.retries) :
    completionHere id tag st d s = enterBackoff k e s := by
  simp only [completionHere, hk, he, if_neg hst, if_pos hb]

theorem completionHere_answer {id tag k : Nat} {e : OttEntry} {st : Status} {d : List Byte} (hk : s.findOtt id tag = some k)
    (he : s.ottEntry k = some e) (hst : e.state ≠ .answered) (hb : ¬(st = .busy ∧ e.retry = true ∧ 0 < e.retries)) :
    completionHere id tag st d s = answerEntry k st d s := by
  simp only [completionHere, hk, he, if_neg hst, if_neg hb]

/-! ## A completion from a cable (R149 to R152) -/

theorem arriveCompletion_taken {q : PortId} {c : Completion} (hroom : (s.port q).heldCompletions.length < 8)
    (hx : examineCompletion q c s = some t) (hov : s.overtakes t = false) :
    arriveCompletion q c s = t.updPort q (fun x => x.freeBuffer .completion) := by
  simp only [arriveCompletion, if_neg (Nat.not_le.2 hroom), hx, hov, Bool.false_eq_true, if_false]

theorem arriveCompletion_held {q : PortId} {c : Completion} (hroom : (s.port q).heldCompletions.length < 8)
    (hx : ∀ t, examineCompletion q c s = some t → s.overtakes t = true) : arriveCompletion q c s = holdCompletion q c s := by
  unfold arriveCompletion
  rw [if_neg (Nat.not_le.2 hroom)]
  split
  · next t ht => rw [if_pos (hx t ht)]
  · rfl

theorem examineCompletion_here {q : PortId} {c : Completion} (hf : s.topo.frameNumber = some c.who.frame) :
    examineCompletion q c s = some (completionHere c.who.id c.who.tag (Status.received c.status) c.data s) := by
  simp only [examineCompletion, hf, if_true]

theorem examineCompletion_dropped {q : PortId} {c : Completion} (hf : s.topo.frameNumber ≠ some c.who.frame)
    (h : c.hop = 0 ∨ s.routeTo c.who.frame = none ∨ s.routeTo c.who.frame = some (.port q)) : examineCompletion q c s =
      some (s.updTrans (fun x => { x with completionsDropped := bump x.completionsDropped })) := by
  unfold examineCompletion
  rw [if_neg hf]
  rcases h with h | h | h
  · rw [if_pos h]
  · rw [h]
    split <;> rfl
  · rw [h]
    dsimp only
    split <;> simp

theorem examineCompletion_forward {p q : PortId} {c : Completion} (hf : s.topo.frameNumber ≠ some c.who.frame) (hh : c.hop ≠ 0)
    (hr : s.routeTo c.who.frame = some (.port p)) (hp : p ≠ q) : examineCompletion q c s =
      if s.accepts c.who.frame = true
      then some (s.updPort p (fun x => { x with qCompletion := x.qCompletion ++ [{ c with hop := c.hop - 1 }] })) else none := by
  simp only [examineCompletion, if_neg hf, if_neg hh, hr, if_neg hp, State.accepts, Bool.and_eq_true, decide_eq_true_iff]

/-! ## Room in a completion queue (R150) -/

theorem mem_heldFor {p q : PortId} {h : HeldCompletion} (hm : HeldAny.comp q h ∈ s.heldFor p) :
    h ∈ (s.port q).heldCompletions := by
  rcases List.mem_append.1 hm with hm | hm
  · obtain ⟨x, -, hx⟩ := List.mem_map.1 hm
    cases hx
  · obtain ⟨x, hx, he⟩ := List.mem_map.1 hm
    obtain ⟨y, -, hy⟩ := List.mem_flatMap.1 (List.mem_filter.1 hx).1
    obtain ⟨z, hz, rfl⟩ := List.mem_map.1 hy
    cases he
    exact hz

theorem releaseCompletion_held {q : PortId} {h : HeldCompletion} (hm : h ∈ (s.port q).heldCompletions) :
    releaseCompletion q h s = s.updPort q (fun x =>
      { x with heldCompletions := x.heldCompletions.filter (fun e => e ≠ h) }.freeBuffer .completion) := by
  have hf : ∀ l : List HeldCompletion, l.filter (fun x => x != h) = l.filter (fun x => decide (x ≠ h)) := fun l =>
    List.filter_congr fun x _ => by by_cases hx : x = h <;> simp [hx]
  rw [releaseCompletion, State.updPort_eq, State.updPort_eq]
  refine congrArg (s.setPort q) ?_
  rw [if_pos (List.contains_iff_mem.2 hm), hf]

/-- R150: where only one parcel is held for the queue, and its turn is, it is examined. -/
theorem takeCompletionRoom_held {p : PortId} {x : HeldAny} (hx : s.heldFor p = [x]) (hr : retryHeld x s = some t)
    (hturn : (s.port p).compTookHeld = false ∨ s.oldestInboundAnswer p = none) :
    takeCompletionRoom p s = markTaken p true s t := by
  unfold takeCompletionRoom
  dsimp only
  rw [hx]
  simp only [List.insertionSort_cons, List.insertionSort_nil, List.orderedInsert_nil, List.findSome?_cons, hr, Option.map_some]
  rcases hturn with h | h
  · rw [h]
    rfl
  · rw [h]
    cases (s.port p).compTookHeld <;> rfl

/-- R150: where no parcel is held for the queue, the oldest answer goes. -/
theorem takeCompletionRoom_own {p : PortId} {h : Nat} {e : InEntry} (hx : s.heldFor p = [])
    (ho : s.oldestInboundAnswer p = some (h, e)) (ht : takeInbound h s = some t) :
    takeCompletionRoom p s = markTaken p false s t := by
  unfold takeCompletionRoom
  dsimp only
  rw [hx, ho]
  simp only [Option.bind_some, ht, Option.map_some, List.insertionSort_nil, List.findSome?_nil, Option.map_none]
  cases (s.port p).compTookHeld <;> rfl

theorem oldestInboundAnswer_spec {p : PortId} {h : Nat} {e : InEntry} (ho : s.oldestInboundAnswer p = some (h, e)) :
    e.state = .answering ∧ e.source ≠ .here := by
  obtain ⟨hm, -⟩ := oldest_spec ho
  have hc := (List.mem_filter.1 hm).2
  simp only [Bool.and_eq_true, beq_iff_eq, bne_iff_ne] at hc
  exact hc.1

theorem Port.freeBuffer_qCompletion (r : Port) (c : ParcelClass) : (r.freeBuffer c).qCompletion = r.qCompletion := by
  obtain ⟨f, l, k, hb⟩ := r.freeBuffer_frame c
  rw [hb]

theorem markTaken_grown {p : PortId} {b : Bool} (h : (s.port p).qCompletion.length < (t.port p).qCompletion.length) :
    markTaken p b s t = t.updPort p (fun r => { r with compTookHeld := b }) := if_pos h

theorem markTaken_same {p : PortId} {b : Bool} (h : (t.port p).qCompletion.length ≤ (s.port p).qCompletion.length) :
    markTaken p b s t = t := if_neg (Nat.not_lt.2 h)

/-! ## Deadlines (R153) -/

theorem entryExpires_early {k : Nat} {e : OttEntry} (he : s.ottEntry k = some e) (hlt : s.localTime < e.deadline) :
    entryExpires k s = s := by
  simp [entryExpires, he, State.reached, Nat.not_le.2 hlt]

theorem backoffOver_early {k : Nat} {e : OttEntry} (he : s.ottEntry k = some e) (hlt : s.localTime < e.deadline) :
    backoffOver k s = s := by
  simp [backoffOver, he, State.reached, Nat.not_le.2 hlt]

theorem entryExpires_due {k : Nat} {e : OttEntry} (he : s.ottEntry k = some e) (hle : e.deadline ≤ s.localTime)
    (hst : e.state = .queued ∨ e.state = .sent) : entryExpires k s =
      if e.retry = true ∧ 0 < e.retries then enterBackoff k e s
      else answerEntry k .timeout [] (s.updTrans (fun t => { t with timeouts := bump t.timeouts })) := by
  simp only [entryExpires, he, State.reached, hle, hst, decide_true, and_self, if_true]

/-- R148: an entry that a port with room carries, where nothing waits for its queue. -/
theorem routeEntry_sent {k f : Nat} {e : OttEntry} {p : PortId} (he : s.ottEntry k = some e) (hd : e.dest ≠ nextCode)
    (hf : s.topo.frameNumber = some f) (hr : s.routeTo e.dest = some (.port p)) (hroom : s.requestRoom p = true)
    (hw : s.requestWaiting p = false) : routeEntry k s =
      pushRequest p (e.request f) (s.setOtt k { e with state := .sent, via := some (.port p) }) := by
  have hcode : s.frameCode = f := by rw [State.frameCode, hf]; rfl
  have hfate : s.requestFate none (e.request f) = .forward p (e.request f) := by
    simp [State.requestFate, hf, OttEntry.request, hd, hr, sendOut]
  simp only [routeEntry, he, hcode, hfate, hroom, hw, Bool.not_false, Bool.and_self, if_true]

theorem oldestHeldOut_setOtt (p : PortId) (k : Nat) (e : OttEntry) : (s.setOtt k e).oldestHeldOut p = s.oldestHeldOut p := rfl

/-- R150: an entry put in the table that waits for no port leaves what waits for a request queue alone. -/
theorem requestWaiting_setOtt {p : PortId} {k : Nat} {e : OttEntry} (hw : s.requestWaiting p = false)
    (hv : e.via ≠ some (.port p)) : (s.setOtt k e).requestWaiting p = false := by
  unfold State.requestWaiting at hw ⊢
  rw [Bool.or_eq_false_iff] at hw ⊢
  refine ⟨hw.1, ?_⟩
  have hno : s.oldestQueued p = none := by simpa using hw.2
  have hnil := List.filter_eq_nil_iff.1 (oldest_eq_none.1 hno)
  rw [show (s.setOtt k e).oldestQueued p = none from oldest_eq_none.2 (List.filter_eq_nil_iff.2 fun x hx => ?_)]
  · rfl
  · rcases mem_of_mem_tput hx with rfl | hx
    · simp [hv]
    · exact hnil x hx

/-! ## The statement -/

/-- Settles O54. -/
theorem completionsReachTheirEntries : Obligations.CompletionsReachTheirEntries := by
  unfold Obligations.CompletionsReachTheirEntries
  intro s hs
  dsimp only
  refine ⟨fun q c hup hroom => ?received, fun k e he hlt => ⟨congrArg Host.Outcome.next ?early, congrArg Host.Outcome.next ?earlyBackoff⟩,
    fun k e he hle => ⟨fun ⟨hst, hre, hpos⟩ => congrArg Host.Outcome.next ?retried, fun ⟨hst, hno, hid⟩ => congrArg Host.Outcome.next ?timeout,
      fun f p hst hd hf hr hp hlen hw => congrArg Host.Outcome.next ?again⟩,
    fun p h e a hx ho he ha hr hacc => congrArg Host.Outcome.next ?own,
    fun p q h hx hpq hf hh hr hacc hturn => congrArg Host.Outcome.next ?held,
    fun p q h hx hf hh hturn hmem => congrArg Host.Outcome.next ?dropped⟩
  case received =>
    have hrun : exec (.completionReceived q c) s = .next (finish (arriveCompletion q c s)) :=
      congrArg (fun u => Host.Outcome.next (finish u)) (byState_up s q .completion (.completion c) (arriveCompletion q c) hup)
    have htaken {t : State} (hx : examineCompletion q c s = some t) (hov : s.overtakes t = false) (ht : t.settled) :
        exec (.completionReceived q c) s = .next (t.updPort q (fun x => x.freeBuffer .completion)) := by
      rw [hrun, arriveCompletion_taken hroom hx hov, finish_settled (settled_updPort ht _ _)]
    refine ⟨fun hf => ?here, fun hf => ⟨fun p hh hr hp => ?forward, fun hd => ?drop⟩⟩
    case here =>
      have hhere {t : State} (ht : completionHere c.who.id c.who.tag (Status.received c.status) c.data s = t) :
          exec (.completionReceived q c) s = .next (t.updPort q (fun x => x.freeBuffer .completion)) := by
        subst ht
        exact htaken (examineCompletion_here hf) (overtakes_of_ports (answersOnly_completionHere _ _ _ _ s).port)
          ((answering_completionHere _ _ _ _ s).settled hs)
      refine ⟨fun k e hk he hid hst => ⟨fun hb => hhere (completionHere_backoff hk he hst hb), fun hb => hhere ?_⟩,
        fun hl => hhere (completionHere_late hl)⟩
      rw [completionHere_answer hk he hst hb, answerEntry_slot _ _ he (by rw [(findOtt_spec hk he).1]; exact hid)]
      rfl
    case forward =>
      have hx := examineCompletion_forward (q := q) hf hh hr hp
      cases hacc : s.accepts c.who.frame with
      | false =>
        have hno : ¬s.takes c.who.frame = true := fun ht => by
          rw [(State.takes_iff.1 ht).1] at hacc
          cases hacc
        rw [if_neg hno, hrun, arriveCompletion_held hroom fun t ht => ?_]
        · rw [finish_settled (settled_holdCompletion hs q c), holdCompletion_eq]
        · rw [hx, hacc] at ht
          cases ht
      | true =>
        rw [if_pos hacc] at hx
        have hov := overtakes_pushCompletion (s := s) p { c with hop := c.hop - 1 }
        cases hw : s.completionWaiting p with
        | false =>
          rw [if_pos (State.takes_iff.2 ⟨hacc, fun p' hp' => by rw [hr] at hp'; cases hp'; exact hw⟩)]
          exact htaken hx (hov.trans hw) (settled_updPort hs _ _)
        | true =>
          have hno : ¬s.takes c.who.frame = true := fun ht => by
            rw [(State.takes_iff.1 ht).2 p hr] at hw
            cases hw
          rw [if_neg hno, hrun, arriveCompletion_held hroom fun t ht => ?_]
          · rw [finish_settled (settled_holdCompletion hs q c), holdCompletion_eq]
          · rw [hx] at ht
            cases ht
            exact hov.trans hw
    case drop =>
      exact htaken (examineCompletion_dropped hf hd) (overtakes_of_ports fun p => by cases p <;> rfl) hs
  case early =>
    rw [entryExpires_early he hlt]
    exact finish_settled hs
  case earlyBackoff =>
    rw [backoffOver_early he hlt]
    exact finish_settled hs
  case retried =>
    rw [entryExpires_due he hle hst, if_pos ⟨hre, hpos⟩]
    exact finish_settled (settled_enterBackoff hs he)
  case timeout =>
    rw [entryExpires_due he hle hst, if_neg (by rintro ⟨h1, h2⟩; rcases hno with h | h <;> simp_all)]
    obtain ⟨u, hu⟩ : ∃ u, u = s.updTrans (fun t => { t with timeouts := bump t.timeouts }) := ⟨_, rfl⟩
    have hset : u.settled := by rw [hu]; exact hs
    rw [← hu, finish_settled ((answering_answerEntry _ _ _ _).settled hset),
      answerEntry_slot (s := u) (e := e) _ _ (by rw [hu]; exact he) hid, hu]
    rfl
  case again =>
    have hroom : s.requestRoom p = true := by simp [State.requestRoom, hp, hlen]
    have hrun : backoffOver k s = pushRequest p (e.request f) (s.setOtt k { e with
        state := .sent, via := some (.port p), deadline := s.deadline }) := by
      have hb : backoffOver k s = routeEntry k (s.setOtt k { e with state := .queued, via := none, deadline := s.deadline }) := by
        simp only [backoffOver, he, hst, State.reached, hle, decide_true, and_self, if_true]
      rw [hb, routeEntry_sent (s := s.setOtt k _) (e := { e with state := .queued, via := none, deadline := s.deadline })
        (f := f) (p := p) (tfind_tput_same _ _ _) hd hf hr hroom (requestWaiting_setOtt hw (by simp)), State.setOtt_setOtt]
      rfl
    have hset : (s.setOtt k { e with state := .sent, via := some (.port p), deadline := s.deadline }).settled :=
      settled_setOtt hs he rfl rfl
    rw [hrun, pushRequest, finish_settled (settled_updPort hset _ _)]
    rfl
  case own =>
    obtain ⟨hst, hsrc⟩ := oldestInboundAnswer_spec ho
    have hsend : sendCompletion false e.who a.status a.completionData s = some (s.updPort p (fun r =>
        { r with qCompletion := r.qCompletion ++ [⟨e.who, a.status.code, 31, a.completionData⟩] })) := by
      rw [State.accepts, hr, Bool.and_eq_true, decide_eq_true_iff] at hacc
      simp only [sendCompletion, hr, hacc, and_self, if_true, Bool.false_eq_true, if_false]
    obtain ⟨u, hu⟩ : ∃ u, u = s.updPort p (fun r =>
        { r with qCompletion := r.qCompletion ++ [⟨e.who, a.status.code, 31, a.completionData⟩] }) := ⟨_, rfl⟩
    have htake : takeInbound h s = some (u.delIn h) := by
      simp only [takeInbound, he, hst, ha, beq_eq_false_iff_ne.2 hsrc, hsend, Option.map_some, hu]
    have hport : (u.delIn h).port p = { s.port p with
        qCompletion := (s.port p).qCompletion ++ [⟨e.who, a.status.code, 31, a.completionData⟩] } := by
      rw [hu]; cases p <;> rfl
    have hset : (u.delIn h).settled := by rw [hu]; exact settled_updPort hs p _
    rw [queueTake, takeCompletionRoom_own hx ho htake, markTaken_grown (by rw [hport]; simp), finish_settled (settled_updPort hset _ _), hu]
    cases p <;> rfl
  case held =>
    have hexam := examineCompletion_forward (q := q) hf hh hr hpq
    rw [if_pos hacc] at hexam
    have hmem : h ∈ (s.port q).heldCompletions := mem_heldFor (p := p) (by rw [hx]; exact List.mem_singleton.2 rfl)
    obtain ⟨u, hu⟩ : ∃ u, u = s.updPort p (fun x => { x with qCompletion := x.qCompletion ++ [{ h.comp with hop := h.comp.hop - 1 }] }) := ⟨_, rfl⟩
    rw [← hu] at hexam ⊢
    have hupq : u.port q = s.port q := by rw [hu, State.port_updPort, if_neg hpq.symm]
    have hretry : retryHeld (.comp q h) s = some (u.updPort q (fun x =>
        { x with heldCompletions := x.heldCompletions.filter (fun e => e ≠ h) }.freeBuffer .completion)) := by
      rw [retryHeld, hexam, Option.map_some, releaseCompletion_held (by rw [hupq]; exact hmem)]
    have hrun := takeCompletionRoom_held hx hretry hturn
    rw [markTaken_grown (by rw [State.port_updPort, if_neg hpq, hu, State.port_updPort, if_pos rfl]; simp)] at hrun
    have hset : u.settled := by rw [hu]; exact settled_updPort hs _ _
    exact (congrArg finish hrun).trans (finish_settled (settled_updPort (settled_updPort hset _ _) _ _))
  case dropped =>
    obtain ⟨u, hu⟩ : ∃ u, u = s.updTrans (fun x => { x with completionsDropped := bump x.completionsDropped }) := ⟨_, rfl⟩
    have hexam := examineCompletion_dropped (q := q) hf (.inl hh)
    rw [← hu] at hexam ⊢
    have hup : ∀ p, u.port p = s.port p := fun p => by rw [hu]; cases p <;> rfl
    have hretry : retryHeld (.comp q h) s = some (u.updPort q (fun x =>
        { x with heldCompletions := x.heldCompletions.filter (fun e => e ≠ h) }.freeBuffer .completion)) := by
      rw [retryHeld, hexam, Option.map_some, releaseCompletion_held (by rw [hup]; exact hmem)]
    have hrun := takeCompletionRoom_held hx hretry hturn
    have hlen : ((u.updPort q (fun x => { x with heldCompletions := x.heldCompletions.filter (fun e => e ≠ h) }.freeBuffer
        .completion)).port p).qCompletion = (s.port p).qCompletion := by
      rw [State.port_updPort]
      split
      · rw [Port.freeBuffer_qCompletion, hup]
      · rw [hup]
    rw [markTaken_same (Nat.le_of_eq (congrArg List.length hlen))] at hrun
    have hset : u.settled := by rw [hu]; exact hs
    exact (congrArg finish hrun).trans (finish_settled (settled_updPort hset _ _))

end Sys2Proof.Machine
end

section
/-! SUPPORT. Requests from the cables and what waits for a request queue (R36, R37, R148 to R150, R157, R162), and the
statement about them (O53). -/

namespace Sys2Proof.Machine

variable {s t : State} {q : PortId} {r : Request}

/-! ## What becomes of a request (R148, R149) -/

theorem sendOut_on {p : PortId} (hp : p ≠ q) : sendOut (some q) p r = .forward p { r with hop := r.hop - 1 } := if_neg hp

theorem sendOut_forward {o p p' : PortId} {x : Request} (h : sendOut (some o) p' r = .forward p x) :
    p ≠ o ∧ x = { r with hop := r.hop - 1 } := by
  by_cases hp : p' = o
  · simp [sendOut, hp] at h
  · rw [sendOut_on hp] at h
    obtain ⟨rfl, rfl⟩ := Fate.forward.inj h
    exact ⟨hp, rfl⟩

theorem nextOnward_forward {o p : PortId} {x : Request} (h : s.nextOnward (some o) r = .forward p x) :
    p ≠ o ∧ x = { r with hop := r.hop - 1 } := by
  unfold State.nextOnward at h
  split at h
  · exact sendOut_forward h
  · cases h

/-- R149: a request from a cable that goes on has one hop less, and never goes back. -/
theorem requestFate_forward {o p : PortId} {x : Request} (h : s.requestFate (some o) r = .forward p x) :
    p ≠ o ∧ x = { r with hop := r.hop - 1 } := by
  unfold State.requestFate State.nextFate at h
  split at h
  · cases h
  split at h
  · cases h
  split at h
  · split at h
    · cases h
    split at h
    · exact nextOnward_forward h
    split at h
    · cases h
    split at h
    · cases h
    · exact nextOnward_forward h
  · split at h
    · cases h
    · exact sendOut_forward h
    · cases h

theorem requestFate_spent (hh : r.hop = 0) : s.requestFate (some q) r = .answer .unreachable := by
  simp [State.requestFate, hh]

theorem requestFate_next (hh : r.hop ≠ 0) (hd : r.dest = nextCode) : s.requestFate (some q) r = s.nextFate (some q) r := by
  simp [State.requestFate, hh, hd]

theorem requestFate_dest (hh : r.hop ≠ 0) (hd : r.dest ≠ nextCode) : s.requestFate (some q) r =
    match s.routeTo r.dest with
    | some .here => .serve
    | some (.port p) => sendOut (some q) p r
    | none => .answer .unreachable := by
  simp only [State.requestFate, Option.isNone_some, Bool.false_and, Bool.false_eq_true, if_false, Option.isSome_some,
    Bool.true_and, beq_iff_eq, if_neg hh, if_neg hd] <;> rfl

/-- R37: a READ to NEXT in form, in a numbered frame, goes on away from the root. -/
theorem nextFate_read {src : Option PortId} {f : Nat} (ht : r.target = controllerTarget) (ho : r.op = .read)
    (ha : r.address + r.length ≤ 32) (hf : s.topo.frameNumber = some f) : s.nextFate src r = s.nextOnward src r := by
  simp [State.nextFate, nextCheck, ht, ho, ha, hf]

theorem nextPort_none (b : Nat) (h0 : s.isChild .p0 = false) (h1 : s.isChild .p1 = false) : s.nextPort b = none := by
  unfold State.nextPort
  simp only [h0, h1, Bool.and_self, Bool.or_false, Bool.false_eq_true, if_false]
  split
  · split
    · next p _ => cases p <;> simp [h0, h1]
    · rfl
  · rfl

theorem nextPort_child {p : PortId} {b : Nat} (hp : s.isChild p = true)
    (h : (s.isChild p.other = false ∧ s.topo.root = false) ∨ (s.topo.root = true ∧ b = if p = .p0 then 0 else 1)) :
    s.nextPort b = some p := by
  unfold State.nextPort
  rcases h with ⟨ho, hr⟩ | ⟨hr, rfl⟩
  · cases p
    · have ho' : s.isChild .p1 = false := ho
      simp [hr, hp, ho']
    · have ho' : s.isChild .p0 = false := ho
      simp [hr, hp, ho']
  · cases p <;> simp [hr, hp, branchPort]

/-! ## A request from a cable (R149, R150) -/

theorem holdRequest_eq : holdRequest q r s =
    { s.updPort q (fun x => { x with heldRequests := x.heldRequests ++ [⟨s.serial, r⟩] }) with serial := s.serial + 1 } := by
  cases q <;> rfl

theorem settled_holdRequest (hs : s.settled) : (holdRequest q r s).settled := by
  cases q <;> exact hs

/-- R150: one parcel more in a request queue overtakes what waits for it. -/
theorem overtakes_pushRequest (p : PortId) (x : Request) : s.overtakes (pushRequest p x s) = s.requestWaiting p := by
  cases p <;> simp [State.overtakes, PortId.all, State.port_updPort, pushRequest]

/-- A request that arrives in UP where a buffer is free. -/
structure Arrives (q : PortId) (s : State) : Prop where
  settled : s.settled
  up : (s.port q).state = .up
  room : (s.port q).heldRequests.length < 8

theorem Arrives.run (h : Arrives q s) : exec (.requestReceived q r) s = .next (finish (arriveRequest q r s)) :=
  congrArg (fun u => Host.Outcome.next (finish u)) (byState_up s q .request (.request r) (arriveRequest q r) h.up)

/-- R14, R150: a request examined is taken, and its buffer frees. -/
theorem Arrives.taken (h : Arrives q s) (hx : examineRequest q r s = some t) (hov : s.overtakes t = false) (ht : t.settled) :
    exec (.requestReceived q r) s = .next (t.updPort q (fun x => x.freeBuffer .request)) := by
  rw [h.run, arriveRequest, if_neg (Nat.not_le.2 h.room), hx]
  dsimp only
  rw [hov, if_neg Bool.false_ne_true, finish_settled (settled_updPort ht _ _)]

/-- R150: a request that cannot be taken yet, or that would overtake another, keeps its buffer. -/
theorem Arrives.held (h : Arrives q s) (hx : ∀ t, examineRequest q r s = some t → s.overtakes t = true) :
    exec (.requestReceived q r) s = .next (holdRequest q r s) := by
  have hhold : arriveRequest q r s = holdRequest q r s := by
    unfold arriveRequest
    rw [if_neg (Nat.not_le.2 h.room)]
    split
    · next t ht => rw [if_pos (hx t ht)]
    · rfl
  rw [h.run, hhold, finish_settled (settled_holdRequest h.settled)]

/-- R149, R150: a request that goes on. -/
theorem Arrives.forwarded {p : PortId} {x : Request} (h : Arrives q s) (hf : s.requestFate (some q) r = .forward p x) :
    exec (.requestReceived q r) s = .next (if s.isUp p = true ∧ (s.port p).qRequest.length < 16 ∧ s.requestWaiting p = false
      then (pushRequest p x s).updPort q (fun x => x.freeBuffer .request) else holdRequest q r s) := by
  have hexam : examineRequest q r s = if s.requestRoom p then some (pushRequest p x s) else none := by
    simp only [examineRequest, hf]
  have hroom : s.requestRoom p = true ↔ s.isUp p = true ∧ (s.port p).qRequest.length < 16 := by
    simp [State.requestRoom]
  have hov := overtakes_pushRequest (s := s) p x
  split
  · next hc =>
    obtain ⟨hu, hl, hw⟩ := hc
    rw [if_pos (hroom.2 ⟨hu, hl⟩)] at hexam
    exact h.taken hexam (hov.trans hw) (settled_updPort h.settled _ _)
  · next hc =>
    refine h.held fun t ht => ?_
    rw [hexam] at ht
    split at ht
    · next hr =>
      obtain ⟨hu, hl⟩ := hroom.1 hr
      cases ht
      rw [hov]
      exact Bool.of_not_eq_false fun hw => hc ⟨hu, hl, hw⟩
    · cases ht

/-- A change of the Transaction Unit and of the management record that leaves the table as it is. -/
def TransOnly (s t : State) : Prop := t = { s with trans := t.trans, mgmt := t.mgmt } ∧ t.trans.ott = s.trans.ott

theorem TransOnly.settled (h : TransOnly s t) (hs : s.settled) : t.settled := by
  obtain ⟨heq, hott⟩ := h
  refine ⟨fun x hx => hs.1 x (hott ▸ hx), fun i => ?_⟩
  rw [heq]
  exact hs.2 i

theorem TransOnly.port (h : TransOnly s t) (p : PortId) : t.port p = s.port p := by
  rw [h.1]; cases p <;> rfl

theorem TransOnly.routeTo (h : TransOnly s t) (f : Nat) : t.routeTo f = s.routeTo f := by
  rw [h.1]; rfl

theorem TransOnly.accepts (h : TransOnly s t) (f : Nat) : t.accepts f = s.accepts f :=
  accepts_congr f (h.routeTo f) (fun p => by rw [State.isUp, State.isUp, h.port]) (fun p => by rw [h.port])

/-- R150, R151: a completion that goes at once overtakes nothing; one behind others does. -/
theorem overtakes_sendCompletion {s1 : State} {who : Requester} {st : Status} {d : List Byte} (h1 : TransOnly s s1)
    (h : sendCompletion false who st d s1 = some t) : s.overtakes t = !s.takes who.frame := by
  have hacc : s.accepts who.frame = true := by
    rw [← h1.accepts, ← sendCompletion_isSome (s := s1) who st d, h]
    rfl
  have hstill (hp : ∀ p, t.port p = s1.port p) (hr : ∀ p, s.routeTo who.frame ≠ some (.port p)) :
      s.overtakes t = !s.takes who.frame := by
    rw [overtakes_of_ports fun p => (hp p).trans (h1.port p),
      State.takes_iff.2 ⟨hacc, fun p hp => absurd hp (hr p)⟩]
    rfl
  rcases sendCompletion_cases h with ⟨hr, rfl⟩ | ⟨p, hr, -, rfl⟩ | ⟨hr, rfl⟩
  · exact hstill (answersOnly_completionHere _ _ _ _ s1).port fun p hp => by
      rw [h1.routeTo] at hr; rw [hr] at hp; cases hp
  · rw [h1.routeTo] at hr
    have hov : s.overtakes (s1.updPort p (fun r => { r with qCompletion := r.qCompletion ++ [⟨who, st.code, 31, d⟩] })) =
        s.completionWaiting p := by
      rw [← overtakes_pushCompletion p ⟨who, st.code, 31, d⟩]
      unfold State.overtakes
      simp only [State.port_updPort, h1.port]
    rw [hov, State.takes, hacc, hr, Bool.true_and, Bool.not_not]
  · exact hstill (fun p => by cases p <;> rfl) fun p hp => by rw [h1.routeTo] at hr; rw [hr] at hp; cases hp

/-- R150, R151: a request whose completion goes at once, or that is held until it can go. -/
theorem Arrives.completed {st : Status} {d : List Byte} {s1 : State} (h : Arrives q s) (h1 : TransOnly s s1)
    (hx : examineRequest q r s = sendCompletion false r.who st d s1) :
    if s.takes r.who.frame = true
    then ∃ t, exec (.requestReceived q r) s = .next (t.updPort q (fun x => x.freeBuffer .request)) ∧
      sendCompletion false r.who st d s1 = some t
    else exec (.requestReceived q r) s = .next (holdRequest q r s) := by
  split
  · next ht =>
    have hacc : s1.accepts r.who.frame = true := (h1.accepts _).trans (State.takes_iff.1 ht).1
    obtain ⟨t, hsend⟩ := Option.isSome_iff_exists.1 ((sendCompletion_isSome (s := s1) r.who st d).trans hacc)
    refine ⟨t, h.taken (hx.trans hsend) ?_ ((answering_sendCompletion hsend).settled (h1.settled h.settled)), hsend⟩
    rw [overtakes_sendCompletion h1 hsend, ht]
    rfl
  · next ht =>
    refine h.held fun t hsome => ?_
    rw [hx] at hsome
    rw [overtakes_sendCompletion h1 hsome, Bool.not_eq_true', Bool.eq_false_iff]
    exact ht

/-- R150, R151: a request that is answered without data. -/
theorem Arrives.answered {st : Status} {s1 : State} (h : Arrives q s) (h1 : TransOnly s s1)
    (hx : examineRequest q r s = sendCompletion false r.who st [] s1) :
    if s.takes r.who.frame = true
    then ∃ t, exec (.requestReceived q r) s = .next (t.updPort q (fun x => x.freeBuffer .request)) ∧ Answered r.who st s1 t
    else exec (.requestReceived q r) s = .next (holdRequest q r s) := h.completed h1 hx

theorem Arrives.refused {st : Status} (h : Arrives q s) (hf : s.requestFate (some q) r = .answer st) :
    if s.takes r.who.frame = true
    then ∃ t, exec (.requestReceived q r) s = .next (t.updPort q (fun x => x.freeBuffer .request)) ∧
      Answered r.who st (countAnswer st s) t
    else exec (.requestReceived q r) s = .next (holdRequest q r s) := by
  refine h.answered ?_ (by simp only [examineRequest, hf])
  unfold countAnswer
  split
  · exact ⟨rfl, rfl⟩
  · exact ⟨rfl, rfl⟩

/-! ## Requests for a slot (R157, R162) -/

/-- The four operations that a slot's module serves. -/
def ForSlot (op : Op) : Prop := op = .read ∨ op = .write ∨ op = .readLock ∨ op = .writeUnlock

theorem examineRequest_slot (hf : s.requestFate (some q) r = .serve) (ht : r.target ≤ 15) (ho : ForSlot r.op) :
    examineRequest q r s = serveSlot (.port q) r s := by
  have hc : r.target ≠ controllerTarget := fun h => by rw [h] at ht; exact absurd ht (by decide)
  have hd : Op.defined r.op = true := by rcases ho with h | h | h | h <;> rw [h] <;> rfl
  have hv : validTarget r.target = true := by simp [validTarget, ht]
  simp only [examineRequest, hf, targetSide, if_neg hc, hd, hv, Bool.not_true, Bool.or_self, Bool.false_eq_true, if_false]

theorem serveSlot_gone (ho : ForSlot r.op) (hst : (s.slot r.target).state ≠ .admitted) : serveSlot (.port q) r s =
    sendCompletion false r.who .noTarget [] (s.updTrans (fun x => { x with noTargetAnswers := bump x.noTargetAnswers })) := by
  have ha : r.op ≠ .assign := by rcases ho with h | h | h | h <;> rw [h] <;> decide
  simp only [serveSlot, if_neg ha, if_pos hst]
  rfl

theorem serveSlot_full (ho : ForSlot r.op) (hst : (s.slot r.target).state = .admitted)
    (hfull : tfree s.trans.inbound 16 = none ∨ 4 ≤ s.inboundCount r.target) : serveSlot (.port q) r s =
    sendCompletion false r.who .busy [] (s.updTrans (fun x => { x with busyAnswers := bump x.busyAnswers })) := by
  have ha : r.op ≠ .assign := by rcases ho with h | h | h | h <;> rw [h] <;> decide
  simp only [serveSlot, if_neg ha, hst, ne_eq, not_true_eq_false, if_false]
  cases hfree : tfree s.trans.inbound 16 with
  | none => rfl
  | some h =>
    rw [hfree] at hfull
    dsimp only
    rw [if_pos (hfull.resolve_left (by simp))]
    rfl

/-- R162: a request for an ADMITTED slot whose list has room fares as the slot's lock allows. -/
theorem serveSlot_room {h : Nat} (ho : ForSlot r.op) (hst : (s.slot r.target).state = .admitted)
    (hfree : tfree s.trans.inbound 16 = some h) (hroom : s.inboundCount r.target < 4) : serveSlot (.port q) r s =
    match (s.lock r.target).judge r.who r.op with
    | .busy => sendCompletion false r.who .busy [] (s.updTrans (fun x => { x with
        busyAnswers := bump x.busyAnswers, lockConflicts := bump x.lockConflicts }))
    | .lost => sendCompletion false r.who .lockLost [] (s.updTrans (fun x => { x with lockLost := bump x.lockLost }))
    | .joins => some (joinInbound (.port q) r h s) := by
  have ha : r.op ≠ .assign := by rcases ho with h | h | h | h <;> rw [h] <;> decide
  simp only [serveSlot, if_neg ha, hst, ne_eq, not_true_eq_false, if_false, hfree, if_neg (Nat.not_le.2 hroom)]
  cases (s.lock r.target).judge r.who r.op <;> rfl

variable {l : Lock} {who : Requester} {op : Op}

theorem judge_lost (ho : op = .writeUnlock) (h : ¬(l.holder = some (who.frame, who.id) ∧ l.releasing = false)) :
    l.judge who op = .lost := by
  subst ho
  unfold Lock.judge
  split
  · rfl
  · next x hx =>
    by_cases hw : x = (who.frame, who.id)
    · have hr : l.releasing = true := Bool.of_not_eq_false fun hr => h ⟨by rw [hx, hw], hr⟩
      simp [hw, hr]
    · simp [hw]

theorem judge_busy (ho : op ≠ .writeUnlock) (hh : l.holder.isSome = true)
    (h : ¬l.holder = some (who.frame, who.id) ∨ (l.releasing = true ∧ op = .readLock)) : l.judge who op = .busy := by
  obtain ⟨x, hx⟩ := Option.isSome_iff_exists.1 hh
  unfold Lock.judge
  rw [hx]
  dsimp only
  by_cases hw : x = (who.frame, who.id)
  · obtain ⟨hr, hl⟩ := h.resolve_left fun hn => hn (by rw [hx, hw])
    simp [hw, hr, hl]
  · simp [hw, ho]

theorem judge_joins (h : (l.holder = none ∧ op ≠ .writeUnlock) ∨ (l.holder = some (who.frame, who.id) ∧ l.releasing = false) ∨
      (l.holder = some (who.frame, who.id) ∧ (op = .read ∨ op = .write))) : l.judge who op = .joins := by
  unfold Lock.judge
  rcases h with ⟨hn, ho⟩ | ⟨hh, hr⟩ | ⟨hh, ho⟩
  · rw [hn]
    exact if_neg ho
  · simp [hh, hr]
  · rcases ho with rfl | rfl <;> simp [hh]

theorem joinInbound_inEntry (h k : Nat) : (joinInbound (.port q) r h s).inEntry k = if k = h then
      some { who := r.who, slot := r.target, op := r.op, address := r.address, length := r.length
             data := r.data, source := .port q, state := .waiting, answer := none, order := s.serial
             deadline := s.localTime + s.trans.settings.responseLimit * Config.cyclesPerUs }
    else s.inEntry k := by
  show tfind (tput s.trans.inbound h _) k = _
  split
  · next hk => rw [hk]; exact tfind_tput_same _ _ _
  · next hk => exact tfind_tput_other _ _ hk

theorem joinInbound_lock (h i : Nat) : (joinInbound (.port q) r h s).lock i = if i = r.target then
      (s.lock r.target).join r.who r.op h (s.localTime + s.trans.settings.lockHold * Config.cyclesPerUs)
    else s.lock i := by
  show tgetD {} (tset {} s.trans.locks r.target _) i = _
  split
  · next hi => rw [hi]; exact tgetD_tset_same (α := Lock) {} s.trans.locks r.target _
  · next hi => exact tgetD_tset_other (α := Lock) {} s.trans.locks _ hi

theorem settled_joinInbound (hs : s.settled) (h : Nat) : (joinInbound (.port q) r h s).settled := hs

/-- R157: a request that joins the Inbound Request List. -/
theorem Arrives.joined {h : Nat} (ha : Arrives q s) (hx : examineRequest q r s = some (joinInbound (.port q) r h s)) :
    exec (.requestReceived q r) s = .next ((joinInbound (.port q) r h s).updPort q (fun x => x.freeBuffer .request)) :=
  ha.taken hx (overtakes_of_ports fun p => by cases p <;> rfl) (settled_joinInbound ha.settled h)

/-! ## Room in a request queue (R150) -/

theorem earliest_mem {α : Type} {f : α → Nat} {l : List α} {x : α} (h : earliest f l = some x) : x ∈ l := by
  induction l generalizing x with
  | nil => cases h
  | cons a l ih =>
    unfold earliest at h
    split at h
    · cases h; exact List.mem_cons_self
    · next b hb =>
      split at h
      · cases h; exact List.mem_cons_of_mem _ (ih hb)
      · cases h; exact List.mem_cons_self

/-- R150: the oldest held request for a port stands in its port's buffers and goes out of that port. -/
theorem oldestHeldOut_spec {p o : PortId} {h : HeldRequest} (hx : s.oldestHeldOut p = some (o, h)) :
    h ∈ (s.port o).heldRequests ∧ p ≠ o ∧
      s.requestFate (some o) h.req = .forward p { h.req with hop := h.req.hop - 1 } := by
  obtain ⟨hm, hg⟩ := List.mem_filter.1 (earliest_mem hx)
  refine ⟨?_, ?_⟩
  · obtain ⟨y, -, hy⟩ := List.mem_flatMap.1 hm
    obtain ⟨z, hz, he⟩ := List.mem_map.1 hy
    cases he
    exact hz
  · unfold State.goesOut at hg
    split at hg
    · next p' x hf =>
      obtain rfl : p' = p := beq_iff_eq.1 hg
      obtain ⟨hp, rfl⟩ := requestFate_forward hf
      exact ⟨hp, hf⟩
    · cases hg

theorem releaseRequest_held {h : HeldRequest} (hm : h ∈ (s.port q).heldRequests) :
    releaseRequest (q, h) s = s.updPort q (fun x =>
      { x with heldRequests := x.heldRequests.filter (fun e => e ≠ h) }.freeBuffer .request) := by
  have hf : ∀ l : List HeldRequest, l.filter (fun x => x != h) = l.filter (fun x => decide (x ≠ h)) := fun l =>
    List.filter_congr fun x _ => by by_cases hx : x = h <;> simp [hx]
  rw [releaseRequest, State.updPort_eq, State.updPort_eq]
  refine congrArg (s.setPort q) ?_
  rw [if_pos (List.contains_iff_mem.2 hm), hf]

theorem takeRequestRoom_queued {p : PortId} {k : Nat} {e : OttEntry} (hroom : s.requestRoom p = true)
    (hh : s.oldestHeldOut p = none) (hq : s.oldestQueued p = some (k, e)) : takeRequestRoom p s =
      (sendQueued p k e s).updPort p (fun r => { r with reqTookHeld := false }) := by
  simp only [takeRequestRoom, hroom, Bool.not_true, Bool.false_eq_true, if_false, hh, hq]

theorem takeRequestRoom_held {p : PortId} {x : HeldReq} (hroom : s.requestRoom p = true) (hh : s.oldestHeldOut p = some x)
    (hr : retryRequest x s = some t) (hturn : (s.port p).reqTookHeld = false ∨ s.oldestQueued p = none) :
    takeRequestRoom p s = t.updPort p (fun r => { r with reqTookHeld := true }) := by
  cases hq : s.oldestQueued p with
  | none =>
    simp only [takeRequestRoom, hroom, Bool.not_true, Bool.false_eq_true, if_false, hh, hq, hr, Option.map_some, Option.getD_some]
  | some y =>
    rw [hq] at hturn
    simp only [takeRequestRoom, hroom, Bool.not_true, Bool.false_eq_true, if_false, hh, hq, hr, Option.map_some,
      Option.getD_some, hturn.resolve_right (by simp)]

/-! ## The statement -/

/-- Settles O53. -/
theorem requestsGoOnOrAreServed : Obligations.RequestsGoOnOrAreServed := by
  unfold Obligations.RequestsGoOnOrAreServed
  intro q r s hs
  dsimp only
  rw [← holdRequest_eq]
  refine ⟨fun ⟨hup, hroom⟩ => ?arrives, fun p hup hlen => ?room⟩
  case arrives =>
    have ha : Arrives q s := ⟨hs, hup, hroom⟩
    refine ⟨fun hh => ha.refused (requestFate_spent hh), fun ⟨hh, hd⟩ => ?next, fun ⟨hh, hd⟩ => ?dest⟩
    case next =>
      have hfate := requestFate_next (s := s) (q := q) hh hd
      have hrefused {st : Status} (h : nextCheck r s = some st) : s.requestFate (some q) r = .answer st := by
        rw [hfate, State.nextFate, h]
      refine ⟨fun ⟨ht, ho⟩ => ha.refused (hrefused (by simp [nextCheck, ht, ho])),
        fun ht => ha.refused (hrefused (by simp [nextCheck, ht])), fun f ⟨ht, ho, hlen, hf⟩ => ?_⟩
      have hon := hfate.trans (nextFate_read ht ho hlen hf)
      refine ⟨fun ⟨h0, h1⟩ => ha.refused (st := .noFrame) ?_, fun p ⟨hp, hq, hbranch⟩ => ha.forwarded ?_⟩
      · rw [hon, State.nextOnward, nextPort_none _ h0 h1]
      · rw [hon, State.nextOnward, nextPort_child hp hbranch]
        exact sendOut_on hq
    case dest =>
      have hfate := requestFate_dest (s := s) (q := q) hh hd
      refine ⟨fun p hr hp => ha.forwarded ?_, fun hr => ha.refused (st := .unreachable) ?_, fun hr ht ho => ?slot⟩
      · rw [hfate, hr]
        exact sendOut_on hp
      · rcases hr with hr | hr
        · rw [hfate, hr]
        · rw [hfate, hr]
          exact if_pos rfl
      case slot =>
        have hserve : s.requestFate (some q) r = .serve := by rw [hfate, hr]
        have hexam := examineRequest_slot hserve ht ho
        refine ⟨fun hst => ha.answered ⟨rfl, rfl⟩ (hexam.trans (serveSlot_gone ho hst)),
          fun ⟨hst, hfull⟩ => ha.answered ⟨rfl, rfl⟩ (hexam.trans (serveSlot_full ho hst hfull)),
          fun h ⟨hst, hfree, hcount⟩ => ?_⟩
        have hjudge := hexam.trans (serveSlot_room ho hst hfree hcount)
        refine ⟨fun ⟨hop, hl⟩ => ha.answered ⟨rfl, rfl⟩ (hjudge.trans (by rw [judge_lost hop hl])),
          fun ⟨hop, hh, hl⟩ => ha.answered ⟨rfl, rfl⟩ (hjudge.trans (by rw [judge_busy hop hh hl])), fun hl => ?_⟩
        rw [judge_joins hl] at hjudge
        obtain ⟨u, hu⟩ : ∃ u, u = (joinInbound (.port q) r h s).updPort q (fun x => x.freeBuffer .request) := ⟨_, rfl⟩
        have hin (k : Nat) : u.inEntry k = (joinInbound (.port q) r h s).inEntry k := by rw [hu]; cases q <;> rfl
        have hlock (i : Nat) : u.lock i = (joinInbound (.port q) r h s).lock i := by rw [hu]; cases q <;> rfl
        refine ⟨u, by rw [hu]; exact ha.joined hjudge, ?_, fun j hj => ?_, ?_, fun j hj => ?_, ?_, ?_⟩
        · rw [hin, joinInbound_inEntry, if_pos rfl]
        · rw [hin, joinInbound_inEntry, if_neg hj]
        · rw [hlock, joinInbound_lock, if_pos rfl]
          rfl
        · rw [hlock, joinInbound_lock, if_neg hj]
        · rw [hu]; cases q <;> rfl
        · rw [hu]; cases q <;> rfl
  case room =>
    have hroom : s.requestRoom p = true := by simp [State.requestRoom, hup, hlen]
    refine ⟨fun k e hh hq => ⟨fun x hx hst hv => ?_, congrArg Host.Outcome.next ?_⟩,
      fun o h hh hturn => congrArg Host.Outcome.next ?_⟩
    · exact (oldest_spec hq).2 x (List.mem_filter.2 ⟨hx, by simp [hst, hv]⟩)
    · have hset : (s.setOtt k { e with state := .sent }).settled := by
        refine ⟨fun x hx => ?_, hs.2⟩
        rcases mem_of_mem_tput hx with rfl | hx
        · rfl
        · exact hs.1 x hx
      rw [queueTake, takeRequestRoom_queued hroom hh hq, sendQueued, pushRequest,
        finish_settled (settled_updPort (settled_updPort hset _ _) _ _)]
      cases p <;> rfl
    · obtain ⟨hmem, hpo, hfate⟩ := oldestHeldOut_spec hh
      obtain ⟨u, hu⟩ : ∃ u, u = s.updPort p (fun x => { x with
          qRequest := x.qRequest ++ [{ h.req with hop := h.req.hop - 1 }] }) := ⟨_, rfl⟩
      have hexam : examineRequest o h.req s = some u := by
        simp only [examineRequest, hfate, hroom, if_true]
        rw [hu, pushRequest]
      have hup : u.port o = s.port o := by rw [hu, State.port_updPort, if_neg hpo.symm]
      have hretry : retryRequest (o, h) s = some (u.updPort o (fun x =>
          { x with heldRequests := x.heldRequests.filter (fun e => e ≠ h) }.freeBuffer .request)) := by
        rw [retryRequest, hexam, Option.map_some, releaseRequest_held (by rw [hup]; exact hmem)]
      have hset : u.settled := by rw [hu]; exact settled_updPort hs _ _
      rw [queueTake, takeRequestRoom_held hroom hh hretry hturn, ← hu,
        finish_settled (settled_updPort (settled_updPort hset _ _) _ _)]

end Sys2Proof.Machine
end

section
/-! SUPPORT. Requests that take an entry of the Outstanding Transaction Table (R141 to R143, R148): the arbiter where
none contends, the checks, and the entry that is taken. -/

namespace Sys2Proof.Machine

variable {s t : State}

/-! ## A free entry -/

theorem tfind_eq_none_of_tfree {α : Type} {l : List (Nat × α)} {n k : Nat} (h : tfree l n = some k) :
    k < n ∧ tfind l k = none := by
  refine ⟨List.mem_range.1 (List.mem_of_find?_eq_some h), ?_⟩
  have hk := List.find?_some h
  exact Option.isNone_iff_eq_none.1 hk

/-- A table of fewer entries than indices has a free one. -/
theorem tfree_of_length_lt {α : Type} {l : List (Nat × α)} {n : Nat} (h : l.length < n) : ∃ k, tfree l n = some k := by
  by_contra hno
  have hnone : tfree l n = none := Option.eq_none_iff_forall_ne_some.2 fun k hk => hno ⟨k, hk⟩
  have hsub : List.range n ⊆ l.map (·.1) := fun k hk => by
    have hfind := List.find?_eq_none.1 hnone k hk
    obtain ⟨v, hv⟩ := Option.ne_none_iff_exists'.1 (by simpa using hfind)
    exact List.mem_map.2 ⟨(k, v), mem_of_tfind hv, rfl⟩
  have hlen := (List.subperm_of_subset List.nodup_range hsub).length_le
  rw [List.length_range, List.length_map] at hlen
  omega

/-- R141: where the table has room for every requester that may contend, one that waits has an entry. -/
theorem grant_of_room {id : Nat} (hw : s.waitsForEntry id = true) (hlen : s.trans.ott.length ≤ 11) (hg : s.trans.granted = []) :
    ∃ k, k < 32 ∧ s.ottEntry k = none ∧ s.grant id = some k := by
  obtain ⟨k, hk⟩ := tfree_of_length_lt (l := s.trans.ott) (n := 32) (by omega)
  obtain ⟨hlt, hnone⟩ := tfind_eq_none_of_tfree hk
  refine ⟨k, hlt, hnone, ?_⟩
  have hcontend : s.contending.length ≤ 21 :=
    Nat.le_trans (List.length_filter_le _ _) (Nat.le_trans (List.length_filter_le _ _) (Nat.le_of_eq List.length_range))
  have hturn : s.hasTurn id = true := by
    have hroom : s.claimed + s.contending.length ≤ 32 := by rw [State.claimed, hg, List.length_nil]; omega
    simp [State.hasTurn, hroom]
  rw [State.grant, regrant_of_none hg, hw, hturn]
  exact hk

/-! ## An entry taken -/

/-- R141: the table's counts and the arbiter's record once a requester has taken an entry. -/
def State.bookIssue (s : State) (arb : Trans) (id : Nat) : State :=
  (s.updTrans (fun t => { t with
    issued := bump t.issued, lastTaken := arb.lastTaken, granted := arb.granted.erase id })).nextSerial

/-- R141: the state in which an entry just taken is checked. -/
def State.took (s : State) (arb : Trans) (k : Nat) (e : OttEntry) : State :=
  (s.setOtt k { e with order := s.serial }).bookIssue arb e.id

theorem takeEntry_eq (arb : Trans) (k : Nat) (e : OttEntry) (w : Option Status) (s : State) : takeEntry arb k e w s =
    match s.issueCheck e w with
    | some st => answerEntry k st [] (countAnswer st ((s.took arb k e).updTrans (fun t => { t with
        refusedAtIssue := bump t.refusedAtIssue })))
    | none => routeEntry k (s.took arb k e) := by
  have hc : (s.took arb k e).issueCheck e w = s.issueCheck e w := rfl
  rw [← hc]
  rfl

theorem ottEntry_took (arb : Trans) (k : Nat) (e : OttEntry) :
    (s.took arb k e).ottEntry k = some { e with order := s.serial } := tfind_tput_same _ _ _

theorem setOtt_took (arb : Trans) (k : Nat) (e e' : OttEntry) :
    (s.took arb k e).setOtt k e' = (s.setOtt k e').bookIssue arb e.id := by
  show (((s.setOtt k { e with order := s.serial }).setOtt k e').bookIssue arb e.id) = _
  rw [State.setOtt_setOtt]

/-- R142: a request in form, in a numbered frame, passes the checks. -/
theorem issueCheck_passes {e : OttEntry} {f : Nat} (hf : s.topo.frameNumber = some f) (ho : e.op = .read ∨ e.op = .write)
    (hd : e.dest ≤ 31) (ht : validTarget e.target = true) (h1 : 1 ≤ e.length) (h2 : e.length ≤ 256) :
    s.issueCheck e none = none := by
  have hnext : e.dest ≠ nextCode := fun h => by rw [h] at hd; exact absurd hd (by decide)
  have hform : formCheck e = none := by
    have hlen : ¬e.length = 0 ∧ e.length ≤ 256 := by omega
    rcases ho with ho | ho <;> simp [formCheck, hd, ht, hlen, ho, Op.defined]
  simp only [State.issueCheck, hf, Option.isNone_some, Bool.false_eq_true, if_false, hform, if_neg hnext]

/-- R148: the state once a port carries the request of an entry just taken. -/
def State.carried (s : State) (arb : Trans) (k : Nat) (e : OttEntry) (f : Nat) (p : PortId) : State :=
  pushRequest p (e.request f) ((s.setOtt k { e with order := s.serial, state := .sent, via := some (.port p) }).bookIssue arb e.id)

theorem requestWaiting_bookIssue (arb : Trans) (id : Nat) (p : PortId) :
    (s.bookIssue arb id).requestWaiting p = s.requestWaiting p := by
  have hheld : (s.bookIssue arb id).oldestHeldOut p = s.oldestHeldOut p := rfl
  have hqueued : (s.bookIssue arb id).oldestQueued p = s.oldestQueued p := rfl
  rw [State.requestWaiting, hheld, hqueued]
  rfl

/-- R148: a request that passes the checks goes out of a port with room for whose queue nothing waits. -/
theorem takeEntry_carried {arb : Trans} {k f : Nat} {e : OttEntry} {w : Option Status} {p : PortId}
    (hc : s.issueCheck e w = none) (hv : e.via = none) (hd : e.dest ≤ 31) (hf : s.topo.frameNumber = some f)
    (hr : s.routeTo e.dest = some (.port p)) (hroom : s.requestRoom p = true) (hw : s.requestWaiting p = false) :
    takeEntry arb k e w s = s.carried arb k e f p := by
  have hnext : e.dest ≠ nextCode := fun h => by rw [h] at hd; exact absurd hd (by decide)
  have hwait : (s.took arb k e).requestWaiting p = false := by
    rw [State.took, requestWaiting_bookIssue]
    exact requestWaiting_setOtt (e := { e with order := s.serial }) hw (by rw [hv]; simp)
  rw [takeEntry_eq, hc]
  dsimp only
  rw [routeEntry_sent (s := s.took arb k e) (ottEntry_took arb k e) hnext hf hr hroom hwait, setOtt_took]
  rfl

theorem settled_put {k : Nat} {e : OttEntry} (hs : s.settled) (he : e.awaitsRoute = false) : (s.setOtt k e).settled := by
  refine ⟨fun x hx => ?_, hs.2⟩
  rcases mem_of_mem_tput hx with rfl | hx
  · exact he
  · exact hs.1 x hx

theorem settled_carried {arb : Trans} {k f : Nat} {e : OttEntry} {p : PortId} (hs : s.settled) :
    (s.carried arb k e f p).settled := by
  have h : (s.setOtt k { e with order := s.serial, state := .sent, via := some (.port p) }).settled := settled_put hs rfl
  exact settled_updPort (s := (s.setOtt k { e with
    order := s.serial, state := .sent, via := some (.port p) }).bookIssue arb e.id) h p _

/-- R148: what a request carried leaves. -/
theorem carried_sent (arb : Trans) (k : Nat) (e : OttEntry) (f : Nat) (p : PortId) (s : State) :
    (s.carried arb k e f p).port p = { s.port p with qRequest := (s.port p).qRequest ++ [e.request f] } ∧
    (s.carried arb k e f p).port p.other = s.port p.other ∧ (s.carried arb k e f p).slots = s.slots ∧
    (s.carried arb k e f p).trans.issued = bump s.trans.issued ∧
    (s.carried arb k e f p).trans.ott =
      tput s.trans.ott k { e with order := s.serial, state := .sent, via := some (.port p) } := by
  cases p <;> exact ⟨rfl, rfl, rfl, rfl, rfl⟩

/-! ## Every way that a taken entry goes (R148) -/

/-- From `s` to `t` one entry is taken: the table has it in place of what stood there, awaiting no route, and neither
another entry nor a slot changes. -/
structure TakenAs (k : Nat) (s t : State) : Prop where
  ott : ∃ e, e.awaitsRoute = false ∧ t.trans.ott = tput s.trans.ott k e
  slots : t.slots = s.slots
  issued : t.trans.issued = bump s.trans.issued

theorem TakenAs.ottEntry {k j : Nat} (h : TakenAs k s t) (hj : j ≠ k) : t.ottEntry j = s.ottEntry j := by
  obtain ⟨e, -, he⟩ := h.ott
  rw [State.ottEntry, he]
  exact tfind_tput_other _ _ hj

theorem TakenAs.slot {k : Nat} (h : TakenAs k s t) (j : Nat) : t.slot j = s.slot j := by
  rw [State.slot, h.slots]; rfl

theorem TakenAs.settled {k : Nat} (h : TakenAs k s t) (hs : s.settled) : t.settled := by
  refine ⟨fun x hx => ?_, fun j => by rw [h.slot]; exact hs.2 j⟩
  obtain ⟨e, hw, he⟩ := h.ott
  rw [he] at hx
  rcases mem_of_mem_tput hx with rfl | hx
  · exact hw
  · exact hs.1 x hx

/-- An entry of the table that a requester has just taken: what still happens to it puts another in its place. -/
structure TakenIn (k : Nat) (s u : State) : Prop where
  ott : ∃ e, u.trans.ott = tput s.trans.ott k e
  slots : u.slots = s.slots
  issued : u.trans.issued = bump s.trans.issued

theorem takenIn_took (arb : Trans) (k : Nat) (e : OttEntry) (s : State) : TakenIn k s (s.took arb k e) where
  ott := ⟨_, rfl⟩
  slots := rfl
  issued := rfl

theorem TakenIn.setOtt {k : Nat} {u : State} {e : OttEntry} (h : TakenIn k s u) (he : e.awaitsRoute = false)
    (ht : t.trans.ott = (u.setOtt k e).trans.ott) (hs : t.slots = u.slots) (hi : t.trans.issued = u.trans.issued) :
    TakenAs k s t where
  ott := by
    obtain ⟨e', he'⟩ := h.ott
    refine ⟨e, he, ?_⟩
    rw [ht]
    show tput u.trans.ott k e = _
    rw [he', tput_tput]
  slots := hs.trans h.slots
  issued := hi.trans h.issued

theorem TakenIn.answered {k : Nat} {u : State} {e : OttEntry} (h : TakenIn k s u) (st : Status) (d : List Byte)
    (he : u.ottEntry k = some e) (hid : e.id ≤ 15) : TakenAs k s (answerEntry k st d u) := by
  rw [answerEntry_slot st d he hid]
  exact h.setOtt (e := { e with
    state := .answered, via := none, order := u.serial, answer := some ⟨st, e.readData st d⟩ }) rfl rfl rfl rfl

theorem TakenIn.counted {k : Nat} {u : State} (h : TakenIn k s u) (st : Status) : TakenIn k s (countAnswer st u) := by
  unfold countAnswer
  split
  · exact ⟨h.ott, h.slots, h.issued⟩
  · exact h

/-- R152: a completion made here for an entry that waits for it, and for no other of its requester and tag. -/
theorem TakenIn.completed {k : Nat} {u : State} {e : OttEntry} (h : TakenIn k s u) (st : Status) (d : List Byte)
    (hf : u.findOtt e.id e.tag = some k) (he : u.ottEntry k = some e) (hst : e.state ≠ .answered) (hid : e.id ≤ 15) :
    TakenAs k s (completionHere e.id e.tag st d u) := by
  by_cases hb : st = .busy ∧ e.retry = true ∧ 0 < e.retries
  · rw [completionHere_backoff hf he hst hb]
    exact h.setOtt (e := { e with
      state := .backoff, retries := e.retries - 1, via := none, deadline := u.localTime + Config.backoffCycles }) rfl rfl rfl rfl
  · rw [completionHere_answer hf he hst hb]
    exact h.answered st d he hid

theorem findOtt_none_iff {id tag : Nat} : s.findOtt id tag = none ↔
    ∀ j, j < 32 → ∀ x, s.ottEntry j = some x → ¬(x.id = id ∧ x.tag = tag) := by
  unfold State.findOtt
  rw [List.find?_eq_none]
  constructor
  · intro h j hj x hx
    have := h j (List.mem_range.2 hj)
    rw [hx] at this
    simpa using this
  · intro h j hj
    cases hx : s.ottEntry j with
    | none => simp
    | some x =>
      have := h j (List.mem_range.1 hj) x hx
      simpa using this

/-- R152: where no other entry has its requester and tag, an entry is found by them. -/
theorem findOtt_setOtt {k : Nat} {e : OttEntry} (hk : k < 32) (hnone : s.findOtt e.id e.tag = none) :
    (s.setOtt k e).findOtt e.id e.tag = some k := by
  have hentry : ∀ j, (s.setOtt k e).ottEntry j = if j = k then some e else s.ottEntry j := fun j => by
    show tfind (tput s.trans.ott k e) j = _
    split
    · next hj => rw [hj]; exact tfind_tput_same _ _ _
    · next hj => exact tfind_tput_other _ _ hj
  unfold State.findOtt
  rw [List.find?_range_eq_some]
  refine ⟨?_, List.mem_range.2 hk, fun j hj => ?_⟩
  · simp [hentry]
  · rw [hentry, if_neg (Nat.ne_of_lt hj)]
    cases hx : s.ottEntry j with
    | none => rfl
    | some x =>
      have hno := findOtt_none_iff.1 hnone j (Nat.lt_trans hj hk) x hx
      dsimp only
      rw [Bool.not_eq_true', Bool.and_eq_false_iff, beq_eq_false_iff_ne, beq_eq_false_iff_ne]
      exact not_and_or.1 hno

/-- R148: an entry that this frame's slots serve is listed or answered. -/
theorem TakenIn.served {k : Nat} {u : State} {e : OttEntry} {r : Request} (h : TakenIn k s u)
    (hw : r.who.id = e.id ∧ r.who.tag = e.tag) (ht : r.target ≠ controllerTarget) (hf : u.findOtt e.id e.tag = some k)
    (he : u.ottEntry k = some e) (hst : e.state = .sent) (hid : e.id ≤ 15) :
    TakenAs k s ((targetSide .here r u).getD u) := by
  obtain ⟨hwid, hwtag⟩ := hw
  have hstill {v : State} (hott : v.trans.ott = u.trans.ott) (hs : v.slots = u.slots) (hi : v.trans.issued = u.trans.issued) :
      TakenAs k s v := by
    obtain ⟨e', he'⟩ := h.ott
    have hee : e' = e := by
      have : u.ottEntry k = some e' := by rw [State.ottEntry, he']; exact tfind_tput_same _ _ _
      rw [he] at this
      exact (Option.some.inj this).symm
    refine ⟨⟨e', ?_, hott.trans he'⟩, hs.trans h.slots, hi.trans h.issued⟩
    rw [hee, OttEntry.awaitsRoute, hst]
    rfl
  have hsend {v : State} {st : Status} (hott : v.trans.ott = u.trans.ott) (hs : v.slots = u.slots)
      (hi : v.trans.issued = u.trans.issued) : TakenAs k s ((sendCompletion true r.who st [] v).getD u) := by
    have hin : TakenIn k s v := ⟨by rw [hott]; exact h.ott, hs.trans h.slots, hi.trans h.issued⟩
    have hentry (j : Nat) : v.ottEntry j = u.ottEntry j := by rw [State.ottEntry, hott]; rfl
    have hfind : v.findOtt e.id e.tag = some k := by
      unfold State.findOtt at hf ⊢
      simp only [hentry]
      exact hf
    show TakenAs k s (completionHere r.who.id r.who.tag st [] v)
    rw [hwid, hwtag]
    exact hin.completed st [] hfind ((hentry k).trans he) (by rw [hst]; decide) hid
  unfold targetSide
  rw [if_neg ht]
  split
  · exact hsend rfl rfl rfl
  · unfold serveSlot
    dsimp only
    have hdir : (Via.here == Via.here) = true := rfl
    rw [hdir]
    split
    · exact hsend rfl rfl rfl
    split
    · exact hsend rfl rfl rfl
    split
    · exact hsend rfl rfl rfl
    · split
      · exact hsend rfl rfl rfl
      · split
        · exact hsend rfl rfl rfl
        · exact hsend rfl rfl rfl
        · exact hstill rfl rfl rfl

/-- R148: what becomes of a request of this frame is never a number taken where the frame has one. -/
theorem requestFate_none {r : Request} {f : Nat} (hf : s.topo.frameNumber = some f) : s.requestFate none r ≠ .takeNumber ∧
    (s.requestFate none r = .serve → s.routeTo r.dest = some .here) := by
  have hnone : (s.topo.frameNumber.isNone) = false := by rw [hf]; rfl
  have hsome : s.topo.frameNumber.isSome = true := by rw [hf]; rfl
  unfold State.requestFate State.nextFate
  rw [hnone, hsome]
  simp only [Option.isNone_none, Bool.and_false, Bool.false_eq_true, if_false, Option.isSome_none, Bool.false_and, if_true]
  have hout (p : PortId) : sendOut none p r = .forward p { r with hop := 31 } := rfl
  split
  · split
    · exact ⟨by simp, by simp⟩
    · unfold State.nextOnward
      split
      · rw [hout]; exact ⟨by simp, by simp⟩
      · exact ⟨by simp, by simp⟩
  · split
    · next h => exact ⟨by simp, fun _ => h⟩
    · rw [hout]; exact ⟨by simp, by simp⟩
    · exact ⟨by simp, by simp⟩

/-- R141 to R148: a slot's request that takes an entry, and that this frame's CONTROLLER does not serve, changes that
entry and no other. -/
theorem takenAs_takeEntry {arb : Trans} {k : Nat} {e : OttEntry} {w : Option Status} (hk : k < 32) (hid : e.id ≤ 15)
    (hnone : s.findOtt e.id e.tag = none)
    (hserve : s.issueCheck e w = none → ¬(e.target = controllerTarget ∧ s.routeTo e.dest = some .here)) :
    TakenAs k s (takeEntry arb k e w s) := by
  have hin := takenIn_took arb k e s
  have hentry := ottEntry_took (s := s) arb k e
  rw [takeEntry_eq]
  split
  · next st hst =>
    have hcount : TakenIn k s ((s.took arb k e).updTrans (fun t => { t with refusedAtIssue := bump t.refusedAtIssue })) :=
      ⟨hin.ott, hin.slots, hin.issued⟩
    refine (hcount.counted st).answered (e := { e with order := s.serial }) st [] ?_ hid
    unfold countAnswer
    split <;> exact hentry
  · next hc =>
    have hnumber : ∃ f, (s.took arb k e).topo.frameNumber = some f := by
      unfold State.issueCheck at hc
      split at hc
      · cases hc
      · next hn => exact Option.ne_none_iff_exists'.1 fun h => hn (by rw [show s.topo.frameNumber = none from h]; rfl)
    obtain ⟨f, hf⟩ := hnumber
    simp only [routeEntry, hentry]
    obtain ⟨hnever, hhere⟩ := requestFate_none (r := OttEntry.request { e with order := s.serial } (s.took arb k e).frameCode) hf
    split
    · next p x hfate =>
      split
      · refine hin.setOtt (e := { e with order := s.serial, state := .sent, via := some (.port p) }) rfl ?_ ?_ ?_
        · rw [pushRequest, State.updPort_trans]
        · cases p <;> rfl
        · rw [pushRequest, State.updPort_trans]; rfl
      · exact hin.setOtt (e := { e with order := s.serial, state := .queued, via := some (.port p) })
          (by cases p <;> rfl) rfl rfl rfl
    · next hfate =>
      have hcontrol : e.target ≠ controllerTarget := fun ht => hserve hc ⟨ht, hhere hfate⟩
      have hin2 : TakenIn k s ((s.took arb k e).setOtt k { e with order := s.serial, state := .sent, via := some .here }) := by
        rw [setOtt_took]
        exact ⟨⟨_, rfl⟩, rfl, rfl⟩
      refine hin2.served (e := { e with order := s.serial, state := .sent, via := some .here }) ⟨rfl, rfl⟩ hcontrol ?_
        (tfind_tput_same _ _ _) rfl hid
      rw [setOtt_took]
      exact findOtt_setOtt (e := { e with order := s.serial, state := .sent, via := some .here }) hk hnone
    · next hfate => exact absurd hfate hnever
    · next st hfate =>
      refine (hin.counted st).answered (e := { e with order := s.serial }) st [] ?_ hid
      unfold countAnswer
      split <;> exact hentry

end Sys2Proof.Machine
end

section
/-! SUPPORT. A slot's requests (R141 to R143, R148), and the statement about them (O52). -/

namespace Sys2Proof.Machine

variable {s t : State} {i : Nat} {r : LaneRequest}

/-! ## The head of a lane (R141) -/

theorem Slot.waiting_nil {x : Slot} (h : x.waiting = []) : { x with waiting := [] } = x := by
  cases x
  cases h
  rfl

/-- R141: the state with one request on a slot's lane. -/
def State.offering (s : State) (i : Nat) (r : LaneRequest) : State :=
  s.setSlot i { s.slot i with waiting := [⟨r, false⟩] }

/-- R141: the state in which a slot's request takes its entry. -/
def State.offered (s : State) (i : Nat) : State := s.setSlot i { s.slot i with waiting := [] }

theorem slot_offering : (s.offering i r).slot i = { s.slot i with waiting := [⟨r, false⟩] } := State.slot_setSlot_same _ _ _

theorem Slot.waiting_push {x : Slot} (h : x.waiting = []) (w : WaitingRequest) :
    { x with waiting := x.waiting ++ [w] } = { x with waiting := [w] } := by
  rw [h]
  rfl

/-- R141: a request that arrives on a lane where none waits stands at its head. -/
theorem slotRequest_arriving (hup : (s.slot i).lane = .up) (hw : (s.slot i).waiting = []) :
    slotRequest i (some r) s = takeHead i (s.offering i r) := by
  have hpush : s.updSlot i (fun x => { x with waiting := x.waiting ++ [⟨r, false⟩] }) = s.offering i r :=
    congrArg (s.setSlot i) (Slot.waiting_push hw _)
  unfold slotRequest
  dsimp only
  rw [fromModule_up _ _ _ hup, hpush]

theorem takeHead_of_grant {k : Nat} {w : WaitingRequest} {rest : List WaitingRequest} (hup : (s.slot i).lane = .up)
    (hw : (s.slot i).waiting = w :: rest) (hr : w.refused = false) (hf : s.findOtt i w.req.tag = none)
    (hk : s.grant i = some k) : takeHead i s = takeEntry s.regrant.trans k (s.laneEntry i w.req).1 (s.laneEntry i w.req).2
      (s.setSlot i { s.slot i with waiting := rest }) := by
  unfold takeHead
  dsimp only
  split
  · next w' rest' _ hw' =>
    rw [hw] at hw'
    cases hw'
    rw [hr, hf, hk]
    rfl
  · next h => exact absurd hw (h w rest hup)

/-- R141: the request at the head of a lane takes its entry. -/
theorem takeHead_taken {k : Nat} (hup : (s.slot i).lane = .up) (hf : s.findOtt i r.tag = none) (hg : s.trans.granted = [])
    (hk : (s.offering i r).grant i = some k) : takeHead i (s.offering i r) =
      takeEntry s.trans k (s.laneEntry i r).1 (s.laneEntry i r).2 (s.offered i) := by
  have hgone : (s.offering i r).setSlot i { (s.offering i r).slot i with waiting := [] } = s.offered i := by
    rw [slot_offering, State.offering, State.setSlot_setSlot]
    rfl
  rw [takeHead_of_grant (s := s.offering i r) (w := ⟨r, false⟩) (rest := []) (by rw [slot_offering]; exact hup)
    (by rw [slot_offering]) rfl hf hk, hgone, regrant_of_none (s := s.offering i r) hg]
  rfl

theorem grant_offering (hi : i ≤ 15) (hup : (s.slot i).lane = .up) (hf : s.findOtt i r.tag = none) (hheld : s.heldBy i < 8)
    (hlen : s.trans.ott.length ≤ 11) (hg : s.trans.granted = []) :
    ∃ k, k < 32 ∧ s.ottEntry k = none ∧ (s.offering i r).grant i = some k := by
  refine grant_of_room (s := s.offering i r) ?_ hlen hg
  have hheld' : (s.offering i r).heldBy i < shareOf i := by rw [shareOf, if_pos hi]; exact hheld
  have hwaits : (s.offering i r).slotWaits i = true := by
    have hfind : (s.offering i r).findOtt i r.tag = none := hf
    simp [State.slotWaits, slot_offering, hup, hfind]
  simp [State.waitsForEntry, hheld', hi, hwaits]

/-! ## The entry of a request and its window check (R142, R143) -/

/-- R142: a window that a request may use. -/
def Window.usableFor (w : Window) (r : LaneRequest) : Prop := r.dest ≤ 63 ∧ w.enabled = true ∧ r.address + r.length ≤ w.size

theorem windowCheck_unusable {w : Window} (h : ¬w.usableFor r) : windowCheck r w = some .badRequest := by
  have hc : 63 < r.dest ∨ (!w.enabled) = true ∨ w.size < r.address + r.length := by
    by_contra hno
    push Not at hno
    exact h ⟨hno.1, by simpa using hno.2.1, hno.2.2⟩
  exact if_pos hc

theorem windowCheck_usable {w : Window} (h : w.usableFor r) : windowCheck r w =
    if w.readOnly = true ∧ (r.op = .write ∨ r.op = .writeUnlock ∨ r.op = .readLock) then some .writeProtected else none := by
  obtain ⟨h1, h2, h3⟩ := h
  have hc : ¬(63 < r.dest ∨ (!w.enabled) = true ∨ w.size < r.address + r.length) := by
    rw [h2]
    simp only [Bool.not_true, Bool.false_eq_true, false_or]
    omega
  exact if_neg hc

/-- R143: the entry of a request as its direct form gives it. -/
def State.formEntry (s : State) (i : Nat) (r : LaneRequest) : OttEntry :=
  s.directEntry i r.tag r.dest r.target r.op r.address r.length r.data r.ext (r.retry && !r.windowed)

theorem laneEntry_direct (h : r.windowed = false) : s.laneEntry i r = (s.formEntry i r, none) := by
  simp only [State.laneEntry, h, Bool.false_eq_true, if_false]
  rw [State.formEntry, h]

theorem laneEntry_unusable (h : r.windowed = true) (hu : ¬(s.window r.dest).usableFor r) :
    s.laneEntry i r = ({ s.formEntry i r with window := some r.dest }, some .badRequest) := by
  simp only [State.laneEntry, h, if_true, windowCheck_unusable hu]
  rw [State.formEntry, h]

theorem laneEntry_usable (h : r.windowed = true) (hu : (s.window r.dest).usableFor r) :
    s.laneEntry i r = (windowedEntry (s.formEntry i r) r (s.window r.dest), windowCheck r (s.window r.dest)) := by
  have hne : windowCheck r (s.window r.dest) ≠ some .badRequest := by
    rw [windowCheck_usable hu]
    split <;> simp
  unfold State.laneEntry
  dsimp only
  rw [if_pos h]
  split
  · next hb => exact absurd hb hne
  · rfl

/-- R143: whatever form a request has, its entry is the slot's, under the request's tag, and has no port yet. -/
theorem laneEntry_ids : (s.laneEntry i r).1.id = i ∧ (s.laneEntry i r).1.tag = r.tag ∧ (s.laneEntry i r).1.via = none := by
  cases h : r.windowed with
  | false => rw [laneEntry_direct h]; exact ⟨rfl, rfl, rfl⟩
  | true =>
    by_cases hu : (s.window r.dest).usableFor r
    · rw [laneEntry_usable h hu]; exact ⟨rfl, rfl, rfl⟩
    · rw [laneEntry_unusable h hu]; exact ⟨rfl, rfl, rfl⟩

theorem issueCheck_window {e : OttEntry} {f : Nat} {st : Status} (hf : s.topo.frameNumber = some f) :
    s.issueCheck e (some st) = some st := by
  simp [State.issueCheck, hf]

theorem issueCheck_unnumbered {e : OttEntry} {w : Option Status} (hf : s.topo.frameNumber = none) :
    s.issueCheck e w = some .unreachable := by
  simp [State.issueCheck, hf]

/-- R142, R156: a slot's request that a check refuses: its entry is answered at once. -/
theorem takeEntry_refused {arb : Trans} {k : Nat} {e : OttEntry} {w : Option Status} {st : Status} (hid : e.id ≤ 15)
    (hc : s.issueCheck e w = some st) (hok : st ≠ .ok) :
    ((takeEntry arb k e w s).ottEntry k).bind (·.answer) = some ⟨st, []⟩ ∧
    (takeEntry arb k e w s).trans.refusedAtIssue = bump s.trans.refusedAtIssue ∧
    (takeEntry arb k e w s).trans.unreachable = if st = .unreachable then bump s.trans.unreachable else s.trans.unreachable := by
  obtain ⟨u, hu⟩ : ∃ u, u = countAnswer st ((s.took arb k e).updTrans (fun t => { t with
      refusedAtIssue := bump t.refusedAtIssue })) := ⟨_, rfl⟩
  have hentry : u.ottEntry k = some { e with order := s.serial } := by
    rw [hu, countAnswer]
    split <;> exact ottEntry_took arb k e
  have hrefused : u.trans.refusedAtIssue = bump s.trans.refusedAtIssue := by
    rw [hu, countAnswer]
    split <;> rfl
  have hunreach : u.trans.unreachable = if st = .unreachable then bump s.trans.unreachable else s.trans.unreachable := by
    rw [hu, countAnswer]
    split <;> rfl
  have hdata : OttEntry.readData { e with order := s.serial } st [] = [] := by
    rw [OttEntry.readData, if_neg fun h => hok h.1]
  have hrun : takeEntry arb k e w s = u.ottAnswered k { e with order := s.serial } st [] := by
    rw [takeEntry_eq, hc]
    dsimp only
    rw [← hu, answerEntry_slot (e := { e with order := s.serial }) st [] hentry hid, hdata]
  rw [hrun]
  refine ⟨?_, hrefused, hunreach⟩
  have h : (u.ottAnswered k { e with order := s.serial } st []).ottEntry k = some { e with
      order := u.serial, state := .answered, via := none, answer := some ⟨st, []⟩ } := tfind_tput_same _ _ _
  rw [h]
  rfl

/-! ## The statement -/

/-- Settles O52. -/
theorem requestsAreIssued : Obligations.RequestsAreIssued := by
  unfold Obligations.RequestsAreIssued
  intro i r s hs hup hwait hfind hheld hlen hg
  dsimp only
  have hi : i.val ≤ 15 := by omega
  obtain ⟨k, hk, hfree, hgrant⟩ := grant_offering (s := s) (i := i) (r := r) hi hup hfind hheld hlen hg
  obtain ⟨hid, htag, hvia⟩ := laneEntry_ids (s := s) (i := i) (r := r)
  obtain ⟨u, hu⟩ : ∃ u, u = s.offered i := ⟨_, rfl⟩
  have huset : u.settled := by
    rw [hu]
    exact ⟨hs.1, drain_setSlot (settled_drains hs) (hs.2 i)⟩
  have hutrans : u.trans = s.trans := by rw [hu]; rfl
  have hutopo : u.topo = s.topo := by rw [hu]; rfl
  have huslot (j : Nat) : u.slot j = s.slot j := by
    rw [hu, State.offered, State.slot_setSlot]
    split
    · next hj => rw [hj]; exact Slot.waiting_nil hwait
    · rfl
  have huport (p : PortId) : u.port p = s.port p := by rw [hu]; cases p <;> rfl
  obtain ⟨x, hx⟩ : ∃ x, x = s.laneEntry i r := ⟨_, rfl⟩
  have hrun : takeHead i (s.offering i r) = takeEntry s.trans k x.1 x.2 u := by
    rw [takeHead_taken hup hfind hg hgrant, hu, hx]
  have hcheck : u.issueCheck x.1 x.2 = s.issueCheck x.1 x.2 := by rw [hu]; rfl
  have hroute (f : Nat) : u.routeTo f = s.routeTo f := by rw [State.routeTo, hutopo]; rfl
  have hxid : x.1.id = i := by rw [hx]; exact hid
  have hxvia : x.1.via = none := by rw [hx]; exact hvia
  have hutaken (h : u.issueCheck x.1 x.2 = none → ¬(x.1.target = controllerTarget ∧ u.routeTo x.1.dest = some .here)) :
      TakenAs k u (takeEntry s.trans k x.1 x.2 u) :=
    takenAs_takeEntry hk (by rw [hxid]; exact hi) (by
      rw [show x.1.tag = r.tag from by rw [hx]; exact htag, hxid, hu]; exact hfind) h
  have hcounts : bump u.trans.issued = bump s.trans.issued := by rw [hutrans]
  refine ⟨congrArg (fun v => Host.Outcome.next (finish v)) (slotRequest_arriving hup hwait).symm, k, _,
    congrArg (fun v => Host.Outcome.next (finish v)) ((slotRequest_arriving hup hwait).trans hrun), hk, hfree, ?frame,
    fun hf => ?unnumbered, fun f hf => ⟨fun ⟨hw, hbad⟩ => ?unusable, fun ⟨hw, hu, hro, hop⟩ => ?readOnly,
      fun p hwin hop hdest htarget hl1 hl2 hr hisup hlen hwaiting => ?carried⟩⟩
  case frame =>
    intro hc
    have hT := hutaken fun hnone ⟨ht, hd⟩ => by
      rw [hcheck] at hnone
      rw [hroute] at hd
      rcases hf : s.topo.frameNumber with _ | f
      · rw [issueCheck_unnumbered hf] at hnone
        cases hnone
      cases hw : r.windowed with
      | false =>
        rw [hx, laneEntry_direct hw] at ht hd
        simp only [hf, hw, Bool.false_eq_true, if_false, false_and, or_false, reduceCtorEq, false_or] at hc
        exact hc ⟨ht, hd⟩
      | true =>
        by_cases hu : (s.window r.dest).usableFor r
        · have hcheck := windowCheck_usable hu
          rw [hx, laneEntry_usable hw hu] at ht hd hnone
          rcases hc with (hn | ⟨-, hno | hro⟩) | hno
          · rw [hf] at hn; cases hn
          · exact hno hu
          · rw [hcheck, if_pos ⟨hro.1, .inl hro.2⟩, issueCheck_window hf] at hnone
            cases hnone
          · rw [hw] at hno
            exact hno ⟨ht, hd⟩
        · rw [hx, laneEntry_unusable hw hu, issueCheck_window hf] at hnone
          cases hnone
    rw [finish_settled (hT.settled huset)]
    refine ⟨fun j hj => ?_, fun j => (hT.slot j).trans (huslot j), hT.issued.trans hcounts⟩
    rw [hT.ottEntry hj, State.ottEntry, hutrans]
    rfl
  case unnumbered =>
    have hc : u.issueCheck x.1 x.2 = some .unreachable := hcheck.trans (issueCheck_unnumbered hf)
    have hT := hutaken fun hn => by rw [hc] at hn; cases hn
    obtain ⟨hans, href, hun⟩ := takeEntry_refused (arb := s.trans) (k := k) (by rw [hxid]; exact hi) hc (by decide)
    rw [finish_settled (hT.settled huset)]
    rw [hutrans] at href hun
    exact ⟨hans, hun, href⟩
  case unusable =>
    have hc : u.issueCheck x.1 x.2 = some .badRequest := by
      rw [hcheck, hx, laneEntry_unusable hw hbad, issueCheck_window hf]
    have hT := hutaken fun hn => by rw [hc] at hn; cases hn
    obtain ⟨hans, href, -⟩ := takeEntry_refused (arb := s.trans) (k := k) (by rw [hxid]; exact hi) hc (by decide)
    rw [finish_settled (hT.settled huset)]
    rw [hutrans] at href
    exact ⟨hans, href⟩
  case readOnly =>
    have hc : u.issueCheck x.1 x.2 = some .writeProtected := by
      rw [hcheck, hx, laneEntry_usable hw hu, windowCheck_usable hu, if_pos ⟨hro, .inl hop⟩, issueCheck_window hf]
    have hT := hutaken fun hn => by rw [hc] at hn; cases hn
    obtain ⟨hans, href, -⟩ := takeEntry_refused (arb := s.trans) (k := k) (by rw [hxid]; exact hi) hc (by decide)
    rw [finish_settled (hT.settled huset)]
    rw [hutrans] at href
    exact ⟨hans, href⟩
  case carried =>
    obtain ⟨hx2, hx1⟩ : x.2 = none ∧ x.1 = {
        id := i, tag := r.tag, dest := if r.windowed = true then (s.window r.dest).frame else r.dest
        target := if r.windowed = true then (s.window r.dest).target else r.target, op := r.op
        address := if r.windowed = true then (s.window r.dest).base + r.address else r.address, length := r.length
        data := if r.windowed = true ∧ r.op = .write then (s.window r.dest).swap.apply r.data else r.data
        ext := r.ext, window := if r.windowed = true then some r.dest else none
        swap := if r.windowed = true then (s.window r.dest).swap else .none
        retry := if r.windowed = true then (s.window r.dest).retry else r.retry
        retries := if r.windowed = true then (s.window r.dest).retryLimit else if r.retry = true then 3 else 0
        deadline := s.localTime + s.trans.settings.timeout * Config.cyclesPerUs
        via := none, state := .queued, answer := none, order := 0 } := by
      cases hw : r.windowed with
      | false =>
        rw [hx, laneEntry_direct hw, State.formEntry, hw]
        simp [State.directEntry, State.deadline]
      | true =>
        obtain ⟨hu, hmay⟩ := hwin hw
        rw [hx, laneEntry_usable hw hu, windowCheck_usable hu, State.formEntry, hw]
        rcases hop with hop | hop
        · simp [State.directEntry, State.deadline, windowedEntry, hop, Op.writes]
        · have hro : (s.window r.dest).readOnly = false := hmay.resolve_right (by rw [hop]; decide)
          simp [State.directEntry, State.deadline, windowedEntry, hop, Op.writes, hro]
    have hdest' : x.1.dest ≤ 31 := by rw [hx1]; exact hdest
    have hc : u.issueCheck x.1 x.2 = none := by
      rw [hcheck, hx2]
      exact issueCheck_passes hf (by rw [hx1]; exact hop) hdest' (by rw [hx1]; exact htarget) (by rw [hx1]; exact hl1)
        (by rw [hx1]; exact hl2)
    have hroom : u.requestRoom p = true := by
      have hup' : u.isUp p = true := by rw [State.isUp, huport]; exact hisup
      simp [State.requestRoom, hup', huport, hlen]
    have hcarried := takeEntry_carried (arb := s.trans) (k := k) (f := f) (p := p) hc hxvia hdest' (by rw [hutopo]; exact hf)
      (by rw [hroute, hx1]; exact hr) hroom (by rw [hu]; exact hwaiting)
    obtain ⟨hport, hother, -, -, hott⟩ := carried_sent s.trans k x.1 f p u
    rw [hcarried, finish_settled (settled_carried huset)]
    refine ⟨?_, ?_, ?_⟩
    · have hnext : (if r.windowed = true then (s.window r.dest).frame else r.dest) ≠ nextCode := fun h => by
        rw [h] at hdest; exact absurd hdest (by decide)
      rw [hport, huport, hx1]
      simp only [OttEntry.request, if_neg hnext]
    · rw [hother, huport]
    · rw [State.ottEntry, hott, hx1, hu]
      exact tfind_tput_same _ _ _

end Sys2Proof.Machine
end

section
/-! SUPPORT. The chunks of the channels and the notices to the Manager (R168 to R172, R179), and the statement about
them (O59). -/

namespace Sys2Proof.Machine

variable {s t : State} {c : Nat}

/-! ## Tags (R172) -/

/-- Two entries of one requester under different tags are two of its share. -/
theorem two_le_heldBy {id j k : Nat} {e e' : OttEntry} (he : s.ottEntry j = some e) (he' : s.ottEntry k = some e')
    (hid : e.id = id) (hid' : e'.id = id) (hne : e.tag ≠ e'.tag) : 2 ≤ s.heldBy id := by
  have hmem : (j, e) ∈ s.trans.ott.filter (fun x => x.2.id == id) := List.mem_filter.2 ⟨mem_of_tfind he, beq_iff_eq.2 hid⟩
  have hmem' : (k, e') ∈ s.trans.ott.filter (fun x => x.2.id == id) := List.mem_filter.2 ⟨mem_of_tfind he', beq_iff_eq.2 hid'⟩
  unfold State.heldBy
  match hl : s.trans.ott.filter (fun x => x.2.id == id) with
  | [] => rw [hl] at hmem; cases hmem
  | [a] =>
    rw [hl, List.mem_singleton] at hmem hmem'
    exact absurd (by rw [show e = e' from congrArg Prod.snd (hmem.trans hmem'.symm)]) hne
  | a :: b :: l =>
    rw [hl]
    simp

theorem exists_of_findOtt {id tag : Nat} (h : s.findOtt id tag ≠ none) :
    ∃ k e, s.ottEntry k = some e ∧ e.id = id ∧ e.tag = tag := by
  by_contra hno
  exact h (findOtt_none_iff.2 fun j _ x hx hc => hno ⟨j, x, hx, hc.1, hc.2⟩)

/-- R172: a channel with fewer than two entries has a tag that none of them uses. -/
theorem chooseTag_free (hheld : s.heldBy (16 + c) < 2) : s.findOtt (16 + c) (s.chooseTag c) = none := by
  unfold State.chooseTag
  cases hfind : ((List.range 32).map (fun d => ((s.channel c).nextTag + d) % 32)).find?
      (fun t => (s.findOtt (16 + c) t).isNone) with
  | some tag =>
    have h := List.find?_some hfind
    exact Option.isNone_iff_eq_none.1 h
  | none =>
    have hall (d : Nat) (hd : d < 32) : s.findOtt (16 + c) (((s.channel c).nextTag + d) % 32) ≠ none := by
      have h := List.find?_eq_none.1 hfind _ (List.mem_map_of_mem (List.mem_range.2 hd))
      simpa using h
    obtain ⟨j, e, he, hid, htag⟩ := exists_of_findOtt (hall 0 (by decide))
    obtain ⟨k, e', he', hid', htag'⟩ := exists_of_findOtt (hall 1 (by decide))
    have htwo := two_le_heldBy he he' hid hid' (by rw [htag, htag']; omega)
    omega

/-! ## The requests of a channel (R168, R169) -/

/-- R168: a channel that may start a read. -/
theorem chunkToStart_iff : s.chunkToStart c = true ↔ (s.channel c).state = .running ∧
    (s.channel c).readOffset < (s.channel c).length ∧ (s.channel c).inFlight.length < 2 ∧
    ((s.channel c).pacing = 0 ∨ (s.channel c).chunksThisEpoch < (s.channel c).pacing) ∧ s.heldBy (16 + c) < 2 := by
  simp [State.chunkToStart, and_assoc]

theorem writeToStart_empty (h : (s.channel c).inFlight = []) : s.writeToStart c = none := by
  simp [State.writeToStart, h]

theorem writeToStart_held {x : Chunk} {rest : List Chunk} (hst : (s.channel c).state = .running ∨ (s.channel c).state = .paused)
    (h : (s.channel c).inFlight = x :: rest) (hx : x.stage = .held) : s.writeToStart c = some x := by
  simp [State.writeToStart, h, hst, hx]

/-- R141, R146: a channel with a share and something to start waits for an entry. -/
theorem waitsForEntry_channel (hc : c < 4) (hheld : s.heldBy (16 + c) < 2)
    (h : s.chunkToStart c = true ∨ (s.writeToStart c).isSome = true) : s.waitsForEntry (16 + c) = true := by
  have h1 : ¬16 + c ≤ 15 := by omega
  have h2 : 16 + c ≤ 19 := by omega
  simp only [State.waitsForEntry, shareOf, if_neg h1, if_pos h2, Nat.add_sub_cancel_left, Bool.and_eq_true,
    decide_eq_true_iff, Bool.or_eq_true]
  exact ⟨hheld, h⟩

/-- R168: the read that a channel starts. -/
def State.readEntry (s : State) (c : Nat) : OttEntry :=
  let r := s.channel c
  s.directEntry (16 + c) (s.chooseTag c) r.srcFrame r.srcTarget .read ((r.srcAddr + r.readOffset) % 2 ^ 32)
    (min r.chunk (r.length - r.readOffset)) [] none r.retry

/-- R168: a channel that has started a read. -/
def State.readStarted (s : State) (c : Nat) : State :=
  let r := s.channel c
  let tag := s.chooseTag c
  let len := min r.chunk (r.length - r.readOffset)
  s.setChannel c { r with
    inFlight := r.inFlight ++ [⟨r.readOffset, len, .reading, tag, []⟩], readOffset := r.readOffset + len
    chunksThisEpoch := min (r.chunksThisEpoch + 1) 255, nextTag := (tag + 1) % 32 }

theorem startRead_granted {k : Nat} (hg : s.trans.granted = []) (hc : s.chunkToStart c = true) (hw : s.writeToStart c = none)
    (hk : s.grant (16 + c) = some k) : startRead c s = takeEntry s.trans k (s.readEntry c) none (s.readStarted c) := by
  have hif : ¬((!s.chunkToStart c || (s.writeToStart c).isSome) = true) := by rw [hc, hw]; decide
  unfold startRead
  dsimp only
  rw [if_neg hif, hk, regrant_of_none hg]
  rfl

/-- R169: the write that a channel starts. -/
def State.writeEntry (s : State) (c : Nat) (x : Chunk) : OttEntry :=
  let r := s.channel c
  s.directEntry (16 + c) (s.chooseTag c) r.dstFrame r.dstTarget .write ((r.dstAddr + x.offset) % 2 ^ 32) x.length x.data
    none r.retry

/-- R169: a channel that has started a write. -/
def State.writeStarted (s : State) (c : Nat) (x : Chunk) : State :=
  let r := s.channel c
  let tag := s.chooseTag c
  s.setChannel c { r with
    inFlight := { x with stage := .writing, tag := tag } :: r.inFlight.drop 1, nextTag := (tag + 1) % 32 }

theorem startWrite_granted {k : Nat} {x : Chunk} (hg : s.trans.granted = []) (hw : s.writeToStart c = some x)
    (hk : s.grant (16 + c) = some k) : startWrite c s = takeEntry s.trans k (s.writeEntry c x) none (s.writeStarted c x) := by
  unfold startWrite
  dsimp only
  rw [hw, hk, regrant_of_none hg]
  rfl

/-! ## A request that a port carries (R148) -/

/-- What a request that a port carries may ask for, in form (R142). -/
structure InForm (e : OttEntry) : Prop where
  op : e.op = .read ∨ e.op = .write
  dest : e.dest ≤ 31
  target : validTarget e.target = true
  pos : 1 ≤ e.length
  most : e.length ≤ 256
  via : e.via = none

/-- A port of a numbered frame that carries a request at once (R148, R150). -/
structure Carries (s : State) (f : Nat) (p : PortId) : Prop where
  number : s.topo.frameNumber = some f
  room : s.requestRoom p = true
  free : s.requestWaiting p = false

theorem takeEntry_inForm {arb : Trans} {k f : Nat} {e : OttEntry} {p : PortId} (h : Carries s f p) (he : InForm e)
    (hr : s.routeTo e.dest = some (.port p)) : takeEntry arb k e none s = s.carried arb k e f p :=
  takeEntry_carried (issueCheck_passes h.number he.op he.dest he.target he.pos he.most) he.via he.dest h.number hr h.room h.free

theorem request_direct {e : OttEntry} (f : Nat) (hd : e.dest ≤ 31) : e.request f =
    { who := ⟨f, e.id, e.tag⟩, dest := e.dest, target := e.target, op := e.op, hop := 31, address := e.address
      length := e.length, ext := none, data := e.data } := by
  have hnext : e.dest ≠ nextCode := fun h => by rw [h] at hd; exact absurd hd (by decide)
  simp only [OttEntry.request, if_neg hnext]

/-! ## The answer to a write (R170, R171) -/

/-- R156: a channel takes its answer at once, and its entry leaves. -/
theorem answerEntry_channel {k : Nat} {e : OttEntry} (st : Status) (d : List Byte) (hc : c < 4) (he : s.ottEntry k = some e)
    (hid : e.id = 16 + c) :
    ∃ g l, answerEntry k st d s = (channelAnswer c e.tag st (e.readData st d) (s.delOtt k)).updTrans
      (fun x => { x with granted := g, lastTaken := l }) := by
  have h1 : 16 ≤ e.id ∧ e.id ≤ 19 := by omega
  have h2 : e.id - 16 = c := by omega
  have hrun : answerEntry k st d s = s.noteFreed (channelAnswer c e.tag st (e.readData st d) (s.delOtt k)) := by
    simp only [answerEntry, he, if_pos h1, h2]
  rw [hrun]
  rcases noteFreed_cases s (channelAnswer c e.tag st (e.readData st d) (s.delOtt k)) with ⟨-, g, l, h⟩ | ⟨-, h⟩
  · exact ⟨g, l, h⟩
  · exact ⟨(channelAnswer c e.tag st (e.readData st d) (s.delOtt k)).trans.granted, _, h⟩

theorem channel_raise (k : EventKind) (j : Nat) : (raise k s).channel j = s.channel j := rfl

theorem channel_setChannel (r : Channel) : (s.setChannel c r).channel c = r := tgetD_tset_same (α := Channel) {} s.channels c r

/-- R170, R171: the answer to the write of a channel's only item. -/
theorem channelAnswer_write {tag : Nat} {st : Status} {d : List Byte} {x : Chunk} (hx : (s.channel c).inFlight = [x])
    (hst : x.stage = .writing) (htag : x.tag = tag) :
    let t := channelAnswer c tag st d s
    (t.channel c).inFlight = [] ∧
    (st = .ok → (s.channel c).remaining = x.length → (t.channel c).state = .done ∧
      (t.channel c).chunksWritten = bump (s.channel c).chunksWritten ∧ (t.event EventKind.channelDone.code).pending = true) ∧
    (st ≠ .ok → (t.channel c).state = .faulted ∧ (t.channel c).fault = some ⟨true, st⟩ ∧
      (t.event EventKind.channelFault.code).pending = true) := by
  dsimp only
  have hfind : (s.channel c).inFlight.find? (fun i => i.tag == tag && i.stage != .held) = some x := by
    rw [hx]
    simp [htag, hst]
  by_cases hok : st = .ok
  · have hrun : channelAnswer c tag st d s = chunkWritten c x s := by
      simp only [channelAnswer, hfind, hok, hst, ne_eq, not_true_eq_false, if_false, if_true]
    have hgone : (s.channel c).inFlight.filter (fun i => i != x) = [] := by rw [hx]; simp
    rw [hrun]
    unfold chunkWritten
    dsimp only
    split
    · rw [channel_raise, channel_setChannel]
      exact ⟨hgone, fun _ _ => ⟨rfl, rfl, pending_raise (.inr rfl)⟩, fun h => absurd hok h⟩
    · next hleft =>
      rw [channel_setChannel]
      exact ⟨hgone, fun _ hrem => absurd (by rw [hrem, Nat.sub_self]) hleft, fun h => absurd hok h⟩
  · have hrun : channelAnswer c tag st d s = faultChannel c true st s := by
      simp only [channelAnswer, hfind, hok, hst, ne_eq, not_false_eq_true, if_true]
      rfl
    rw [hrun]
    unfold faultChannel
    dsimp only
    rw [channel_raise, channel_setChannel]
    exact ⟨rfl, fun h => absurd h hok, fun _ => ⟨rfl, rfl, pending_raise (.inr rfl)⟩⟩

/-! ## Notices (R179) -/

/-- R179: how far a kind lies behind Last Notice Kind, in code order and round from the lowest. -/
def State.noticeAfter (s : State) (k : Nat) : Nat := (k + 28 - (s.mgmt.lastKind + 1) % 28) % 28

theorem nextNoticeKind_iff {k : Nat} : s.nextNoticeKind = some k ↔ k < 28 ∧ (s.event k).notice = .awaiting ∧
    ∀ j, j < 28 → (s.event j).notice = .awaiting → s.noticeAfter k ≤ s.noticeAfter j := by
  have hback (j : Nat) (hj : j < 28) : (s.mgmt.lastKind + 1 + s.noticeAfter j) % 28 = j := by
    unfold State.noticeAfter; omega
  have hthere (d : Nat) (hd : d < 28) : s.noticeAfter ((s.mgmt.lastKind + 1 + d) % 28) = d := by
    unfold State.noticeAfter; omega
  have hlt (j : Nat) : s.noticeAfter j < 28 := Nat.mod_lt _ (by decide)
  unfold State.nextNoticeKind
  rw [List.find?_map, Option.map_eq_some_iff]
  constructor
  · rintro ⟨d, hd, rfl⟩
    obtain ⟨hp, hmem, hmin⟩ := List.find?_range_eq_some.1 hd
    have hd28 : d < 28 := List.mem_range.1 hmem
    refine ⟨Nat.mod_lt _ (by decide), by simpa using hp, fun j hj hja => ?_⟩
    rw [show kindCount = 28 from rfl, hthere d hd28]
    by_contra hc
    have hno := hmin (s.noticeAfter j) (by omega)
    have hb : (s.mgmt.lastKind + 1 + s.noticeAfter j) % kindCount = j := hback j hj
    simp only [Function.comp_apply, hb, hja] at hno
    exact absurd hno (by decide)
  · rintro ⟨hk, hka, hmin⟩
    have hb : (s.mgmt.lastKind + 1 + s.noticeAfter k) % kindCount = k := hback k hk
    refine ⟨s.noticeAfter k, List.find?_range_eq_some.2 ⟨?_, List.mem_range.2 (hlt k), fun d hd => ?_⟩, hb⟩
    · simp only [Function.comp_apply, hb, hka]
      rfl
    · have hd28 : d < 28 := Nat.lt_trans hd (hlt k)
      rw [Function.comp_apply, Bool.not_eq_true', beq_eq_false_iff_ne]
      intro hda
      have hle := hmin ((s.mgmt.lastKind + 1 + d) % 28) (Nat.mod_lt _ (by decide)) hda
      rw [hthere d hd28] at hle
      omega

/-- R179: the notice of a kind. -/
def State.noticeEntry (s : State) (k m i : Nat) : OttEntry :=
  s.directEntry 20 s.mgmt.nextTag m i .write s.mgmt.noticeAddress 16 (s.noticeData k) none false

/-- R179: a notice engine that has sent a notice. -/
def State.noticed (s : State) (k : Nat) : State :=
  s.updMgmt (fun m => { m with inFlight := some ⟨k, m.nextTag, false⟩, lastKind := k, nextTag := (m.nextTag + 1) % 32 })

theorem noticeToSend_ready {f k m i : Nat} (hin : s.mgmt.inFlight = none) (hf : s.topo.frameNumber = some f)
    (hm : s.mgmt.manager = some (m, i)) (hk : s.nextNoticeKind = some k) : s.noticeToSend = some (k, m, i) := by
  simp only [State.noticeToSend, hin, hf, hm, hk]

theorem issueNotice_granted {k m i j : Nat} (hg : s.trans.granted = []) (hn : s.noticeToSend = some (k, m, i))
    (hj : s.grant 20 = some j) : issueNotice s = takeEntry s.trans j (s.noticeEntry k m i) none (s.noticed k) := by
  unfold issueNotice
  rw [hn, hj, regrant_of_none hg]
  rfl

/-! ## The statement -/

/-- R149, R152: a completion for this frame, where a buffer is free. -/
theorem completionReceived_here {q : PortId} {a : Completion} (hs : s.settled) (hup : (s.port q).state = .up)
    (hroom : (s.port q).heldCompletions.length < 8) (hf : s.topo.frameNumber = some a.who.frame) :
    exec (.completionReceived q a) s = .next ((completionHere a.who.id a.who.tag (Status.received a.status) a.data s).updPort q
      (fun x => x.freeBuffer .completion)) := by
  have hrun : exec (.completionReceived q a) s = .next (finish (arriveCompletion q a s)) :=
    congrArg (fun u => Host.Outcome.next (finish u)) (byState_up s q .completion (.completion a) (arriveCompletion q a) hup)
  have hset := (answering_completionHere a.who.id a.who.tag (Status.received a.status) a.data s).settled hs
  rw [hrun, arriveCompletion_taken hroom (examineCompletion_here hf)
    (overtakes_of_ports (answersOnly_completionHere _ _ _ _ s).port), finish_settled (settled_updPort hset _ _)]

/-- What a request that a port carries leaves of the ports and the slots, where what its requester kept changes neither. -/
theorem carried_from {u : State} {arb : Trans} {k f : Nat} {e : OttEntry} {p : PortId} (hport : ∀ q, u.port q = s.port q)
    (hslots : u.slots = s.slots) (htrans : u.trans = s.trans) (hd : e.dest ≤ 31) :
    (u.carried arb k e f p).port p = { s.port p with qRequest := (s.port p).qRequest ++ [{
      who := ⟨f, e.id, e.tag⟩, dest := e.dest, target := e.target, op := e.op, hop := 31, address := e.address
      length := e.length, ext := none, data := e.data }] } ∧
    (u.carried arb k e f p).port p.other = s.port p.other ∧ (u.carried arb k e f p).slots = s.slots ∧
    (u.carried arb k e f p).trans.issued = bump s.trans.issued := by
  obtain ⟨h1, h2, h3, h4, -⟩ := carried_sent arb k e f p u
  refine ⟨?_, h2.trans (hport _), h3.trans hslots, h4.trans (by rw [htrans])⟩
  rw [h1, hport, request_direct f hd]

theorem carried_channel {arb : Trans} {k f : Nat} {e : OttEntry} {p : PortId} (j : Nat) :
    (s.carried arb k e f p).channel j = s.channel j := by cases p <;> rfl

theorem carried_mgmt {arb : Trans} {k f : Nat} {e : OttEntry} {p : PortId} : (s.carried arb k e f p).mgmt = s.mgmt := by
  cases p <;> rfl

/-- Settles O59. -/
theorem chunksAndNoticesAreSent : Obligations.ChunksAndNoticesAreSent := by
  unfold Obligations.ChunksAndNoticesAreSent
  intro s f p hs hf hisup hlen hwait hott hg
  dsimp only
  have hcarries : Carries s f p := ⟨hf, by simp [State.requestRoom, hisup, hlen], hwait⟩
  refine ⟨fun c => ⟨fun hst hoff hin hpace hheld hframe htarget h1 h2 hr => ?read,
    fun x hst hin hx hheld hframe htarget h1 h2 hr => ?write,
    fun q a k e x hup hroom hfr hid hk he hst hretry hin hx htag => ?answer⟩, fun k => nextNoticeKind_iff,
    fun k m i hin hm hk hheld hframe htarget hr => ?notice⟩
  case read =>
    have hstart : s.chunkToStart c = true := chunkToStart_iff.2 ⟨hst, hoff, by rw [hin]; decide, hpace, hheld⟩
    obtain ⟨k, -, -, hgrant⟩ := grant_of_room (waitsForEntry_channel c.isLt hheld (.inl hstart)) hott hg
    have hform : InForm (s.readEntry c) := ⟨.inl rfl, hframe, htarget, by
      show 1 ≤ min (s.channel c).chunk ((s.channel c).length - (s.channel c).readOffset); omega, by
      show min (s.channel c).chunk ((s.channel c).length - (s.channel c).readOffset) ≤ 256; omega, rfl⟩
    have hrun : startRead c s = (s.readStarted c).carried s.trans k (s.readEntry c) f p :=
      (startRead_granted hg hstart (writeToStart_empty hin) hgrant).trans
        (takeEntry_inForm (s := s.readStarted c) ⟨hf, hcarries.room, hwait⟩ hform hr)
    have hset : (s.readStarted c).settled := hs
    have hfin : exec (.chunkReadStart c) s = .next ((s.readStarted c).carried s.trans k (s.readEntry c) f p) :=
      congrArg Host.Outcome.next ((congrArg finish hrun).trans (finish_settled (settled_carried hset)))
    refine ⟨_, s.chooseTag c, hfin, chooseTag_free hheld,
      carried_from (s := s) (u := s.readStarted c) (fun q => by cases q <;> rfl) rfl rfl hframe, ?_⟩
    rw [carried_channel, State.readStarted, channel_setChannel, hin]
    rfl
  case write =>
    have hstart : s.writeToStart c = some x := writeToStart_held hst hin hx
    obtain ⟨k, -, -, hgrant⟩ := grant_of_room (waitsForEntry_channel c.isLt hheld (.inr (by rw [hstart]; rfl))) hott hg
    have hform : InForm (s.writeEntry c x) := ⟨.inr rfl, hframe, htarget, h1, h2, rfl⟩
    have hrun : startWrite c s = (s.writeStarted c x).carried s.trans k (s.writeEntry c x) f p :=
      (startWrite_granted hg hstart hgrant).trans
        (takeEntry_inForm (s := s.writeStarted c x) ⟨hf, hcarries.room, hwait⟩ hform hr)
    have hset : (s.writeStarted c x).settled := hs
    have hfin : exec (.chunkWriteStart c) s = .next ((s.writeStarted c x).carried s.trans k (s.writeEntry c x) f p) :=
      congrArg Host.Outcome.next ((congrArg finish hrun).trans (finish_settled (settled_carried hset)))
    refine ⟨_, s.chooseTag c, hfin, chooseTag_free hheld,
      carried_from (s := s) (u := s.writeStarted c x) (fun q => by cases q <;> rfl) rfl rfl hframe, ?_⟩
    rw [carried_channel, State.writeStarted, channel_setChannel, hin]
    rfl
  case answer =>
    obtain ⟨heid, hetag⟩ := findOtt_spec hk he
    obtain ⟨g, l, hans⟩ := answerEntry_channel (c := c) (Status.received a.status) a.data c.isLt he (heid.trans hid)
    have hrun := completionReceived_here hs hup hroom (by rw [hf, hfr])
    rw [completionHere_answer hk he (by rw [hst]; decide) (by rw [hretry]; simp), hans, hetag] at hrun
    obtain ⟨hflight, hok, hbad⟩ := channelAnswer_write (s := s.delOtt k) (c := c) (st := Status.received a.status)
      (d := e.readData (Status.received a.status) a.data) hin hx htag
    obtain ⟨u, hu⟩ : ∃ u, u = channelAnswer c a.who.tag (Status.received a.status)
      (e.readData (Status.received a.status) a.data) (s.delOtt k) := ⟨_, rfl⟩
    rw [← hu] at hrun hflight hok hbad
    have hutrans : u.trans = (s.delOtt k).trans := by rw [hu]; exact channelAnswer_trans _ _ _ _ _
    obtain ⟨t, ht⟩ : ∃ t, t = (u.updTrans (fun x => { x with granted := g, lastTaken := l })).updPort q
      (fun x => x.freeBuffer .completion) := ⟨_, rfl⟩
    have hchannel : t.channel c = u.channel c := by rw [ht]; cases q <;> rfl
    have hevent (j : Nat) : t.event j = u.event j := by rw [ht]; cases q <;> rfl
    have hentry : t.ottEntry k = none := by
      have h : t.ottEntry k = tfind u.trans.ott k := by rw [ht]; cases q <;> rfl
      rw [h, hutrans]
      exact tfind_tdel_same _ _
    rw [← ht] at hrun
    exact ⟨t, hrun, hentry, by rw [hchannel]; exact hflight, by rw [hchannel, hevent]; exact hok, by rw [hchannel, hevent]; exact hbad⟩
  case notice =>
    refine ⟨(nextNoticeKind_iff.1 hk).2.1, ?_⟩
    have hready := noticeToSend_ready hin hf hm hk
    have hwaits : s.waitsForEntry 20 = true := by
      simp [State.waitsForEntry, shareOf, hheld, hready]
    obtain ⟨j, -, -, hgrant⟩ := grant_of_room hwaits hott hg
    have hform : InForm (s.noticeEntry k m i) := ⟨.inr rfl, hframe, htarget, by show 1 ≤ 16; decide, by show 16 ≤ 256; decide, rfl⟩
    have hrun : issueNotice s = (s.noticed k).carried s.trans j (s.noticeEntry k m i) f p :=
      (issueNotice_granted hg hready hgrant).trans
        (takeEntry_inForm (s := s.noticed k) ⟨hf, hcarries.room, hwait⟩ hform hr)
    have hset : (s.noticed k).settled := hs
    have hfin : exec .noticeIssue s = .next ((s.noticed k).carried s.trans j (s.noticeEntry k m i) f p) :=
      congrArg Host.Outcome.next ((congrArg finish hrun).trans (finish_settled (settled_carried hset)))
    refine ⟨_, hfin, ?_, ?_⟩
    · have hdata : (s.noticeEntry k m i).data = beBytes 1 f ++ beBytes 1 k ++ beBytes 1 (s.event k).count ++ beBytes 5 0 ++
          beBytes 8 (s.rtu.rackTime.toNat / 2 ^ 32) := by
        show s.noticeData k = _
        rw [State.noticeData, State.frameCode, hf]
        rfl
      have h := carried_from (s := s) (u := s.noticed k) (arb := s.trans) (k := j) (e := s.noticeEntry k m i) (f := f) (p := p)
        (fun q => by cases q <;> rfl) rfl rfl hframe
      rw [hdata] at h
      exact h
    · rw [carried_mgmt]
      rfl

end Sys2Proof.Machine
end

section
/-! SUPPORT. Controller space (R175, R176, 11.4): its regions, the writes that its fields take, and the accesses of
requests from the cables. -/

namespace Sys2Proof.Machine

variable {s t : State} {who : Requester}

/-! ## Written words -/

theorem dataWord_beBytes {v : Nat} (hv : v < 2 ^ 32) :
    beNat (beBytes 4 v ++ List.replicate (4 - (beBytes 4 v).length) 0) = v := by
  rw [beBytes_length, Nat.sub_self, List.replicate_zero, List.append_nil]
  exact beNat_beBytes hv

theorem wordsOf_one {a : Nat} (ha : a < 2 ^ 32) : wordsOf (beBytes 4 a) = [a] := by
  have hlen : (beBytes 4 a).length / 4 = 1 := by rw [beBytes_length]
  have htake : (beBytes 4 a).take 4 = beBytes 4 a := List.take_of_length_le (Nat.le_of_eq (beBytes_length 4 a))
  have hrange : List.range 1 = [0] := rfl
  rw [wordsOf, hlen, dataWords, hrange]
  simp only [List.map_cons, List.map_nil, Nat.mul_zero, List.drop_zero, htake, dataWord_beBytes ha]

theorem wordsOf_three {a b c : Nat} (ha : a < 2 ^ 32) (hb : b < 2 ^ 32) (hc : c < 2 ^ 32) :
    wordsOf (beBytes 4 a ++ beBytes 4 b ++ beBytes 4 c) = [a, b, c] := by
  have hlen : (beBytes 4 a ++ beBytes 4 b ++ beBytes 4 c).length / 4 = 3 := by
    simp only [List.length_append, beBytes_length]
  have hrange : List.range 3 = [0, 1, 2] := rfl
  have h0 : ((beBytes 4 a ++ beBytes 4 b ++ beBytes 4 c).drop (4 * 0)).take 4 = beBytes 4 a := by
    rw [Nat.mul_zero, List.drop_zero, List.append_assoc]
    exact List.take_left' (beBytes_length 4 a)
  have h1 : ((beBytes 4 a ++ beBytes 4 b ++ beBytes 4 c).drop (4 * 1)).take 4 = beBytes 4 b := by
    rw [List.append_assoc, List.drop_left' (beBytes_length 4 a)]
    exact List.take_left' (beBytes_length 4 b)
  have h2 : ((beBytes 4 a ++ beBytes 4 b ++ beBytes 4 c).drop (4 * 2)).take 4 = beBytes 4 c := by
    rw [List.drop_left' (by rw [List.length_append, beBytes_length, beBytes_length])]
    exact List.take_of_length_le (Nat.le_of_eq (beBytes_length 4 c))
  rw [wordsOf, hlen, dataWords, hrange]
  simp only [List.map_cons, List.map_nil, h0, h1, h2, dataWord_beBytes ha, dataWord_beBytes hb, dataWord_beBytes hc]

/-! ## A WRITE of one field (R175) -/

/-- The fields that a write of `n` words from `lo` touches. -/
def touchedFields (r : Region) (lo n : Nat) : List (Nat × Field) :=
  (fieldsIn r lo n).filter (fun x => decide (lo < x.1 + x.2.size) && decide (x.1 < lo + n))

/-- R175: a write of the words of one field does what the field's own write does. -/
theorem writeRegion_single {r : Region} {lo : Nat} {ws : List Nat} {f : Field}
    (ht : touchedFields r lo ws.length = [(lo, f)]) (hsize : f.size = ws.length) (hcom : f.isCommand = true → ws.length ≤ 1) :
    writeRegion r lo ws s = writeField f ws s := by
  have hpart : ¬(([(lo, f)].any (fun x => decide (x.1 < lo) || decide (lo + ws.length < x.1 + x.2.size))) = true) := by
    simp [hsize]
  have hcommand : ¬(([(lo, f)].any (fun x => x.2.isCommand) && decide (1 < ws.length)) = true) := by
    simpa using hcom
  have hws : (ws.drop (lo - lo)).take f.size = ws := by
    rw [Nat.sub_self, List.drop_zero, hsize, List.take_length]
  unfold writeRegion
  dsimp only
  rw [show (fieldsIn r lo ws.length).filter (fun x => decide (lo < x.1 + x.2.size) && decide (x.1 < lo + ws.length)) =
    [(lo, f)] from ht, if_neg hpart, if_neg hcommand, writeFields, hws]
  rcases writeField f ws s with ⟨st, s1⟩
  cases st <;> rfl

/-- R36, R175: a WRITE of a region's fields is a write that the Manager check guards, as a command of its own is. -/
theorem spaceWrite_managed {address lo : Nat} {data : List Byte} {r : Region} {op : State → Status × State}
    (hr : regionAt address data.length = some (r, lo)) (ha : address % 4 = 0) (hl : data.length % 4 = 0)
    (hop : ∀ u, writeRegion r lo (wordsOf data) u = op u) (hpost : ∀ st, postOf r lo (wordsOf data) st = .none) :
    spaceWrite who address data s = managed who op s := by
  have hif : ¬(address % 4 ≠ 0 ∨ data.length % 4 ≠ 0) := by omega
  have hw : writeRegion r lo (wordsOf data) = op := funext hop
  have hp : postOf r lo (wordsOf data) = fun _ => .none := funext hpost
  simp only [spaceWrite, managed, managerCommand, serveController, hr, if_neg hif, ne_eq, not_true_eq_false, if_false, hw, hp]

theorem postOf_other {r : Region} {lo : Nat} (h : r ≠ .identity) (ws : List Nat) (st : Status) : postOf r lo ws st = .none :=
  if_neg fun hc => h hc.1

/-- A write of the Manager's leaves a settled state settled where its rule does. -/
theorem settled_managed {op : State → Status × State} (hs : s.settled) (hop : (op s.wrote).2.settled) :
    (managed who op s).settled := by
  have hserved {x : Served} (hx : x.state.settled) (hp : x.post = .none) :
      ((completeServed false who x).getD s).settled := by
    unfold completeServed
    rw [hp]
    cases hsend : sendCompletion false who x.status x.data x.state with
    | none => exact hs
    | some t => exact (answering_sendCompletion hsend).settled hx
  unfold managed managerCommand serveNumbered
  split
  · unfold serveWrite
    split
    · exact hserved hop rfl
    · exact hserved (x := serveDenied s) hs rfl
  · exact hserved hs rfl

/-- R175: a write of one field of controller space does what the field's own command does. -/
theorem controllerWrite_eq {address lo : Nat} {data : List Byte} {r : Region} {op : State → Status × State}
    (hs : s.settled) (hr : regionAt address data.length = some (r, lo)) (ha : address % 4 = 0) (hl : data.length % 4 = 0)
    (hop : ∀ u, writeRegion r lo (wordsOf data) u = op u) (hid : r ≠ .identity) (hset : (op s.wrote).2.settled) :
    exec (.controllerWrite who address data) s = .next (managed who op s) := by
  refine congrArg Host.Outcome.next ?_
  rw [spaceWrite_managed hr ha hl hop (postOf_other hid _), finish_settled (settled_managed hs hset)]

theorem settingsRegion : regionAt 0x164018 12 = some (.ott, 4102) := by decide

theorem settingsField : touchedFields .ott 4102 3 = [(4102, .transSettings)] := by decide

theorem clearRegion : regionAt 0x0C0074 4 = some (.events, 29) := by decide

theorem clearField : touchedFields .events 29 1 = [(29, .clearSet)] := by decide

theorem commandRegion : ∀ c : Fin 4, regionAt (0x1C0018 + 128 * c.val) 4 = some (.channels, 32 * c.val + 6) := by decide

theorem commandField : ∀ c : Fin 4, touchedFields .channels (32 * c.val + 6) 1 = [(32 * c.val + 6, .channelCommand c.val)] := by
  decide

theorem settled_writeTransSettings (hs : s.settled) (w : TransSettings) : (writeTransSettings w s).2.settled := by
  unfold writeTransSettings
  split <;> exact hs

theorem settled_startCommand (hs : s.settled) (c : Nat) : (startCommand c s).2.settled := by
  unfold startCommand
  dsimp only
  split <;> exact hs

/-! ## Accesses of requests from the cables (R150, R161, R175) -/

/-- R41, R161: a request to this frame's CONTROLLER is served by the access check. -/
theorem examineRequest_controller {q : PortId} {r : Request} (hh : r.hop ≠ 0) (hd : r.dest ≠ nextCode)
    (hr : s.routeTo r.dest = some .here) (ht : r.target = controllerTarget) : examineRequest q r s =
      completeServed false r.who (serveController r.who r.op r.address r.length r.data s) := by
  have hserve : s.requestFate (some q) r = .serve := by rw [requestFate_dest hh hd, hr]
  have hdir : (Via.port q == Via.here) = false := by cases q <;> rfl
  simp only [examineRequest, hserve, targetSide, if_pos ht, hdir]

theorem completeServed_none {x : Served} (hp : x.post = .none) (direct : Bool) :
    completeServed direct who x = sendCompletion direct who x.status x.data x.state := by
  rw [completeServed, hp]
  cases sendCompletion direct who x.status x.data x.state <;> rfl

/-- R175: an access that is no read or write in form, or lies in no region. -/
theorem serveController_bad {op : Op} {address length : Nat} {data : List Byte} (h : regionAt address length = none ∨
      address % 4 ≠ 0 ∨ length % 4 ≠ 0 ∨ op = .readLock ∨ op = .writeUnlock ∨ op = .assign ∨ (∃ k, op = .undefined k)) :
    serveController who op address length data s = serveBad s := by
  unfold serveController
  split
  · rfl
  · next r lo hr =>
    split
    · rfl
    · next hmis =>
      have hop : op = .readLock ∨ op = .writeUnlock ∨ op = .assign ∨ (∃ k, op = .undefined k) := by
        rcases h with h | h | h | h
        · rw [hr] at h; cases h
        · exact absurd (.inl h) hmis
        · exact absurd (.inr h) hmis
        · exact h
      rcases hop with rfl | rfl | rfl | ⟨k, rfl⟩ <;> rfl

theorem serveController_read {address length lo : Nat} {g : Region} {data : List Byte} (hr : regionAt address length = some (g, lo))
    (ha : address % 4 = 0) (hl : length % 4 = 0) : serveController who .read address length data s =
      ⟨.ok, s.readWords g lo (length / 4), s.updMgmt (fun m => { m with reads := bump m.reads }), .none⟩ := by
  have hif : ¬(address % 4 ≠ 0 ∨ length % 4 ≠ 0) := by omega
  simp only [serveController, hr, if_neg hif]

end Sys2Proof.Machine
end

section
/-! SUPPORT. Frame numbers and resets (R36 to R40, R181), and the statement about them and controller space (O60). -/

namespace Sys2Proof.Machine

variable {s t u : State} {who : Requester}

/-! ## Completions leave the Manager alone (R151) -/

theorem channelAnswer_manager (c tag : Nat) (st : Status) (d : List Byte) (s : State) :
    (channelAnswer c tag st d s).mgmt.manager = s.mgmt.manager := by
  unfold channelAnswer chunkWritten
  dsimp only
  split
  · rfl
  · split
    · rfl
    · split
      · split <;> rfl
      · rfl

theorem noticeAnswer_manager (tag : Nat) (st : Status) (s : State) : (noticeAnswer tag st s).mgmt.manager = s.mgmt.manager := by
  have hsettle : ∀ k n (v : State), (settleNotice k n v).mgmt.manager = v.mgmt.manager := fun k n v => by
    unfold settleNotice
    dsimp only
    split <;> rfl
  have hupd : (s.updMgmt (fun m => if st = .ok then { m with inFlight := none, noticesSent := bump m.noticesSent }
      else { m with inFlight := none, noticesFailed := bump m.noticesFailed })).mgmt.manager = s.mgmt.manager := by
    show (if st = .ok then _ else _ : Mgmt).manager = _
    split <;> rfl
  unfold noticeAnswer
  split
  · rfl
  · split
    · rfl
    · dsimp only
      split
      · exact hupd
      · exact (hsettle _ _ _).trans hupd

theorem noteFreed_mgmt (s t : State) : (s.noteFreed t).mgmt = t.mgmt := by
  rcases noteFreed_cases s t with ⟨-, g, l, h⟩ | ⟨-, h⟩ <;> rw [h]
  rfl

theorem answerEntry_manager (i : Nat) (st : Status) (d : List Byte) (s : State) :
    (answerEntry i st d s).mgmt.manager = s.mgmt.manager := by
  unfold answerEntry
  split
  · rfl
  · dsimp only
    split
    · rw [noteFreed_mgmt, channelAnswer_manager]; rfl
    · split
      · rw [noteFreed_mgmt, noticeAnswer_manager]; rfl
      · rfl

theorem completionHere_manager (id tag : Nat) (st : Status) (d : List Byte) (s : State) :
    (completionHere id tag st d s).mgmt.manager = s.mgmt.manager := by
  unfold completionHere
  dsimp only
  split
  · rfl
  · split
    · rfl
    · split
      · rfl
      · split
        · rfl
        · exact answerEntry_manager _ _ _ _

theorem sendCompletion_manager {direct : Bool} {st : Status} {d : List Byte} (h : sendCompletion direct who st d s = some t) :
    t.mgmt.manager = s.mgmt.manager := by
  cases direct with
  | true => exact Option.some.inj h ▸ completionHere_manager _ _ _ _ s
  | false =>
    rcases sendCompletion_cases h with ⟨-, rfl⟩ | ⟨p, -, -, rfl⟩ | ⟨-, rfl⟩
    · exact completionHere_manager _ _ _ _ s
    · cases p <;> rfl
    · rfl

/-! ## HELLOs and ANNOUNCEs leave the transaction queues alone -/

/-- The transaction queues of both ports stand as they were. -/
def SameQueues (s t : State) : Prop :=
  ∀ p, (t.port p).qRequest = (s.port p).qRequest ∧ (t.port p).qCompletion = (s.port p).qCompletion

theorem SameQueues.updPort {f : Port → Port} (h : SameQueues s t)
    (hf : ∀ r : Port, (f r).qRequest = r.qRequest ∧ (f r).qCompletion = r.qCompletion) (p : PortId) :
    SameQueues s (t.updPort p f) := fun q => by
  rw [State.port_updPort]
  split
  · rw [(hf _).1, (hf _).2]
    exact h q
  · exact h q

theorem SameQueues.foldl {g : State → PortId → State} (hg : ∀ u p, SameQueues s u → SameQueues s (g u p)) (l : List PortId)
    (h : SameQueues s t) : SameQueues s (l.foldl g t) := by
  induction l generalizing t with
  | nil => exact h
  | cons p l ih => exact ih (hg t p h)

theorem SameQueues.sendHello (h : SameQueues s t) (p : PortId) : SameQueues s (sendHello t p) := by
  refine h.updPort (fun r => ?_) p
  split
  · dsimp only
    split
    · exact ⟨rfl, rfl⟩
    · split <;> exact ⟨rfl, rfl⟩
  · exact ⟨rfl, rfl⟩

theorem SameQueues.helloUpPorts (h : SameQueues s t) : SameQueues s (helloUpPorts t) :=
  SameQueues.foldl (fun u p hu => by
    split
    · exact hu.sendHello p
    · exact hu) _ h

theorem SameQueues.announceExcept (h : SameQueues s t) (x : Option PortId) (a : Announce) :
    SameQueues s (announceExcept x a t) :=
  SameQueues.foldl (fun u p hu => by
    split
    · refine hu.updPort (fun r => ?_) p
      rcases r.offerLink_cases (.announce a) with ⟨-, h⟩ | ⟨-, h⟩ <;> rw [h] <;> exact ⟨rfl, rfl⟩
    · exact hu) _ h

theorem SameQueues.sendAnnounce (h : SameQueues s t) : SameQueues s (sendAnnounce t) := by
  unfold Machine.sendAnnounce
  split
  · exact h.announceExcept _ _
  · exact h

theorem sameQueues_refl (s : State) : SameQueues s s := fun _ => ⟨rfl, rfl⟩

theorem settled_withPorts (hs : s.settled) : (s.withPorts t).settled := hs

/-! ## An ASSIGN taken (R36, R39) -/

/-- R39: the state in which the completion of an ASSIGN is offered. -/
def State.numbered (s : State) (f : Nat) (who : Requester) : State :=
  (s.updTopo (fun t => { t with
    frameNumber := some f, directory := tput t.directory f ⟨.here, 0, s.unitId⟩
    assignsTaken := bump t.assignsTaken })).updMgmt (fun m => { m with manager := some (who.frame, who.id) })

theorem routeTo_numbered {f : Nat} (hn : s.topo.frameNumber = none) (hf : who.frame ≠ f) :
    (s.numbered f who).routeTo who.frame = s.routeTo who.frame := by
  have h1 : ¬(s.numbered f who).topo.frameNumber = some who.frame := fun h => hf (Option.some.inj h).symm
  have h2 : ¬s.topo.frameNumber = some who.frame := by rw [hn]; exact fun h => by cases h
  have h3 : tfind (s.numbered f who).topo.directory who.frame = tfind s.topo.directory who.frame := tfind_tput_other _ _ hf
  unfold State.routeTo
  rw [if_neg h1, if_neg h2, h3]
  rfl

/-- R36: an ASSIGN in form, to an unnumbered frame that it names or that it names none. -/
theorem requestFate_assign {q : PortId} {hop branch : Nat} {expected : Option Nat} {data : List Byte}
    (hn : s.topo.frameNumber = none) (hh : hop ≠ 0) (he : expected = none ∨ expected = some s.unitId) (hl : data.length = 4)
    (h1 : 1 ≤ beNat data) (h31 : beNat data ≤ 31) (hfree : tfind s.topo.directory (beNat data) = none) :
    s.requestFate (some q) (assignRequest who hop ⟨expected, branch⟩ data) = .takeNumber := by
  have hcheck : nextCheck (assignRequest who hop ⟨expected, branch⟩ data) s = none := by
    have hbad : ¬(data.length ≠ 4 ∨ data.length ≠ 4 ∨ beNat data < 1 ∨ 31 < beNat data) := by omega
    simp only [nextCheck, assignRequest, ne_eq, not_true_eq_false, if_false, hfree, Option.isSome_none, Bool.false_eq_true]
    rw [if_neg hbad]
  have hmine : expected.getD s.unitId = s.unitId := by rcases he with rfl | rfl <;> rfl
  rw [requestFate_next hh rfl, State.nextFate, hcheck]
  simp only [hn, Option.isSome_none, Bool.false_eq_true, if_false]
  rw [if_neg (by simp [assignRequest])]
  exact if_pos hmine

theorem overtakes_of_queues (hq : ∀ p, (t.port p).qRequest = (s.port p).qRequest)
    (hc : ∀ p, (t.port p).qCompletion = (s.port p).qCompletion ∨ s.completionWaiting p = false) : s.overtakes t = false := by
  refine Bool.eq_false_iff.2 fun hov => ?_
  obtain ⟨p, -, hp⟩ := List.any_eq_true.1 hov
  rw [hq p, Bool.or_eq_true, Bool.and_eq_true, Bool.and_eq_true, decide_eq_true_iff, decide_eq_true_iff] at hp
  rcases hp with ⟨hlt, -⟩ | ⟨hlt, hw⟩
  · exact absurd hlt (Nat.lt_irrefl _)
  · rcases hc p with h | h
    · rw [h] at hlt
      exact absurd hlt (Nat.lt_irrefl _)
    · rw [h] at hw
      cases hw

/-- R39: an ASSIGN that is taken: its completion goes at once, and HELLOs and an ANNOUNCE follow. -/
theorem takeNumber_taken {r : Request} (hn : s.topo.frameNumber = none) (hf : r.who.frame ≠ beNat r.data)
    (hhere : s.routeTo r.who.frame ≠ some .here) (ht : s.takes r.who.frame = true) :
    ∃ t, takeNumber r s = some t ∧ s.overtakes t = false ∧ t.topo = (s.numbered (beNat r.data) r.who).topo ∧
      t.mgmt = (s.numbered (beNat r.data) r.who).mgmt ∧ t.trans.ott = s.trans.ott ∧ t.slots = s.slots := by
  obtain ⟨hacc, hwait⟩ := State.takes_iff.1 ht
  obtain ⟨v, hv⟩ : ∃ v, v = s.numbered (beNat r.data) r.who := ⟨_, rfl⟩
  have hroute : v.routeTo r.who.frame = s.routeTo r.who.frame := by rw [hv]; exact routeTo_numbered hn hf
  have hport (p : PortId) : v.port p = s.port p := by rw [hv]; cases p <;> rfl
  have hacc' : v.accepts r.who.frame = true :=
    (accepts_congr _ hroute (fun p => by rw [State.isUp, State.isUp, hport]) fun p => by rw [hport]).trans hacc
  obtain ⟨w, hw⟩ := Option.isSome_iff_exists.1 ((sendCompletion_isSome (s := v) r.who .ok []).trans hacc')
  have hsent : w.topo = v.topo ∧ w.mgmt = v.mgmt ∧ w.trans.ott = v.trans.ott ∧ w.slots = v.slots ∧
      (∀ p, (w.port p).qRequest = (v.port p).qRequest) ∧
      ∀ p, (w.port p).qCompletion = (v.port p).qCompletion ∨ s.completionWaiting p = false := by
    rcases sendCompletion_cases hw with ⟨hr, -⟩ | ⟨p, hr, -, rfl⟩ | ⟨-, rfl⟩
    · rw [hroute] at hr
      exact absurd hr hhere
    · rw [hroute] at hr
      refine ⟨by cases p <;> rfl, by cases p <;> rfl, by cases p <;> rfl, by cases p <;> rfl,
        fun q => by cases p <;> cases q <;> rfl, fun q => ?_⟩
      by_cases hq : q = p
      · exact .inr (hwait q (hq ▸ hr))
      · rw [State.port_updPort, if_neg hq]
        exact .inl rfl
    · exact ⟨rfl, rfl, rfl, rfl, fun p => by cases p <;> rfl, fun p => .inl (by cases p <;> rfl)⟩
  obtain ⟨h1, h2, h3, h4, h5, h6⟩ := hsent
  have hrun : takeNumber r s = some (sendAnnounce (helloUpPorts w)) := by
    have h : takeNumber r s = (sendCompletion false r.who .ok [] v).map (fun s3 => sendAnnounce (helloUpPorts s3)) := by
      rw [hv]; rfl
    rw [h, hw]
    rfl
  have hqueues : SameQueues w (sendAnnounce (helloUpPorts w)) := (sameQueues_refl w).helloUpPorts.sendAnnounce
  obtain ⟨x, hx⟩ : ∃ x, sendAnnounce (helloUpPorts w) = w.withPorts x :=
    ⟨sendAnnounce (helloUpPorts w), by rw [sendAnnounce_withPorts, helloUpPorts_withPorts w]; rfl⟩
  refine ⟨_, hrun, overtakes_of_queues (fun p => ?_) (fun p => ?_), ?_⟩
  · rw [(hqueues p).1, h5, hport]
  · rw [(hqueues p).2, ← hport]
    exact h6 p
  · rw [hx, ← hv]
    exact ⟨h1, h2, h3.trans (by rw [hv]; rfl), h4.trans (by rw [hv]; rfl)⟩

/-! ## The release of the number (R40) -/

theorem releaseAct_frame (s : State) : releaseAct s = ({ s with topo := { s.topo with
    frameNumber := none, directory := s.topo.directory.filter (fun e => e.2.via ≠ .here) } } : State).withPorts (releaseAct s) := by
  have hf : s.topo.directory.filter (fun e => e.2.via != .here) = s.topo.directory.filter (fun e => decide (e.2.via ≠ .here)) :=
    List.filter_congr fun x _ => by by_cases hx : x.2.via = .here <;> simp [hx]
  have h : releaseAct s = announceExcept none ⟨unnumberedCode, 1, s.unitId⟩ (helloUpPorts
      (s.updTopo (fun t => { t with frameNumber := none, directory := t.directory.filter (fun e => e.2.via != .here) }))) := rfl
  rw [h, announceExcept_withPorts, helloUpPorts_withPorts, ← hf]
  rfl

theorem sameQueues_releaseAct (s : State) : SameQueues s (releaseAct s) := by
  have h : SameQueues s (s.updTopo (fun t => { t with
      frameNumber := none, directory := t.directory.filter (fun e => e.2.via != .here) })) := fun p => by
    cases p <;> exact ⟨rfl, rfl⟩
  exact h.helloUpPorts.announceExcept _ _

end Sys2Proof.Machine
end

section
/-! SUPPORT. The controller reset of every unit (R181), and the statement about frame numbers, resets and controller
space (O60). -/

namespace Sys2Proof.Machine

variable {s t u : State} {who : Requester}

/-! ## Tables changed throughout -/

theorem mem_tmap {α : Type} [DecidableEq α] {d : α} {f : α → α} {l : List (Nat × α)} {x : Nat × α} (h : x ∈ tmap d f l) :
    ∃ v, x.2 = f v := by
  obtain ⟨y, -, rfl⟩ := List.mem_map.1 (List.mem_filter.1 h).1
  exact ⟨y.2, rfl⟩

/-- What every changed value has, and the default has, every key reads. -/
theorem tgetD_tmap {α : Type} [DecidableEq α] {P : α → Prop} {d : α} {f : α → α} (hf : ∀ v, P (f v)) (hd : P d)
    (l : List (Nat × α)) (k : Nat) : P (tgetD d (tmap d f l) k) := by
  unfold tgetD
  cases h : tfind (tmap d f l) k with
  | none => exact hd
  | some v =>
    obtain ⟨w, hw⟩ := mem_tmap (mem_of_tfind h)
    rw [Option.getD_some, show v = f w from hw]
    exact hf w

theorem channel_reset (l : List (Nat × Channel)) (k : Nat) :
    (tgetD {} (tmap {} resetChannel l) k).state = .idle ∧ (tgetD {} (tmap {} resetChannel l) k).inFlight = [] :=
  tgetD_tmap (P := fun r : Channel => r.state = .idle ∧ r.inFlight = []) (fun _ => ⟨rfl, rfl⟩) ⟨rfl, rfl⟩ l k

/-! ## Entries aborted (R147) -/

/-- Neither a channel nor the notice engine awaits an answer. -/
def NoneInFlight (s : State) : Prop := (∀ c, (s.channel c).inFlight = []) ∧ s.mgmt.inFlight = none

/-- From `s` to `t` the management record stands, and still nothing awaits an answer. -/
def Quiet (s t : State) : Prop := t.mgmt = s.mgmt ∧ NoneInFlight t

theorem quiet_of_channels (hs : NoneInFlight s) (hm : t.mgmt = s.mgmt) (hc : t.channels = s.channels) : Quiet s t := by
  refine ⟨hm, fun c => ?_, by rw [hm]; exact hs.2⟩
  rw [State.channel, hc]
  exact hs.1 c

theorem quiet_channelAnswer {c tag : Nat} {st : Status} {d : List Byte} (hs : NoneInFlight s) :
    Quiet s (channelAnswer c tag st d s) := by
  have hnone : (s.channel c).inFlight.find? (fun i => i.tag == tag && i.stage != .held) = none := by rw [hs.1 c]; rfl
  have hrun : channelAnswer c tag st d s =
      s.setChannel c { s.channel c with discardedAnswers := bump (s.channel c).discardedAnswers } := by
    simp only [channelAnswer, hnone]
  rw [hrun]
  refine ⟨rfl, fun k => ?_, hs.2⟩
  show (tgetD {} (tset {} s.channels c { s.channel c with discardedAnswers := bump (s.channel c).discardedAnswers }) k).inFlight = []
  by_cases hk : k = c
  · rw [hk, tgetD_tset_same]
    exact hs.1 c
  · rw [tgetD_tset_other (α := Channel) {} s.channels _ hk]
    exact hs.1 k

theorem quiet_noteFreed (h : Quiet s t) : Quiet s (u.noteFreed t) := by
  rcases noteFreed_cases u t with ⟨-, g, l, he⟩ | ⟨-, he⟩ <;> rw [he]
  · exact h
  · exact h

theorem quiet_answerEntry {i : Nat} {st : Status} {d : List Byte} (hs : NoneInFlight s) : Quiet s (answerEntry i st d s) := by
  unfold answerEntry
  split
  · exact ⟨rfl, hs⟩
  · dsimp only
    have hdel : NoneInFlight (s.delOtt i) := hs
    split
    · exact quiet_noteFreed (quiet_channelAnswer hdel)
    · split
      · refine quiet_noteFreed ?_
        have hnone : (s.delOtt i).mgmt.inFlight = none := hs.2
        simp only [noticeAnswer, hnone]
        exact ⟨rfl, hdel⟩
      · exact quiet_of_channels hs rfl rfl

/-- R147: an index at which no entry is left unanswered. -/
def AnsweredAt (s : State) (k : Nat) : Prop := ∀ e, s.ottEntry k = some e → e.state = .answered

theorem noteFreed_ott (s t : State) : (s.noteFreed t).trans.ott = t.trans.ott := by
  rcases noteFreed_cases s t with ⟨-, g, l, h⟩ | ⟨-, h⟩ <;> rw [h]
  rfl

/-- R156: the table once an entry is answered: the entry has gone, or is a slot's and ANSWERED. -/
theorem answerEntry_ott {i : Nat} {e : OttEntry} (st : Status) (d : List Byte) (he : s.ottEntry i = some e) :
    (answerEntry i st d s).trans.ott = tdel s.trans.ott i ∨
    ∃ e', e'.state = .answered ∧ (answerEntry i st d s).trans.ott = tput s.trans.ott i e' := by
  simp only [answerEntry, he]
  split
  · left
    rw [noteFreed_ott, channelAnswer_trans]
    rfl
  · split
    · left
      rw [noteFreed_ott, noticeAnswer_trans]
      rfl
    · exact .inr ⟨_, rfl, rfl⟩

theorem abortEntry_other {i k : Nat} (hk : k ≠ i) (s : State) : (abortEntry s i).ottEntry k = s.ottEntry k := by
  unfold abortEntry
  split
  · next e he =>
    split
    · rfl
    · rcases answerEntry_ott .aborted [] he with h | ⟨e', -, h⟩
      · rw [State.ottEntry, h]; exact tfind_tdel_other _ hk
      · rw [State.ottEntry, h]; exact tfind_tput_other _ _ hk
  · rfl

theorem abortEntry_same (i : Nat) (s : State) : AnsweredAt (abortEntry s i) i := by
  unfold abortEntry
  split
  · next e he =>
    split
    · next hst =>
      intro e' he'
      rw [he] at he'
      exact Option.some.inj he' ▸ hst
    · rcases answerEntry_ott .aborted [] he with h | ⟨e', hst, h⟩
      · intro x hx
        rw [State.ottEntry, h, tfind_tdel_same] at hx
        cases hx
      · intro x hx
        rw [State.ottEntry, h, tfind_tput_same] at hx
        exact Option.some.inj hx ▸ hst
  · next he =>
    intro x hx
    rw [he] at hx
    cases hx

theorem AnsweredAt.abortEntry {k : Nat} (h : AnsweredAt s k) (i : Nat) : AnsweredAt (abortEntry s i) k := by
  by_cases hk : k = i
  · exact hk ▸ abortEntry_same i s
  · intro e he
    rw [abortEntry_other hk] at he
    exact h e he

theorem answering_abortEntry (s : State) (i : Nat) : Answering s (abortEntry s i) := by
  unfold abortEntry
  split
  · split
    · exact .refl s
    · exact answering_answerEntry _ _ _ _
  · exact .refl s

theorem quiet_abortEntry (hs : NoneInFlight s) (i : Nat) : Quiet s (abortEntry s i) := by
  unfold abortEntry
  split
  · split
    · exact ⟨rfl, hs⟩
    · exact quiet_answerEntry hs
  · exact ⟨rfl, hs⟩

/-- R147: the entries of some indices aborted. -/
theorem abortAll (l : List Nat) (hs : NoneInFlight s) : Answering s (l.foldl abortEntry s) ∧ Quiet s (l.foldl abortEntry s) ∧
    ∀ k, (k ∈ l ∨ AnsweredAt s k) → AnsweredAt (l.foldl abortEntry s) k := by
  induction l generalizing s with
  | nil => exact ⟨.refl s, ⟨rfl, hs⟩, fun k h => h.resolve_left List.not_mem_nil⟩
  | cons i l ih =>
    obtain ⟨hm, hq⟩ := quiet_abortEntry hs i
    obtain ⟨ha, hquiet, hdone⟩ := ih hq
    refine ⟨(answering_abortEntry s i).trans ha, ⟨hquiet.1.trans hm, hquiet.2⟩, fun k hk => hdone k ?_⟩
    rcases hk with hk | hk
    · rcases List.mem_cons.1 hk with rfl | hk
      · exact .inr (abortEntry_same k s)
      · exact .inl hk
    · exact .inr (hk.abortEntry i)

/-! ## Inbound entries aborted (R160) -/

/-- R152: where every entry has its answer, a completion here is late. -/
theorem completionHere_answered {id tag : Nat} {st : Status} {d : List Byte} (hs : ∀ k, k < 32 → AnsweredAt s k) :
    completionHere id tag st d s = s.updTrans (fun x => { x with lateCompletions := bump x.lateCompletions }) := by
  cases hf : s.findOtt id tag with
  | none => exact completionHere_late (.inl hf)
  | some k =>
    have hlt : k < 32 := List.mem_range.1 (List.mem_of_find?_eq_some hf)
    cases he : s.ottEntry k with
    | none => simp only [completionHere, hf, he]
    | some e => exact completionHere_late (.inr ⟨k, e, hf, he, hs k hlt e he⟩)

theorem sendCompletion_answered {direct : Bool} {st : Status} {d : List Byte} (hs : ∀ k, k < 32 → AnsweredAt s k)
    (h : sendCompletion direct who st d s = some t) : t.trans.ott = s.trans.ott ∧ t.mgmt = s.mgmt := by
  cases direct with
  | true =>
    have h' := Option.some.inj h
    rw [completionHere_answered hs] at h'
    rw [← h']
    exact ⟨rfl, rfl⟩
  | false =>
    rcases sendCompletion_cases h with ⟨-, rfl⟩ | ⟨p, -, -, rfl⟩ | ⟨-, rfl⟩
    · rw [completionHere_answered hs]
      exact ⟨rfl, rfl⟩
    · cases p <;> exact ⟨rfl, rfl⟩
    · exact ⟨rfl, rfl⟩

theorem answerInbound_answered {h : Nat} {st : Status} {d : List Byte} (hs : ∀ k, k < 32 → AnsweredAt s k) :
    (answerInbound h st d s).trans.ott = s.trans.ott ∧ (answerInbound h st d s).mgmt = s.mgmt := by
  cases he : s.inEntry h with
  | none => rw [answerInbound_none he]; exact ⟨rfl, rfl⟩
  | some e =>
    have hw : (s.withAnswer h e st d).trans.ott = s.trans.ott ∧ (s.withAnswer h e st d).mgmt = s.mgmt := by
      obtain ⟨l, n, hw⟩ := withAnswer_frame h e st d s
      rw [hw]
      exact ⟨rfl, rfl⟩
    rcases answerInbound_cases st d he with hc | ⟨t, hsend, hc⟩ <;> rw [hc]
    · exact hw
    · have hdone : ∀ k, k < 32 → AnsweredAt (s.withAnswer h e st d) k := fun k hk x hx => by
        rw [State.ottEntry, hw.1] at hx
        exact hs k hk x hx
      obtain ⟨ho, hm⟩ := sendCompletion_answered hdone hsend
      exact ⟨ho.trans hw.1, hm.trans hw.2⟩

theorem answerAll_answered (st : Status) (l : List Nat) (hs : ∀ k, k < 32 → AnsweredAt s k) :
    (answerAll st l s).trans.ott = s.trans.ott ∧ (answerAll st l s).mgmt = s.mgmt := by
  induction l generalizing s with
  | nil => exact ⟨rfl, rfl⟩
  | cons h l ih =>
    obtain ⟨ho, hm⟩ := answerInbound_answered (h := h) (st := st) (d := []) hs
    obtain ⟨ho', hm'⟩ := ih (s := answerInbound h st [] s) fun k hk x hx => by
      rw [State.ottEntry, ho] at hx
      exact hs k hk x hx
    exact ⟨ho'.trans ho, hm'.trans hm⟩

/-! ## The Transaction Unit (R145, R147, R160, R163) -/

/-- R181: the Transaction Unit's reset answers what awaits an answer, and leaves the management record alone. -/
theorem resetTrans_spec (hs : NoneInFlight s) : Answering s (resetTrans s) ∧ (resetTrans s).mgmt = s.mgmt ∧
    (∀ k, k < 32 → AnsweredAt (resetTrans s) k) ∧ ∀ k, (resetTrans s).lock k = {} := by
  obtain ⟨v, hv⟩ : ∃ v, v = s.updTrans (fun t => { t with lastTaken := none }) := ⟨_, rfl⟩
  have hvs : Answering s v := by rw [hv]; exact .ofTrans fun _ hx => hx
  have hvm : v.mgmt = s.mgmt := by rw [hv]; rfl
  have hvf : NoneInFlight v := by rw [hv]; exact hs
  obtain ⟨ha, hq, hdone⟩ := abortAll (List.range 32) hvf
  obtain ⟨w, hw⟩ : ∃ w, w = (List.range 32).foldl abortEntry v := ⟨_, rfl⟩
  rw [← hw] at ha hq hdone
  have hall : ∀ k, k < 32 → AnsweredAt w k := fun k hk => hdone k (.inl (List.mem_range.2 hk))
  obtain ⟨ho, hm⟩ := answerAll_answered .aborted w.openHandles hall
  have hans := answering_answerAll .aborted w.openHandles w
  obtain ⟨x, hx⟩ : ∃ x, x = answerAll .aborted w.openHandles w := ⟨_, rfl⟩
  rw [← hx] at ho hm hans
  have hrun : resetTrans s = x.updTrans (fun t =>
      { ott := t.ott, inbound := t.inbound, windows := tmap {} (fun w => { w with enabled := false }) t.windows
        granted := t.granted, lastTaken := t.lastTaken }) := by
    rw [hx, hw, hv]; rfl
  rw [hrun]
  refine ⟨((hvs.trans ha).trans hans).trans (.ofTrans fun _ hx => hx), hm.trans (hq.1.trans hvm), fun k hk e he => ?_, fun k => rfl⟩
  have he' : w.ottEntry k = some e := by
    rw [State.ottEntry, ← ho]
    exact he
  exact hall k hk e he'

/-! ## The slots (R76, R100, R117) -/

/-- R181: what a controller reset makes of a slot. -/
structure SlotReset (r r' : Slot) : Prop where
  auto : r'.auto = true
  counters : r'.counters = {}
  delivery : r'.delivery = []
  sections : ∀ x, .sectionMsg x ∉ r'.committed.tail
  credits : r.state ≠ .inserted → r'.available = r.available ∧ r'.advertised = r.advertised
  drain : r'.drain = r.drain

theorem resetSlotRecord_frame (r : Slot) : ∃ c, resetSlotRecord r = { r with
    auto := true, powerTimeout := 200, drainLimit := 50, attention := false, counters := {}
    delivery := [], segmentsSent := 0, parcelsSent := 0, immediateDrops := 0, strayBursts := 0, committed := c } ∧
    ∀ x, .sectionMsg x ∉ c.tail := by
  obtain ⟨r0, hr0⟩ : ∃ r0 : Slot, r0 = { r with
    auto := true, powerTimeout := 200, drainLimit := 50, attention := false, counters := {}
    delivery := [], segmentsSent := 0, parcelsSent := 0, immediateDrops := 0, strayBursts := 0 } := ⟨_, rfl⟩
  refine ⟨(r0.unsend isSection).committed, ?_, fun x hx => ?_⟩
  · have h : resetSlotRecord r = { r0.unsend isSection with available := r.available } := by rw [hr0]; rfl
    rw [h, unsend_frame, hr0]
  · rw [unsend_committed] at hx
    have hmem : LaneMsg.sectionMsg x ∈ r0.committed.tail.filter (fun m => !isSection m) := by
      cases hc : r0.committed with
      | nil => rw [hc] at hx; cases hx
      | cons m l => rw [hc] at hx; exact hx
    have := (List.mem_filter.1 hmem).2
    cases this

/-- R117, R120: one slot's reset. -/
theorem slotReset_step (s : State) (i : Nat) :
    SlotReset (s.slot i) ((powerInserted (s.updSlot i resetSlotRecord) i).slot i) := by
  obtain ⟨c, hc, hsec⟩ := resetSlotRecord_frame (s.slot i)
  have hslot : (s.updSlot i resetSlotRecord).slot i = resetSlotRecord (s.slot i) := by
    rw [State.slot_updSlot, if_pos rfl]
  unfold powerInserted
  dsimp only
  split
  · rw [enterPowering_eq, State.slot_setSlot_same, hslot, hc]
    next hst =>
    rw [hslot, hc] at hst
    exact ⟨rfl, rfl, rfl, fun x => List.not_mem_nil, fun h => absurd hst.1 h, rfl⟩
  · rw [hslot, hc]
    exact ⟨rfl, rfl, rfl, hsec, fun _ => ⟨rfl, rfl⟩, rfl⟩

theorem slotReset_other {i j : Nat} (hj : j ≠ i) (s : State) : (powerInserted (s.updSlot i resetSlotRecord) i).slot j = s.slot j := by
  unfold powerInserted
  dsimp only
  split
  · rw [enterPowering_eq, State.slot_setSlot, if_neg hj, State.slot_updSlot, if_neg hj]
  · rw [State.slot_updSlot, if_neg hj]

/-- The slots of a list, each changed once. -/
theorem slots_foldl {R : Slot → Slot → Prop} {g : State → Nat → State} (hsame : ∀ u i, R (u.slot i) ((g u i).slot i))
    (hother : ∀ u i j, j ≠ i → (g u i).slot j = u.slot j) {l : List Nat} (hl : l.Nodup) (s : State) :
    (∀ k ∈ l, R (s.slot k) ((l.foldl g s).slot k)) ∧ ∀ k, k ∉ l → (l.foldl g s).slot k = s.slot k := by
  induction l generalizing s with
  | nil => exact ⟨fun k hk => absurd hk List.not_mem_nil, fun _ _ => rfl⟩
  | cons i l ih =>
    obtain ⟨hi, hl'⟩ := List.nodup_cons.1 hl
    obtain ⟨hin, hout⟩ := ih hl' (g s i)
    refine ⟨fun k hk => ?_, fun k hk => ?_⟩
    · rcases List.mem_cons.1 hk with rfl | hk
      · rw [List.foldl_cons, hout k hi]
        exact hsame s k
      · have hne : k ≠ i := fun h => hi (h ▸ hk)
        rw [← hother s i k hne]
        exact hin k hk
    · rw [List.mem_cons, not_or] at hk
      exact (hout k hk.2).trans (hother s i k hk.1)

/-- R181: the reset of every slot. -/
def resetSlots (s : State) : State := (List.range 16).foldl (fun s i => powerInserted (s.updSlot i resetSlotRecord) i) s

theorem resetSlots_slots (s : State) : (∀ k, k < 16 → SlotReset (s.slot k) ((resetSlots s).slot k)) ∧
    ∀ k, 16 ≤ k → (resetSlots s).slot k = s.slot k := by
  obtain ⟨hin, hout⟩ := slots_foldl (R := SlotReset) slotReset_step (fun u i j hj => slotReset_other hj u) List.nodup_range s
  exact ⟨fun k hk => hin k (List.mem_range.2 hk), fun k hk => hout k fun h => absurd (List.mem_range.1 h) (Nat.not_lt.2 hk)⟩

theorem resetSlots_withSlots (s : State) : resetSlots s = s.withSlots (resetSlots s) := by
  refine foldl_withSlots (fun u i => ?_) _ s
  unfold powerInserted
  dsimp only
  split
  · rw [enterPowering_eq]; rfl
  · rfl

/-! ## The controller reset (R181) -/

theorem noneInFlight_resetUnits (s : State) : NoneInFlight (resetUnits s) := ⟨fun c => (channel_reset s.channels c).2, rfl⟩

/-- R181: the state before the slots' reset. -/
def State.unitsReset (s : State) : State :=
  { resetTrans (resetUnits s) with channels := tmap {} resetChannel (resetTrans (resetUnits s)).channels }

theorem controllerResetAct_eq (s : State) : controllerResetAct s = raise .wasReset (resetSlots s.unitsReset) := rfl

theorem unitsReset_answering (s : State) : ∃ v, Answering (resetUnits s) v ∧ v.mgmt = (resetUnits s).mgmt ∧
    (∀ k, k < 32 → AnsweredAt v k) ∧ (∀ k, v.lock k = {}) ∧
    s.unitsReset = { v with channels := tmap {} resetChannel v.channels } :=
  have h := resetTrans_spec (noneInFlight_resetUnits s)
  ⟨resetTrans (resetUnits s), h.1, h.2.1, h.2.2.1, h.2.2.2, rfl⟩

/-- R181: what a controller reset leaves in each unit. -/
structure ControllerReset (s t : State) : Prop where
  router : t.router = {}
  trig : t.trig = { originSeq := s.trig.originSeq }
  topo : t.topo = resetTopology s.topo
  rtu : t.rtu = resetRtu s.topo.root s.rtu
  pool : t.pool = s.pool
  ports : ∀ p, (t.port p).counters = {} ∧ (t.port p).rateRequest = .base
  channels : ∀ k, (t.channel k).state = .idle ∧ (t.channel k).inFlight = []
  entries : ∀ k, k < 32 → AnsweredAt t k
  locks : ∀ k, t.lock k = {}
  slots : ∀ k, k < 16 → SlotReset (s.slot k) (t.slot k)
  manager : t.mgmt.manager = s.mgmt.manager
  wasReset : (t.event EventKind.wasReset.code).pending = true
  events : ∀ k, k < 27 → t.event k = {}

theorem controllerReset_act (hs : s.settled) : ControllerReset s (controllerResetAct s) ∧ (controllerResetAct s).settled := by
  obtain ⟨v, hans, hm, hentry, hlock, hv⟩ := unitsReset_answering s
  obtain ⟨hslot, hrest⟩ := resetSlots_slots s.unitsReset
  obtain ⟨w, hw⟩ : ∃ w, w = resetSlots s.unitsReset := ⟨_, rfl⟩
  have hframe : w = s.unitsReset.withSlots w := by rw [hw]; exact resetSlots_withSlots _
  rw [← hw] at hslot hrest
  have hunits : ∀ k, s.unitsReset.slot k = s.slot k := fun k => by
    rw [hv]
    exact hans.slot k
  have hport (p : PortId) : w.port p = v.port p := by rw [hframe, hv]; cases p <;> rfl
  have hwm : w.mgmt = resetMgmt s.mgmt := by rw [hframe, hv]; exact hm
  have hott : w.trans = v.trans := by rw [hframe, hv]; rfl
  obtain ⟨a, b, tr, ch, m, n, hform⟩ := hans.units
  rw [controllerResetAct_eq, ← hw]
  refine ⟨?_, ?_⟩
  · exact
      { router := by rw [raise_router, hframe, hv, hform]; rfl
        trig := by rw [raise_trig, hframe, hv, hform]; rfl
        topo := by rw [raise_topo, hframe, hv, hform]; rfl
        rtu := by rw [raise_rtu, hframe, hv, hform]; rfl
        pool := by rw [raise_pool, hframe, hv, hform]; rfl
        ports := fun p => by
          obtain ⟨l, hl⟩ := hans.ports p
          have hp : (raise .wasReset w).port p = w.port p := by cases p <;> rfl
          rw [hp, hport, hl]
          cases p <;> exact ⟨rfl, rfl⟩
        channels := fun k => by
          have h : (raise .wasReset w).channel k = tgetD {} (tmap {} resetChannel v.channels) k := by
            rw [channel_raise, hframe, hv]; rfl
          rw [h]
          exact channel_reset _ k
        entries := fun k hk e he => by
          have h : (raise .wasReset w).ottEntry k = v.ottEntry k := by
            rw [State.ottEntry, raise_trans, hott]; rfl
          rw [h] at he
          exact hentry k hk e he
        locks := fun k => by
          have h : (raise .wasReset w).lock k = v.lock k := by
            rw [State.lock, raise_trans, hott]; rfl
          rw [h, hlock]
        slots := fun k hk => by
          have h := hslot k hk
          rw [hunits] at h
          exact h
        manager := by
          show w.mgmt.manager = _
          rw [hwm]
          rfl
        wasReset := pending_raise (.inr rfl)
        events := fun k hk => by
          have hne : k ≠ EventKind.wasReset.code := fun h => by
            rw [h] at hk; exact absurd hk (by decide)
          rw [raise_event, if_neg hne, State.event, hwm]
          rfl }
  · refine ⟨fun x hx => ?_, fun k => ?_⟩
    · rw [raise_trans, hott] at hx
      exact hans.routed hs.1 x hx
    · rw [raise_slot]
      by_cases hk : k < 16
      · rw [(hslot k hk).drain, hunits]
        exact hs.2 k
      · rw [hrest k (Nat.le_of_not_lt hk), hunits]
        exact hs.2 k

theorem settled_clearKinds (hs : s.settled) (set : BitVec 32) : (clearKinds set s).settled := by
  rw [clearKinds_frame]
  exact hs

/-! ## The statement -/

/-- Settles O60. -/
theorem numbersAndResetsAct : Obligations.NumbersAndResetsAct := by
  unfold Obligations.NumbersAndResetsAct
  intro s hs
  refine ⟨fun q who hop expected branch data f hup hroom hn hh he hl hf h1 h31 hfree hwf hhere ht => ?assign,
    fun who ho ha => ⟨fun hroot => ?refused, fun hroot => ?release, ?reset⟩,
    fun who ha => ⟨fun a b c ha hb hc => ?settings, fun kinds => ?clear, fun c => ?start, fun address data hnum hbad => ?bad⟩,
    fun q r g lo hup hroom hh hd hr hnum ht htakes => ⟨fun hop hreg h4 hl4 => ?read, fun hbad => ?badAccess⟩⟩
  case assign =>
    subst hf
    have hfate := requestFate_assign (who := who) (q := q) (branch := branch) hn hh he hl h1 h31 hfree
    obtain ⟨v, hv, hov, htopo, hmgmt, hott, hslots⟩ :=
      takeNumber_taken (r := assignRequest who hop ⟨expected, branch⟩ data) hn hwf hhere ht
    have hset : v.settled := ⟨fun x hx => hs.1 x (hott ▸ hx), fun k => by rw [State.slot, hslots]; exact hs.2 k⟩
    have hexam : examineRequest q (assignRequest who hop ⟨expected, branch⟩ data) s = some v := by
      simp only [examineRequest, hfate, hv]
    have hrun : exec (.assign q who hop ⟨expected, branch⟩ data) s = .next (v.updPort q (fun x => x.freeBuffer .request)) :=
      Arrives.taken (r := assignRequest who hop ⟨expected, branch⟩ data) ⟨hs, hup, hroom⟩ hexam hov hset
    have htopo' : (v.updPort q (fun x => x.freeBuffer .request)).topo = v.topo := by cases q <;> rfl
    have hmgmt' : (v.updPort q (fun x => x.freeBuffer .request)).mgmt = v.mgmt := by cases q <;> rfl
    refine ⟨_, hrun, ?_, ?_, ?_, ?_, ?_⟩
    · rw [htopo', htopo]; rfl
    · rw [htopo', htopo]
      exact tfind_tput_same _ _ _
    · rw [htopo', htopo]; rfl
    · rw [hmgmt', hmgmt]; rfl
    · rw [State.updPort_trans, hott]
  case refused =>
    obtain ⟨hf, hm⟩ : s.topo.frameNumber.isSome = true ∧ s.isManager who = true := by simpa [State.obeys] using ho
    obtain ⟨t, hans⟩ := Option.isSome_iff_exists.1
      ((sendCompletion_isSome (s := s.wrote) who .badRequest []).trans ((accepts_wrote s _).trans ha))
    have hop : controllerCommand 1 s.wrote = (.badRequest, s.wrote) := if_pos hroot
    refine ⟨t, congrArg Host.Outcome.next ?_, hans⟩
    rw [managerCommand_of_manager hf hm hop hans]
    exact finish_settled ((answering_sendCompletion hans).settled (s := s.wrote) hs)
  case release =>
    obtain ⟨hf, hm⟩ : s.topo.frameNumber.isSome = true ∧ s.isManager who = true := by simpa [State.obeys] using ho
    obtain ⟨t1, hans⟩ := Option.isSome_iff_exists.1
      ((sendCompletion_isSome (s := s.wrote) who .ok []).trans ((accepts_wrote s _).trans ha))
    have hop : controllerCommand 1 s.wrote = (.ok, s.wrote) := if_neg (by rw [show s.wrote.topo.root = false from hroot]; decide)
    have hset : t1.settled := (answering_sendCompletion hans).settled (s := s.wrote) hs
    obtain ⟨x, hx⟩ : ∃ x, releaseAct t1 = ({ t1 with topo := { t1.topo with
        frameNumber := none, directory := t1.topo.directory.filter (fun e => e.2.via ≠ .here) } } : State).withPorts x :=
      ⟨_, releaseAct_frame t1⟩
    have hrun : exec (.releaseNumber who) s = .next (releaseAct t1) := by
      refine congrArg Host.Outcome.next ?_
      rw [managerCommand_of_manager hf hm hop hans]
      refine finish_settled (s := releaseAct t1) ?_
      rw [hx]
      exact hset
    have htopo : t1.topo = s.topo := (answering_sendCompletion hans).topo
    refine ⟨t1, releaseAct t1, hrun, hans, fun p => (sameQueues_releaseAct t1 p).2, ?_, ?_, ?_, ?_⟩
    · rw [hx, ← htopo]; rfl
    · rw [hx]; exact (sendCompletion_manager (s := s.wrote) hans : t1.mgmt.manager = _)
    · obtain ⟨_, _, _, _, _, _, hform⟩ := (answering_sendCompletion hans).units
      rw [hx, hform]; rfl
    · rw [hx]; exact (answering_sendCompletion hans).slots
  case reset =>
    obtain ⟨hf, hm⟩ : s.topo.frameNumber.isSome = true ∧ s.isManager who = true := by simpa [State.obeys] using ho
    obtain ⟨t1, hans⟩ := Option.isSome_iff_exists.1
      ((sendCompletion_isSome (s := s.wrote) who .ok []).trans ((accepts_wrote s _).trans ha))
    have hop : controllerCommand 2 s.wrote = (.ok, s.wrote) := rfl
    have ha1 := answering_sendCompletion hans
    have hset : t1.settled := ha1.settled (s := s.wrote) hs
    obtain ⟨hreset, hsettled⟩ := controllerReset_act hset
    have hrun : exec (.controllerReset who) s = .next (controllerResetAct t1) := by
      refine congrArg Host.Outcome.next ?_
      rw [managerCommand_of_manager hf hm hop hans]
      exact finish_settled hsettled
    have hslot (k : Nat) : t1.slot k = s.slot k := ha1.slot k
    have hman : t1.mgmt.manager = s.mgmt.manager := sendCompletion_manager (s := s.wrote) hans
    have htopo : t1.topo = s.topo := ha1.topo
    obtain ⟨_, _, _, _, _, _, hform⟩ := ha1.units
    have hrtu : t1.rtu = s.rtu := by rw [hform]; rfl
    have hpool : t1.pool = s.pool := by rw [hform]; rfl
    have htrig : t1.trig = s.trig := by rw [hform]; rfl
    refine ⟨_, hrun, hreset.router, ?_, ?_, ?_, ?_, ?_, ?_, ?_, ?_, ?_, hreset.ports, hreset.channels,
      fun k e hk he => hreset.entries k hk e he, hreset.locks, fun k hk => ?_, ?_, hreset.wasReset, hreset.events⟩
    · rw [hreset.trig, htrig]
    · rw [hreset.topo, htopo]; rfl
    · rw [hreset.topo, htopo]; rfl
    · rw [hreset.topo]; rfl
    · rw [hreset.rtu, hrtu]; rfl
    · rw [hreset.rtu, hrtu]; rfl
    · rw [hreset.rtu, htopo]; rfl
    · rw [hreset.rtu]; rfl
    · rw [hreset.pool, hpool]
    · have h := hreset.slots k hk
      rw [hslot] at h
      exact ⟨h.auto, h.counters, h.delivery, h.sections, h.credits⟩
    · rw [hreset.manager, hman]
  case settings =>
    have hlen : (beBytes 4 a ++ beBytes 4 b ++ beBytes 4 c).length = 12 := by
      simp only [List.length_append, beBytes_length]
    have hwords := wordsOf_three ha hb hc
    refine ⟨_, controllerWrite_eq (op := writeTransSettings ⟨a, b, c⟩) hs (by rw [hlen]; exact settingsRegion) rfl
      (by rw [hlen]) (fun u => ?_) (by decide) (settled_writeTransSettings (s := s.wrote) hs _), rfl⟩
    rw [hwords, writeRegion_single (f := .transSettings) settingsField rfl (fun h => absurd h (by decide))]
    rfl
  case clear =>
    have hlen : (beBytes 4 kinds.toNat).length = 4 := beBytes_length 4 _
    have hwords := wordsOf_one kinds.isLt
    refine ⟨_, controllerWrite_eq (op := writeClear kinds) hs (by rw [hlen]; exact clearRegion) rfl
      (by rw [hlen]) (fun u => ?_) (by decide) (settled_clearKinds (s := s.wrote) hs kinds), rfl⟩
    rw [hwords, writeRegion_single (ws := [kinds.toNat]) (f := .clearSet) clearField rfl (fun _ => Nat.le_refl 1)]
    show writeClear (BitVec.ofNat 32 kinds.toNat) u = _
    rw [BitVec.ofNat_toNat, BitVec.setWidth_eq]
  case start =>
    have hlen : (beBytes 4 1).length = 4 := rfl
    have hwords := wordsOf_one (a := 1) (by decide)
    refine ⟨_, controllerWrite_eq (op := channelCommand c 1) hs (by rw [hlen]; exact commandRegion c) (by omega)
      (by rw [hlen]) (fun u => ?_) (by decide) (settled_startCommand (s := s.wrote) hs c), rfl⟩
    rw [hwords, writeRegion_single (ws := [1]) (f := .channelCommand c) (commandField c) rfl (fun _ => Nat.le_refl 1)]
    rfl
  case bad =>
    obtain ⟨t, hans⟩ := Option.isSome_iff_exists.1
      ((sendCompletion_isSome (s := s.updMgmt (fun m => { m with badRequests := bump m.badRequests })) who .badRequest []).trans
        ((accepts_of_mgmt (t := s.updMgmt (fun m => { m with badRequests := bump m.badRequests })) rfl who.frame).trans ha))
    refine ⟨t, congrArg Host.Outcome.next ?_, hans⟩
    have hrun : spaceWrite who address data s = t := by
      simp only [spaceWrite, serveController_bad (who := who) (s := s) (op := .write) (data := data) (.inl hbad), serveNumbered, if_pos hnum,
        serveBad, completeServed, hans, Option.map_some, Option.getD_some, applyPost]
    rw [hrun]
    exact finish_settled ((answering_sendCompletion hans).settled
      (s := s.updMgmt (fun m => { m with badRequests := bump m.badRequests })) hs)
  case read =>
    have hexam : examineRequest q r s = sendCompletion false r.who .ok (s.readWords g lo (r.length / 4))
        (s.updMgmt (fun m => { m with reads := bump m.reads })) := by
      rw [examineRequest_controller hh hd hr ht, hop, serveController_read hreg h4 hl4]
      exact completeServed_none rfl false
    have h := Arrives.completed (s := s) (q := q) (s1 := s.updMgmt _) ⟨hs, hup, hroom⟩ ⟨rfl, rfl⟩ hexam
    rw [if_pos htakes] at h
    exact h
  case badAccess =>
    have hexam : examineRequest q r s = sendCompletion false r.who .badRequest []
        (s.updMgmt (fun m => { m with badRequests := bump m.badRequests })) := by
      rw [examineRequest_controller hh hd hr ht, serveController_bad hbad]
      exact completeServed_none rfl false
    have h := Arrives.answered (s := s) (q := q) (s1 := s.updMgmt _) ⟨hs, hup, hroom⟩ ⟨rfl, rfl⟩ hexam
    rw [if_pos htakes] at h
    exact h

end Sys2Proof.Machine
end

section
/-! SUPPORT. The link-down event of a port that leaves UP (R3, R33, R155), and the statements about it (O15, O16). -/

namespace Sys2Proof.Machine

variable {s t u : State} {p : PortId}

/-! ## The units (R3, R29, R31, R33, R34) -/

/-- R3, R33: the link-down event of a port in the Topology Unit and the Stream Router. -/
def unitsDown (p : PortId) (s : State) : State :=
  let cut := (purgePort p s).updTopo (fun t => t.setMark p none)
  recommit (if cut.topo.rootward = some p then rootwardLost p cut else cut)

theorem linkDown_eq (p : PortId) (s : State) : linkDown p s = ottLinkDown p (unitsDown p s) := rfl

theorem port_foldl_kept {α : Type} {r : Port} {g : State → α → State} (hg : ∀ u a, u.port p = r → (g u a).port p = r)
    (l : List α) (h : s.port p = r) : (l.foldl g s).port p = r := by
  induction l generalizing s with
  | nil => exact h
  | cons a l ih => exact ih (hg s a h)

/-- A port that is not UP is sent no HELLO and no ANNOUNCE. -/
theorem port_helloUpPorts (h : (s.port p).state ≠ .up) : (helloUpPorts s).port p = s.port p := by
  refine port_foldl_kept (fun u q hu => ?_) _ rfl
  split
  · next hup =>
    have hne : p ≠ q := fun he => h (by rw [← hu, he]; simpa [State.isUp] using hup)
    rw [sendHello, State.port_updPort, if_neg hne, hu]
  · exact hu

theorem port_sendAnnounce (h : (s.port p).state ≠ .up) : (sendAnnounce s).port p = s.port p := by
  unfold sendAnnounce
  split
  · refine port_foldl_kept (fun u q hu => ?_) _ rfl
    split
    · next hup =>
      have hne : p ≠ q := fun he => h (by
        rw [← hu, he]
        simp only [Bool.and_eq_true, State.isUp, beq_iff_eq] at hup
        exact hup.1.2)
      rw [State.port_updPort, if_neg hne, hu]
    · exact hu
  · rfl

theorem rootwardSet_port (new : Option PortId) (s : State) (q : PortId) : (rootwardSet new s).port q = s.port q := by
  rw [rootwardSet, purgeLost_port]; rfl

theorem port_raise (k : EventKind) (s : State) (q : PortId) : (raise k s).port q = s.port q := by cases q <;> rfl

theorem port_rootwardChange {new : Option PortId} (h : (s.port p).state ≠ .up) :
    (rootwardChange new s).port p = s.port p := by
  have hset : (recommit (sendAnnounce (raise .rootChanged (helloUpPorts (rootwardSet new s))))).port p = s.port p := by
    have hhello : (raise .rootChanged (helloUpPorts (rootwardSet new s))).port p = s.port p := by
      rw [port_raise, port_helloUpPorts (by rwa [rootwardSet_port]), rootwardSet_port]
    rw [recommit_port, port_sendAnnounce (by rwa [hhello]), hhello]
  rw [rootwardChange_eq]
  split
  · rw [port_applyRtu, hset]
  · exact hset

theorem rootwardChange_trans (new : Option PortId) (s : State) : (rootwardChange new s).trans = s.trans := by
  have hset : (recommit (sendAnnounce (raise .rootChanged (helloUpPorts (rootwardSet new s))))).trans = s.trans := by
    rw [recommit_trans, sendAnnounce_withPorts, helloUpPorts_withPorts, rootwardSet, purgeLost_eq]
    rfl
  rw [rootwardChange_eq]
  split
  · rw [applyRtu_frame]; exact hset
  · exact hset

theorem event_raiseAll_other {ks : List EventKind} {k : Nat} (h : k ∉ ks.map EventKind.code) :
    (raiseAll ks s).event k = s.event k := by
  unfold raiseAll
  induction ks generalizing s with
  | nil => rfl
  | cons a ks ih =>
    rw [List.map_cons, List.mem_cons, not_or] at h
    rw [List.foldl_cons, ih h.2, raise_event, if_neg h.1]

theorem event_applyRtu_other {x : RtuStep} {k : Nat} (h : k ∉ x.2.map EventKind.code) : (s.applyRtu x).event k = s.event k :=
  event_raiseAll_other h

/-- R31: a rootward change raises no LINK_DOWN. -/
theorem rootwardChange_linkDown (new : Option PortId) (s : State) : (rootwardChange new s).event 1 = s.event 1 := by
  have hset : (recommit (sendAnnounce (raise .rootChanged (helloUpPorts (rootwardSet new s))))).event 1 = s.event 1 := by
    rw [event_recommit (by decide), sendAnnounce_withPorts, event_withPorts, raise_event, if_neg (by decide),
      helloUpPorts_withPorts, event_withPorts, rootwardSet_event]
  have hlost : 1 ∉ s.rtu.referenceLost.2.map EventKind.code := by
    unfold Rtu.referenceLost
    split <;> simp [EventKind.code]
  rw [rootwardChange_eq]
  split
  · rw [event_applyRtu_other hlost, hset]
  · exact hset

theorem unitsDown_trans (p : PortId) (s : State) : (unitsDown p s).trans = s.trans := by
  unfold unitsDown
  dsimp only
  rw [recommit_trans]
  split
  · rw [rootwardLost, rootwardChange_trans]; rfl
  · rfl

theorem unitsDown_port (h : (s.port p).state ≠ .up) : (unitsDown p s).port p = s.port p := by
  have hcut : ((purgePort p s).updTopo (fun t => t.setMark p none)).port p = s.port p := by cases p <;> rfl
  unfold unitsDown
  dsimp only
  rw [recommit_port]
  split
  · rw [rootwardLost, port_rootwardChange (by rwa [hcut]), hcut]
  · exact hcut

theorem unitsDown_event (p : PortId) (s : State) : (unitsDown p s).event 1 = s.event 1 := by
  unfold unitsDown
  dsimp only
  rw [event_recommit (by decide)]
  split
  · rw [rootwardLost, rootwardChange_linkDown]; rfl
  · rfl

/-- R34: a rootward change adds nothing to the Frame Directory. -/
theorem rootwardChange_directory {new : Option PortId} {x : Nat × DirEntry} (h : x ∈ (rootwardChange new s).topo.directory) :
    x ∈ s.topo.directory := by
  have hset : (rootwardChange new s).topo = (rootwardSet new s).topo := by
    rw [rootwardChange_eq]
    split
    · rw [applyRtu_frame]; exact rootwardSet_topo new s
    · exact rootwardSet_topo new s
  rw [hset, rootwardSet, purgeLost_eq] at h
  exact (List.mem_filter.1 h).1

/-- R3, R33: the state without the port's directory entries and its Mark Record. -/
def cutPort (p : PortId) (s : State) : State := (purgePort p s).updTopo (fun t => t.setMark p none)

theorem cutPort_directory (p : PortId) (s : State) :
    (cutPort p s).topo.directory = s.topo.directory.filter (fun e => e.2.via != .port p) := by cases p <;> rfl

theorem cutPort_mark (p : PortId) (s : State) : (cutPort p s).topo.mark p = none := by cases p <;> rfl

/-- R3, R29, R33: nothing of the tree goes by the port any more. -/
theorem unitsDown_topo (p : PortId) (s : State) : (∀ x ∈ (unitsDown p s).topo.directory, x.2.via ≠ .port p) ∧
    (unitsDown p s).topo.mark p = none ∧ (unitsDown p s).topo.rootward ≠ some p := by
  have hdir : ∀ x ∈ (cutPort p s).topo.directory, x.2.via ≠ .port p := fun x hx => by
    rw [cutPort_directory] at hx
    simpa using (List.mem_filter.1 hx).2
  have hdown : (unitsDown p s).topo =
      (if (cutPort p s).topo.rootward = some p then rootwardLost p (cutPort p s) else cutPort p s).topo := recommit_topo _
  rw [hdown]
  split
  · refine ⟨fun x hx => hdir x (rootwardChange_directory hx), ?_⟩
    obtain ⟨d, hd⟩ := rootwardChange_topo ((cutPort p s).bestCandidate (some p)) (cutPort p s)
    rw [rootwardLost, hd, bestCandidate_lost]
    refine ⟨cutPort_mark p s, fun h => ?_⟩
    have hne : p.other ≠ p := by cases p <;> decide
    dsimp only at h
    split at h
    · exact hne (Option.some.inj h)
    · cases h
  · next hr => exact ⟨hdir, cutPort_mark p s, hr⟩

/-! ## The OTT (R155) -/

/-- The pending flag and the count of an event kind stand. -/
def SameCount (k : Nat) (s t : State) : Prop :=
  (t.event k).pending = (s.event k).pending ∧ (t.event k).count = (s.event k).count

theorem SameCount.of_event {k : Nat} (h : t.event k = s.event k) : SameCount k s t := by rw [SameCount, h]; exact ⟨rfl, rfl⟩

theorem SameCount.trans {k : Nat} (h : SameCount k s t) (h' : SameCount k t u) : SameCount k s u :=
  ⟨h'.1.trans h.1, h'.2.trans h.2⟩

theorem noteFreed_event (s t : State) (k : Nat) : (s.noteFreed t).event k = t.event k := by
  rcases noteFreed_cases s t with ⟨-, g, l, h⟩ | ⟨-, h⟩ <;> rw [h]
  rfl

theorem sameCount_noticeAnswer (k tag : Nat) (st : Status) (s : State) : SameCount k s (noticeAnswer tag st s) := by
  have hsettle : ∀ (j : Nat) (n : NoticeState) (u : State), SameCount k u (settleNotice j n u) := fun j n u => by
    unfold settleNotice
    dsimp only
    split
    · unfold SameCount
      rw [State.event_setEvent]
      split
      · next h => rw [h]; exact ⟨rfl, rfl⟩
      · exact ⟨rfl, rfl⟩
    · exact ⟨rfl, rfl⟩
  unfold noticeAnswer
  cases s.mgmt.inFlight with
  | none => exact ⟨rfl, rfl⟩
  | some n =>
    dsimp only
    split
    · exact ⟨rfl, rfl⟩
    · obtain ⟨v, hv⟩ : ∃ v, v = s.updMgmt (fun m =>
        if st = .ok then { m with inFlight := none, noticesSent := bump m.noticesSent }
        else { m with inFlight := none, noticesFailed := bump m.noticesFailed }) := ⟨_, rfl⟩
      rw [← hv]
      have hsame : SameCount k s v := .of_event (by rw [hv]; unfold State.event State.updMgmt; dsimp only; split <;> rfl)
      split
      · exact hsame
      · exact hsame.trans (hsettle _ _ _)

theorem sameCount_channelAnswer {k c tag : Nat} {st : Status} {d : List Byte} (h1 : k ≠ EventKind.channelDone.code)
    (h2 : k ≠ EventKind.channelFault.code) : SameCount k s (channelAnswer c tag st d s) := by
  refine .of_event ?_
  unfold channelAnswer faultChannel chunkWritten chunkRead
  dsimp only
  split
  · rfl
  · split
    · rw [raise_event, if_neg h2]; rfl
    · split
      · split
        · rw [raise_event, if_neg h1]; rfl
        · rfl
      · rfl

theorem sameCount_answerEntry (i : Nat) (st : Status) (d : List Byte) (s : State) : SameCount 1 s (answerEntry i st d s) := by
  unfold answerEntry
  cases s.ottEntry i with
  | none => exact ⟨rfl, rfl⟩
  | some e =>
    dsimp only
    split
    · exact (sameCount_channelAnswer (s := s.delOtt i) (by decide) (by decide)).trans (.of_event (noteFreed_event _ _ _))
    · split
      · exact (sameCount_noticeAnswer 1 e.tag st (s.delOtt i)).trans (.of_event (noteFreed_event _ _ _))
      · exact ⟨rfl, rfl⟩

theorem answerEntry_other {i k : Nat} (hk : k ≠ i) (st : Status) (d : List Byte) (s : State) :
    (answerEntry i st d s).ottEntry k = s.ottEntry k := by
  cases he : s.ottEntry i with
  | none => simp only [answerEntry, he]
  | some e =>
    rcases answerEntry_ott st d he with h | ⟨e', -, h⟩
    · rw [State.ottEntry, h]; exact tfind_tdel_other _ hk
    · rw [State.ottEntry, h]; exact tfind_tput_other _ _ hk

/-- R155: the entry of an index does not await routing once a port goes down. -/
def NotRerouted (p : PortId) (s : State) (i : Nat) : Prop :=
  ∀ e, s.ottEntry i = some e → e.via = some (.port p) → e.state ≠ .queued ∧ (e.state = .sent → e.retry = false)

theorem entryLinkDown_cases {i : Nat} (h : NotRerouted p s i) : entryLinkDown p s i = s ∨
    entryLinkDown p s i = answerEntry i .linkLost [] (s.updTrans (fun t => { t with linkLost := bump t.linkLost })) := by
  unfold entryLinkDown
  cases he : s.ottEntry i with
  | none => exact .inl rfl
  | some e =>
    dsimp only
    split
    · next hvia =>
      obtain ⟨hq, hretry⟩ := h e he hvia
      split
      · next hst => rw [if_neg (by rw [hretry hst]; decide)]; exact .inr rfl
      · next hst => exact absurd hst hq
      · exact .inl rfl
    · exact .inl rfl

theorem answerEntry_slotEntry {i : Nat} {e : OttEntry} {st : Status} {d : List Byte} (he : s.ottEntry i = some e)
    (hid : e.id ≤ 15) : ∃ e', (answerEntry i st d s).ottEntry i = some e' ∧ e'.state = .answered ∧
      e'.answer = some ⟨st, e.readData st d⟩ := by
  rw [answerEntry_slot st d he hid]
  exact ⟨_, tfind_tput_same _ _ _, rfl, rfl⟩

/-- R155: a slot's FAIL entry sent through the port is answered LINK_LOST. -/
theorem entryLinkDown_fail {i : Nat} {e : OttEntry} (he : s.ottEntry i = some e) (hid : e.id ≤ 15) (hst : e.state = .sent)
    (hvia : e.via = some (.port p)) (hretry : e.retry = false) :
    ∃ e', (entryLinkDown p s i).ottEntry i = some e' ∧ e'.state = .answered ∧ e'.answer = some ⟨.linkLost, []⟩ := by
  have hrun : entryLinkDown p s i =
      answerEntry i .linkLost [] (s.updTrans (fun t => { t with linkLost := bump t.linkLost })) := by
    simp only [entryLinkDown, he, if_pos hvia, hst, hretry, Bool.false_eq_true, if_false]
  rw [hrun]
  exact answerEntry_slotEntry (e := e) he hid

/-- R155: what the link-down of a port leaves of the state where no entry has to be routed again. -/
structure EntriesDown (s t : State) : Prop where
  only : AnswersOnly s t
  answering : Answering s t
  count : SameCount 1 s t

theorem EntriesDown.refl (s : State) : EntriesDown s s := ⟨.refl s, .refl s, ⟨rfl, rfl⟩⟩

theorem EntriesDown.trans (h : EntriesDown s t) (h' : EntriesDown t u) : EntriesDown s u :=
  ⟨h.only.trans h'.only, h.answering.trans h'.answering, h.count.trans h'.count⟩

theorem entriesDown_step {i : Nat} (h : NotRerouted p s i) : EntriesDown s (entryLinkDown p s i) ∧
    ∀ k, k ≠ i → (entryLinkDown p s i).ottEntry k = s.ottEntry k := by
  rcases entryLinkDown_cases h with he | he <;> rw [he]
  · exact ⟨.refl s, fun _ _ => rfl⟩
  · obtain ⟨v, hv⟩ : ∃ v, v = s.updTrans (fun t => { t with linkLost := bump t.linkLost }) := ⟨_, rfl⟩
    rw [← hv]
    have hcount : EntriesDown s v := ⟨by rw [hv]; exact ⟨_, _, _, _, rfl⟩, by rw [hv]; exact .ofTrans fun _ hx => hx,
      .of_event (by rw [hv]; rfl)⟩
    refine ⟨hcount.trans ⟨answersOnly_answerEntry _ _ _ _, answering_answerEntry _ _ _ _, sameCount_answerEntry _ _ _ _⟩,
      fun k hk => ?_⟩
    rw [answerEntry_other hk, hv]
    rfl

/-- R155: the OTT's part of a link-down, index by index: each entry fares as it stood before. -/
theorem entriesDown_fold {l : List Nat} (hl : l.Nodup) (h : ∀ i ∈ l, NotRerouted p s i) :
    EntriesDown s (l.foldl (entryLinkDown p) s) ∧ (∀ k, k ∉ l → (l.foldl (entryLinkDown p) s).ottEntry k = s.ottEntry k) ∧
    ∀ i ∈ l, ∀ e, s.ottEntry i = some e → e.id ≤ 15 → e.state = .sent → e.via = some (.port p) →
      ∃ e', (l.foldl (entryLinkDown p) s).ottEntry i = some e' ∧ e'.state = .answered ∧ e'.answer = some ⟨.linkLost, []⟩ := by
  induction l generalizing s with
  | nil => exact ⟨.refl s, fun _ _ => rfl, fun i hi => absurd hi List.not_mem_nil⟩
  | cons j l ih =>
    obtain ⟨hj, hl⟩ := List.nodup_cons.1 hl
    obtain ⟨hstep, hother⟩ := entriesDown_step (h j List.mem_cons_self)
    have hne : ∀ i ∈ l, i ≠ j := fun i hi he => hj (he ▸ hi)
    obtain ⟨hrest, hout, hin⟩ := ih (s := entryLinkDown p s j) hl (fun i hi e he hvia =>
      h i (List.mem_cons_of_mem _ hi) e (by rwa [hother i (hne i hi)] at he) hvia)
    rw [List.foldl_cons]
    refine ⟨hstep.trans hrest, fun k hk => ?_, fun i hi e he hid hst hvia => ?_⟩
    · rw [List.mem_cons, not_or] at hk
      rw [hout k hk.2, hother k hk.1]
    · rcases List.mem_cons.1 hi with rfl | hi
      · rw [hout i hj]
        exact entryLinkDown_fail he hid hst hvia ((h i List.mem_cons_self e he hvia).2 hst)
      · exact hin i hi e (by rwa [hother i (hne i hi)]) hid hst hvia

/-! ## The link-down event where no entry is routed again (O15) -/

/-- What a port's record is once its cable has gone (R2, R3). -/
def Port.gone (r : Port) : Port :=
  { r.tornDown with state := .absent, cableSense := false, peerFast := false, retrainHistory := [] }

theorem exec_cableSenseLost_up (h : (s.port p).state = .up) :
    exec (.cableSenseLost p) s = .next (finish (linkDown p (raise .linkDown (s.setPort p (s.port p).gone)))) := by
  have hgone : senseGone p s = s.leaving p (s.port p).gone := by
    rw [Port.gone, ← enterAbsent_linked (by rw [h]; rfl)]
    simp only [senseGone, h]
  have hleave : s.leaving p (s.port p).gone = linkDown p (raise .linkDown (s.setPort p (s.port p).gone)) := if_pos h
  rw [← hleave, ← hgone]
  rfl

/-- Settles O15. -/
theorem linkDownReachesTheUnits : Obligations.LinkDownReachesTheUnits := by
  intro p s hup hrouted hnone
  obtain ⟨u, hu⟩ : ∃ u, u = raise .linkDown (s.setPort p (s.port p).gone) := ⟨_, rfl⟩
  have hrun := exec_cableSenseLost_up hup
  rw [← hu, linkDown_eq] at hrun
  have hport : u.port p = (s.port p).gone := by rw [hu, port_raise, State.port_setPort_same]
  have hdown : (unitsDown p u).port p = (s.port p).gone := by rw [unitsDown_port (by rw [hport]; exact fun h => nomatch h), hport]
  have htrans : (unitsDown p u).trans = s.trans := by rw [unitsDown_trans, hu]; cases p <;> rfl
  have hott : ∀ i, (unitsDown p u).ottEntry i = s.ottEntry i := fun i => by rw [State.ottEntry, htrans]; rfl
  have hev : SameCount 1 u (unitsDown p u) := .of_event (unitsDown_event p u)
  obtain ⟨hents, -, hfail⟩ := entriesDown_fold (p := p) (s := unitsDown p u) (l := List.range 32) List.nodup_range
    (fun i _ e he => hnone i e (by rwa [hott] at he))
  obtain ⟨v, hv⟩ : ∃ v, v = (List.range 32).foldl (entryLinkDown p) (unitsDown p u) := ⟨_, rfl⟩
  rw [← hv] at hents hfail
  have hvr : v.routed := hents.answering.routed (fun x hx => hrouted x (by rwa [htrans] at hx))
  obtain ⟨sl, m, hfin⟩ := finish_frame hvr
  have hvport : v.port p = (s.port p).gone := by rw [hents.only.port, hdown]
  have htopo : (finish v).topo = (unitsDown p u).topo := by rw [hfin]; exact hents.only.topo
  have hfport : (finish v).port p = (s.port p).gone := by rw [← hvport, hfin]; cases p <;> rfl
  have hcount : SameCount 1 u (finish v) := (hev.trans hents.count).trans (.of_event (by
    rw [finish, rerouteAll_of_routed 33 hvr, event_settleDrains (by decide)]))
  have hraise : u.event 1 = (s.event 1).raise (s.mgmt.noticeEnable.getLsbD 1) := by
    rw [hu, raise_event, if_pos (show 1 = EventKind.linkDown.code from rfl)]
    cases p <;> rfl
  obtain ⟨hdir, hmark, hroot⟩ := unitsDown_topo p u
  rw [← htopo] at hdir hmark hroot
  refine ⟨finish v, by rw [hrun, hv]; rfl, ?_⟩
  rw [hfport, hcount.1, hcount.2, hraise]
  refine ⟨rfl, rfl, rfl, rfl, rfl, rfl, rfl, rfl, rfl, rfl, rfl, hdir, hmark, hroot, fun i e hi he hid hst hvia => ?_⟩
  obtain ⟨e', he', hans⟩ := hfail i (List.mem_range.2 hi) e (by rwa [hott]) hid hst hvia
  exact ⟨e', by rw [hfin]; exact he', hans⟩

/-! ## The one entry that is routed again (O16) -/

/-- A fold in which one element alone acts, and every other finds nothing to do before it and after it. -/
theorem foldl_single {α β : Type} {g : β → α → β} {a : α} {b : β} (l : List α) (ha : a ∈ l) (hnd : l.Nodup)
    (hbefore : ∀ x ∈ l, x ≠ a → g b x = b) (hafter : ∀ x ∈ l, x ≠ a → g (g b a) x = g b a) : l.foldl g b = g b a := by
  have hrest : ∀ m : List α, m ⊆ l → a ∉ m → m.foldl g (g b a) = g b a := fun m => by
    induction m with
    | nil => exact fun _ _ => rfl
    | cons x m ih =>
      intro hsub hno
      rw [List.mem_cons, not_or] at hno
      rw [List.foldl_cons, hafter x (hsub List.mem_cons_self) (Ne.symm hno.1)]
      exact ih (fun y hy => hsub (List.mem_cons_of_mem _ hy)) hno.2
  have hall : ∀ m : List α, m ⊆ l → a ∈ m → m.Nodup → m.foldl g b = g b a := fun m => by
    induction m with
    | nil => exact fun _ h => absurd h List.not_mem_nil
    | cons x m ih =>
      intro hsub hmem hm
      obtain ⟨hx, hm⟩ := List.nodup_cons.1 hm
      have hsub' : m ⊆ l := fun y hy => hsub (List.mem_cons_of_mem _ hy)
      rw [List.foldl_cons]
      by_cases he : x = a
      · rw [he]
        exact hrest m hsub' (he ▸ hx)
      · rw [hbefore x (hsub List.mem_cons_self) he]
        exact ih hsub' ((List.mem_cons.1 hmem).resolve_left fun h => he h.symm) hm
  exact hall l (fun _ h => h) ha hnd

theorem entryLinkDown_of_away {j : Nat} (h : ∀ e, s.ottEntry j = some e → e.via ≠ some (.port p)) :
    entryLinkDown p s j = s := by
  unfold entryLinkDown
  split
  · rfl
  · next e he => exact if_neg (h e he)

theorem rerouteEntry_of_routed {j : Nat} (h : ∀ e, s.ottEntry j = some e → e.awaitsRoute = false) : rerouteEntry s j = s := by
  unfold rerouteEntry
  split
  · next e he =>
    refine if_neg fun ⟨hst, hvia⟩ => ?_
    have := h e he
    simp [OttEntry.awaitsRoute, hst, hvia] at this
  · rfl

theorem ottEntry_setOtt_other {i j : Nat} {e : OttEntry} (h : j ≠ i) : (s.setOtt i e).ottEntry j = s.ottEntry j :=
  tfind_tput_other _ _ h

theorem ottEntry_setOtt_same (i : Nat) (e : OttEntry) (s : State) : (s.setOtt i e).ottEntry i = some e :=
  tfind_tput_same _ _ _

/-- R155: a RETRY entry sent through the port, no other entry's way going by it, awaits routing. -/
theorem ottLinkDown_retry {i : Nat} {e : OttEntry} (hi : i < 32) (he : s.ottEntry i = some e) (hst : e.state = .sent)
    (hvia : e.via = some (.port p)) (hretry : e.retry = true)
    (halone : ∀ j x, s.ottEntry j = some x → x.via = some (.port p) → j = i) :
    ottLinkDown p s = s.setOtt i { e with state := .queued, via := none } := by
  have hstep : entryLinkDown p s i = s.setOtt i { e with state := .queued, via := none } := by
    simp only [entryLinkDown, he, if_pos hvia, hst, hretry, if_true]
  have haway : ∀ j, j ≠ i → ∀ x, s.ottEntry j = some x → x.via ≠ some (.port p) :=
    fun j hj x hx hv => hj (halone j x hx hv)
  unfold ottLinkDown
  rw [foldl_single _ (List.mem_range.2 hi) List.nodup_range (fun j _ hj => entryLinkDown_of_away (haway j hj)) fun j _ hj => ?_,
    hstep]
  refine entryLinkDown_of_away fun x hx => haway j hj x ?_
  rwa [hstep, ottEntry_setOtt_other hj] at hx

/-- R155: where one entry alone awaits routing, and is sent, nothing awaits routing after it. -/
theorem rerouteAll_sent {i f : Nat} {e : OttEntry} {q : PortId} (hi : i < 32) (hs : s.routed)
    (hd : e.dest ≠ nextCode) (hf : s.topo.frameNumber = some f) (hr : s.routeTo e.dest = some (.port q))
    (hroom : s.requestRoom q = true) (hw : s.requestWaiting q = false) :
    finish (s.setOtt i { e with state := .queued, via := none }) = settleDrains (pushRequest q (e.request f)
      (s.setOtt i { e with state := .sent, via := some (.port q) })) := by
  obtain ⟨x, hx⟩ : ∃ x, x = s.setOtt i { e with state := .queued, via := none } := ⟨_, rfl⟩
  obtain ⟨y, hy⟩ : ∃ y, y = pushRequest q (e.request f) (s.setOtt i { e with state := .sent, via := some (.port q) }) := ⟨_, rfl⟩
  have hfound : ∀ j w, s.ottEntry j = some w → w.awaitsRoute = false := fun j w hw => hs _ (mem_of_tfind hw)
  have hroute : routeEntry i x = y := by
    have hxi : x.ottEntry i = some { e with state := .queued, via := none } := by rw [hx]; exact ottEntry_setOtt_same _ _ _
    rw [routeEntry_sent hxi hd (by rw [hx]; exact hf) (by rw [hx]; exact hr) (by rw [hx]; exact hroom)
      (by rw [hx]; exact requestWaiting_setOtt hw (fun h => nomatch h)), hx, hy, State.setOtt_setOtt]
    rfl
  have hstep : rerouteEntry x i = y := by
    have hxi : x.ottEntry i = some { e with state := .queued, via := none } := by rw [hx]; exact ottEntry_setOtt_same _ _ _
    rw [← hroute]
    simp only [rerouteEntry, hxi, and_self, if_true]
  have hyr : y.routed := fun w hw => by
    have hmem : w ∈ tput s.trans.ott i { e with state := .sent, via := some (.port q) } := by
      rw [hy, pushRequest, State.updPort_trans] at hw
      exact hw
    rcases mem_of_mem_tput hmem with rfl | hmem
    · rfl
    · exact hs w hmem
  have hpass : (List.range 32).foldl rerouteEntry x = y := by
    rw [foldl_single _ (List.mem_range.2 hi) List.nodup_range (fun j _ hj => ?_) fun j _ hj => ?_, hstep]
    · refine rerouteEntry_of_routed fun w hw => hfound j w ?_
      rwa [hx, ottEntry_setOtt_other hj] at hw
    · rw [hstep]
      exact rerouteEntry_of_routed fun w hw => hyr _ (mem_of_tfind hw)
  have hany : x.anyAwaits = true :=
    List.any_eq_true.2 ⟨_, mem_of_tfind (show x.ottEntry i = some { e with state := .queued, via := none } by
      rw [hx]; exact ottEntry_setOtt_same _ _ _), rfl⟩
  have hfirst : rerouteAll 33 x = rerouteAll 32 ((List.range 32).foldl rerouteEntry x) := if_pos hany
  rw [← hx, ← hy, finish, hfirst, hpass, rerouteAll_of_routed 32 hyr]

theorem tfind_eq_none_of_forall {α : Type} {l : List (Nat × α)} {k : Nat} (h : ∀ x ∈ l, x.1 ≠ k) : tfind l k = none := by
  cases hf : tfind l k with
  | none => rfl
  | some v => exact absurd rfl (h _ (mem_of_tfind hf))

/-- R150: no held REQUEST waits for the queue of its own port; where the other port holds none, and no entry waits,
the queue has none waiting for it. -/
theorem requestWaiting_of_none {q : PortId} (hheld : (s.port q.other).heldRequests = [])
    (hott : ∀ x ∈ s.trans.ott, x.2.via = some (.port q) → x.2.state ≠ .queued) : s.requestWaiting q = false := by
  have hout : s.oldestHeldOut q = none := by
    cases hx : s.oldestHeldOut q with
    | none => rfl
    | some x =>
      obtain ⟨o, h⟩ := x
      obtain ⟨hmem, hne, -⟩ := oldestHeldOut_spec hx
      have ho : o = q.other := by cases q <;> cases o <;> simp_all [PortId.other]
      rw [ho, hheld] at hmem
      exact absurd hmem List.not_mem_nil
  have hqueued : s.oldestQueued q = none := oldest_eq_none.2 (List.filter_eq_nil_iff.2 fun x hx => by
    simp only [Bool.and_eq_true, beq_iff_eq, not_and]
    exact fun hst hv => hott x hx hv hst)
  rw [State.requestWaiting, hout, hqueued]
  rfl

/-- Settles O16. -/
theorem linkDownReroutesRetryEntries : Obligations.LinkDownReroutesRetryEntries := by
  intro p i e s hup hrouted hi he hst hvia hretry hdest halone hroot hupo hroom hframe hnum hdir hqueued
  obtain ⟨f, hf⟩ := Option.isSome_iff_exists.1 hnum
  have hne : p.other ≠ p := by cases p <;> decide
  obtain ⟨u, hu⟩ : ∃ u, u = raise .linkDown (s.setPort p (s.port p).gone) := ⟨_, rfl⟩
  obtain ⟨w, hw⟩ : ∃ w, w = recommit (cutPort p u) := ⟨_, rfl⟩
  have hrun := exec_cableSenseLost_up hup
  have hwtopo : w.topo = (cutPort p u).topo := by rw [hw, recommit_topo]
  have hcroot : (cutPort p u).topo.rootward = some p.other := by rw [hu, ← hroot]; cases p <;> rfl
  have hdown : unitsDown p u = w := by
    have hkept : (if (cutPort p u).topo.rootward = some p then rootwardLost p (cutPort p u) else cutPort p u) = cutPort p u :=
      if_neg (by rw [hcroot]; exact fun h => hne (Option.some.inj h))
    rw [hw, ← hkept]
    rfl
  have hwf : w.topo.frameNumber = some f := by rw [hwtopo, ← hf, hu]; cases p <;> rfl
  have hwtrans : w.trans = s.trans := by rw [← hdown, unitsDown_trans, hu]; cases p <;> rfl
  have hwport (q : PortId) : w.port q = if q = p then (s.port p).gone else s.port q := by
    have hcut : (cutPort p u).port q = u.port q := by cases q <;> rfl
    rw [hw, recommit_port, hcut, hu, port_raise, State.port_setPort]
  have hother : w.port p.other = s.port p.other := by rw [hwport, if_neg hne]
  have hroute : w.routeTo e.dest = some (.port p.other) := by
    have hnone : tfind w.topo.directory e.dest = none := tfind_eq_none_of_forall fun x hx hxd => by
      rw [hwtopo, cutPort_directory, hu] at hx
      obtain ⟨hmem, hgone⟩ := List.mem_filter.1 hx
      have hmem : x ∈ s.topo.directory := by cases p <;> exact hmem
      simp [hdir x hmem hxd] at hgone
    have hfar : w.topo.frameNumber ≠ some e.dest := by
      rw [hwf]
      exact fun h => hframe f hf (Option.some.inj h)
    have hwroot : w.topo.rootward = some p.other := by rw [hwtopo, hcroot]
    simp only [State.routeTo, if_neg hfar, hnone, hwroot, Option.map_some]
  have hwroom : w.requestRoom p.other = true := by
    simpa [State.requestRoom, State.isUp, hother, hroom] using hupo
  have hwaits : w.requestWaiting p.other = false := by
    refine requestWaiting_of_none ?_ (by rwa [hwtrans])
    have hback : p.other.other = p := by cases p <;> rfl
    rw [hback, hwport, if_pos rfl]
    rfl
  have hott (j : Nat) : w.ottEntry j = s.ottEntry j := by rw [State.ottEntry, hwtrans]; rfl
  have hretried := ottLinkDown_retry (s := w) hi (by rwa [hott]) hst hvia hretry (fun j x hx => halone j x (by rwa [← hott]))
  have hsent := rerouteAll_sent (s := w) (i := i) hi (by rw [State.routed, hwtrans]; exact hrouted)
    (by intro h; rw [h] at hdest; exact absurd hdest (by decide)) hwf hroute hwroom hwaits
  obtain ⟨v, hv⟩ : ∃ v, v = pushRequest p.other (e.request f) (w.setOtt i { e with state := .sent, via := some (.port p.other) }) :=
    ⟨_, rfl⟩
  rw [← hu, linkDown_eq, hdown, hretried, hsent, ← hv] at hrun
  obtain ⟨sl, m, hfin⟩ := settleDrains_frame v
  have hcode : s.frameCode = f := by rw [State.frameCode, hf]; rfl
  refine ⟨_, hrun, ?_, ?_⟩
  · have hsame : ∀ k x, (w.setOtt i { e with state := .sent, via := some (.port p.other) }).ottEntry k = x →
        (settleDrains v).ottEntry k = x := fun k x hx => by
      rw [hfin, ← hx, hv, State.ottEntry, pushRequest]
      exact congrArg (fun t : Trans => tfind t.ott k) (State.updPort_trans _ _ _)
    refine hsame i _ ?_
    rw [ottEntry_setOtt_same, ← hst]
  · have hports : (settleDrains v).port p.other = v.port p.other := by rw [hfin]; cases p <;> rfl
    have hset : (w.setOtt i { e with state := .sent, via := some (.port p.other) }).port p.other = w.port p.other := by
      cases p <;> rfl
    rw [hports, hv, pushRequest, State.port_updPort, if_pos rfl, hset, hother, hcode]

end Sys2Proof.Machine
end

section
/-! SUPPORT. What each unit's reaction to a boundary event may change (R43), and the statement about the root's
marks (O27). -/

namespace Sys2Proof.Machine

variable {s t u : State} {p : PortId}

/-! ## Event kinds -/

/-- From `s` to `t` only the kinds of a list are raised, and what is Pending stays so. -/
structure Raises (ks : List EventKind) (s t : State) : Prop where
  other : ∀ k, k ∉ ks.map EventKind.code → t.event k = s.event k
  pending : ∀ k, (s.event k).pending = true → (t.event k).pending = true

variable {ks : List EventKind}

theorem Raises.of_mgmt (h : t.mgmt = s.mgmt) : Raises ks s t := by
  have he : ∀ k, t.event k = s.event k := fun k => by rw [State.event, h]; rfl
  exact ⟨fun k _ => he k, fun k hk => by rwa [he]⟩

theorem Raises.refl (ks : List EventKind) (s : State) : Raises ks s s := .of_mgmt rfl

theorem Raises.trans (h : Raises ks s t) (h' : Raises ks t u) : Raises ks s u :=
  ⟨fun k hk => (h'.other k hk).trans (h.other k hk), fun k hk => h'.pending k (h.pending k hk)⟩

theorem Raises.raiseAll (h : Raises ks s t) {js : List EventKind} (hj : js ⊆ ks) : Raises ks s (raiseAll js t) where
  other k hk := by rw [event_raiseAll_other (fun hm => hk (List.map_subset _ hj hm)), h.other k hk]
  pending k hk := pending_raiseAll (.inl (h.pending k hk))

theorem Raises.raise (h : Raises ks s t) {k : EventKind} (hk : k ∈ ks) : Raises ks s (raise k t) :=
  h.raiseAll (js := [k]) (by simpa using hk)

theorem Raises.raiseIf (h : Raises ks s t) {k : EventKind} (hk : k ∈ ks) (b : Bool) : Raises ks s (raiseIf b k t) := by
  cases b
  · exact h
  · exact h.raise hk

theorem raises_applyRtu {x : RtuStep} (hx : x.2 ⊆ ks) (s : State) : Raises ks s (s.applyRtu x) :=
  Raises.raiseAll (s := s) (t := { s with rtu := x.1 }) (.of_mgmt rfl) hx

theorem Raises.foldl {α : Type} {g : State → α → State} (hg : ∀ u a, Raises ks u (g u a)) (l : List α) (s : State) :
    Raises ks s (l.foldl g s) :=
  List.foldlRecOn l g (motive := Raises ks s) (.refl ks s) fun u hu a _ => hu.trans (hg u a)

/-! ## The packers (R82, R83) -/

/-- From `s` to `t` parcels are handed to the Stream Router and the Delivery Unit. -/
structure Packed (s t : State) : Prop where
  units : ∃ a b ro bs m sl, t = { s with port0 := a, port1 := b, router := ro, bindings := bs, pool := m, slots := sl }
  ports : ∀ p, ∃ q c, t.port p = { s.port p with qStream := q, counters := c }
  slots : ∀ i, ∃ c a n d, t.slot i = { s.slot i with committed := c, available := a, parcelsSent := n, immediateDrops := d }

theorem Packed.refl (s : State) : Packed s s := ⟨⟨_, _, _, _, _, _, rfl⟩, fun _ => ⟨_, _, rfl⟩, fun _ => ⟨_, _, _, _, rfl⟩⟩

theorem Packed.trans (h : Packed s t) (h' : Packed t u) : Packed s u where
  units := by
    obtain ⟨_, _, _, _, _, _, rfl⟩ := h.units
    obtain ⟨_, _, _, _, _, _, rfl⟩ := h'.units
    exact ⟨_, _, _, _, _, _, rfl⟩
  ports p := by
    obtain ⟨_, _, hp⟩ := h.ports p
    obtain ⟨_, _, hp'⟩ := h'.ports p
    exact ⟨_, _, by rw [hp', hp]⟩
  slots i := by
    obtain ⟨_, _, _, _, hi⟩ := h.slots i
    obtain ⟨_, _, _, _, hi'⟩ := h'.slots i
    exact ⟨_, _, _, _, by rw [hi', hi]⟩

theorem Packed.foldl {α : Type} {g : State → α → State} (hg : ∀ u a, Packed u (g u a)) (l : List α) (s : State) :
    Packed s (l.foldl g s) :=
  List.foldlRecOn l g (motive := Packed s) (.refl s) fun u hu a _ => hu.trans (hg u a)

theorem packed_setRoute (s : State) (k : Nat) (e : RouteEntry) : Packed s (s.setRoute k e) :=
  ⟨⟨_, _, _, _, _, _, rfl⟩, fun p => ⟨(s.port p).qStream, (s.port p).counters, by cases p <;> rfl⟩, fun _ => ⟨_, _, _, _, rfl⟩⟩

theorem packed_offerStream (s : State) (p : PortId) (x : StreamParcel) : Packed s (s.updPort p (fun r => r.offerStream x)) where
  units := by cases p <;> exact ⟨_, _, _, _, _, _, rfl⟩
  ports q := by
    rw [State.port_updPort]
    split
    · next h =>
      subst h
      unfold Port.offerStream
      split
      · exact ⟨_, _, rfl⟩
      · exact ⟨_, _, rfl⟩
    · exact ⟨_, _, rfl⟩
  slots i := ⟨(s.slot i).committed, (s.slot i).available, (s.slot i).parcelsSent, (s.slot i).immediateDrops, by cases p <;> rfl⟩

theorem packed_sendParcel (s : State) (sinks : SlotSet) (x : StreamParcel) : Packed s (sendParcel sinks x s) where
  units := by rw [sendParcel_withSlots]; exact ⟨_, _, _, _, _, _, rfl⟩
  ports p := ⟨(s.port p).qStream, (s.port p).counters, by rw [sendParcel_withSlots]; cases p <;> rfl⟩
  slots i := by
    rw [slot_sendParcel]
    unfold Slot.sinkParcel
    split
    · split
      · split
        · exact ⟨_, _, _, _, rfl⟩
        · exact ⟨_, _, _, _, rfl⟩
      · exact ⟨_, _, _, _, rfl⟩
    · exact ⟨_, _, _, _, rfl⟩

theorem packed_placeParcel (s : State) (b : Nat) (x : StreamParcel) : Packed s (placeParcel b x s) := by
  rw [placeParcel_frame]
  exact ⟨⟨_, _, _, _, _, _, rfl⟩, fun p => ⟨(s.port p).qStream, (s.port p).counters, by cases p <;> rfl⟩, fun _ => ⟨_, _, _, _, rfl⟩⟩

theorem packed_takeStream (s : State) (x : StreamParcel) : Packed s (takeStream none x s) := by
  have hcopy : ∀ (u : State) (p : PortId), Packed u (offerCopy x.tag x u p) := fun u p =>
    (packed_setRoute u _ _).trans (packed_offerStream _ p x)
  have hforward : ∀ u : State, Packed u (forwardStream none x u) := fun u => .foldl hcopy _ u
  have hover : ∀ (u : State) (e : RouteEntry), Packed u (handOver e x u) := fun u e => by
    unfold handOver
    dsimp only
    split
    · exact (packed_sendParcel u _ _).trans (packed_placeParcel _ _ _)
    · exact packed_sendParcel u _ _
  unfold takeStream
  dsimp only
  split
  · exact packed_setRoute s _ _
  · split
    · exact packed_setRoute s _ _
    · split
      · exact packed_setRoute s _ _
      · split
        · exact packed_setRoute s _ _
        · exact ((packed_setRoute s _ _).trans (hforward _)).trans (hover _ _)

/-- R82: what closing the packers leaves alone. -/
theorem packed_closePackers (s : State) : Packed s (closePackers s) := by
  refine .foldl (fun u tag => ?_) _ s
  unfold closePacker
  split
  · exact .refl u
  · split
    · exact .refl u
    · split
      · exact packed_takeStream u _
      · exact packed_takeStream u _

/-! ## The tree (R27 to R29, R31) -/

/-- What HELLOs and ANNOUNCEs change of a port. -/
def LinkLine (r r' : Port) : Prop :=
  ∃ l a b c, r' = { r with qLink := l, loopPending := a, retrainPending := b, counters := c }

theorem LinkLine.refl (r : Port) : LinkLine r r := ⟨_, _, _, _, rfl⟩

theorem LinkLine.trans {r r' r'' : Port} (h : LinkLine r r') (h' : LinkLine r' r'') : LinkLine r r'' := by
  obtain ⟨_, _, _, _, rfl⟩ := h
  obtain ⟨_, _, _, _, rfl⟩ := h'
  exact ⟨_, _, _, _, rfl⟩

/-- From `s` to `t` the ports queue HELLOs and ANNOUNCEs. -/
def Links (s t : State) : Prop := ∀ p, LinkLine (s.port p) (t.port p)

theorem Links.refl (s : State) : Links s s := fun _ => .refl _

theorem Links.trans (h : Links s t) (h' : Links t u) : Links s u := fun p => (h p).trans (h' p)

theorem Links.of_port (h : ∀ p, t.port p = s.port p) : Links s t := fun p => by rw [h]; exact .refl _

theorem links_updPort {f : Port → Port} (hf : ∀ r, LinkLine r (f r)) (s : State) (p : PortId) : Links s (s.updPort p f) := fun q => by
  rw [State.port_updPort]
  split
  · next h => rw [h]; exact hf _
  · exact .refl _

theorem links_sendHello (s : State) (p : PortId) : Links s (sendHello s p) := by
  refine links_updPort (fun r => ?_) s p
  dsimp only
  split
  · split
    · exact ⟨_, _, _, _, rfl⟩
    · split
      · exact ⟨_, _, _, _, rfl⟩
      · exact ⟨_, _, _, _, rfl⟩
  · exact .refl r

theorem Links.foldl {α : Type} {g : State → α → State} (hg : ∀ u a, Links u (g u a)) (l : List α) (s : State) :
    Links s (l.foldl g s) :=
  List.foldlRecOn l g (motive := Links s) (.refl s) fun u hu a _ => hu.trans (hg u a)

theorem links_helloUpPorts (s : State) : Links s (helloUpPorts s) := by
  refine .foldl (fun u p => ?_) _ s
  split
  · exact links_sendHello u p
  · exact .refl u

theorem links_sendAnnounce (s : State) : Links s (sendAnnounce s) := by
  unfold sendAnnounce
  split
  · refine .foldl (fun u p => ?_) _ s
    split
    · refine links_updPort (fun r => ?_) u p
      unfold Port.offerLink
      split
      · exact ⟨_, _, _, _, rfl⟩
      · exact ⟨_, _, _, _, rfl⟩
    · exact .refl u
  · exact .refl s

/-- R31, R34, R91: the units that a rootward change reaches. -/
structure Rooted (s t : State) : Prop where
  units : ∃ a b tp rt ro m, t = { s with port0 := a, port1 := b, topo := tp, rtu := rt, router := ro, mgmt := m }
  links : Links s t
  table : t.router.table = s.router.table
  events : Raises [.rootChanged, .overcommit, .holdover] s t

theorem Rooted.refl (s : State) : Rooted s s := ⟨⟨_, _, _, _, _, _, rfl⟩, .refl s, rfl, .refl _ s⟩

theorem Rooted.trans (h : Rooted s t) (h' : Rooted t u) : Rooted s u where
  units := by
    obtain ⟨_, _, _, _, _, _, rfl⟩ := h.units
    obtain ⟨_, _, _, _, _, _, rfl⟩ := h'.units
    exact ⟨_, _, _, _, _, _, rfl⟩
  links := h.links.trans h'.links
  table := h'.table.trans h.table
  events := h.events.trans h'.events

theorem rooted_updTopo (s : State) (f : Topology → Topology) : Rooted s (s.updTopo f) :=
  ⟨⟨_, _, _, _, _, _, rfl⟩, .of_port fun p => by cases p <;> rfl, rfl, .of_mgmt rfl⟩

theorem rooted_withPorts (h : Links s t) : Rooted s (s.withPorts t) :=
  ⟨⟨_, _, _, _, _, _, rfl⟩, fun p => by cases p <;> exact h _, rfl, .of_mgmt rfl⟩

theorem rooted_recommit (s : State) : Rooted s (recommit s) := by
  have hport : ∀ (u : State) (p : PortId), Rooted u (recommitPort u p) := fun u p => by
    refine ⟨by rw [recommitPort_frame]; exact ⟨_, _, _, _, _, _, rfl⟩, .of_port fun q => by
      rw [recommitPort_frame]; cases q <;> rfl, ?_, ?_⟩
    · unfold recommitPort raiseIf
      dsimp only
      split <;> cases p <;> rfl
    · unfold recommitPort
      dsimp only
      refine Raises.raiseIf (.of_mgmt ?_) (by simp) _
      rfl
  exact (hport s .p0).trans (hport _ .p1)

theorem rooted_applyRtu {x : RtuStep} (hx : x.2 ⊆ [.holdover]) (s : State) : Rooted s (s.applyRtu x) where
  units := by rw [applyRtu_frame]; exact ⟨_, _, _, _, _, _, rfl⟩
  links := .of_port fun p => port_applyRtu _ _ _
  table := by rw [applyRtu_frame]
  events := raises_applyRtu (fun _ hk => List.mem_cons_of_mem _ (List.mem_cons_of_mem _ (hx hk))) s

theorem rooted_raise_rootChanged (s : State) : Rooted s (raise .rootChanged s) :=
  ⟨⟨_, _, _, _, _, _, rfl⟩, .of_port fun p => port_raise _ _ p, rfl, (Raises.refl _ s).raise (by simp)⟩

theorem referenceLost_kinds (r : Rtu) : r.referenceLost.2 ⊆ [.holdover] := by
  unfold Rtu.referenceLost
  split <;> simp

theorem rooted_rootwardChange (new : Option PortId) (s : State) : Rooted s (rootwardChange new s) := by
  have hset : Rooted s (rootwardSet new s) := by
    rw [rootwardSet, purgeLost_eq]
    exact (rooted_updTopo s _).trans (rooted_updTopo _ _)
  have hhello := hset.trans (by rw [helloUpPorts_withPorts]; exact rooted_withPorts (links_helloUpPorts _) : Rooted _ (helloUpPorts (rootwardSet new s)))
  have hraise := hhello.trans (rooted_raise_rootChanged _)
  have hann := hraise.trans (by rw [sendAnnounce_withPorts]; exact rooted_withPorts (links_sendAnnounce _) : Rooted _ (sendAnnounce (raise .rootChanged (helloUpPorts (rootwardSet new s)))))
  have hcommit := hann.trans (rooted_recommit _)
  rw [rootwardChange_eq]
  split
  · exact hcommit.trans (rooted_applyRtu (referenceLost_kinds _) _)
  · exact hcommit

theorem rooted_topologyBoundary (s : State) : Rooted s (topologyBoundary s) := by
  unfold topologyBoundary
  dsimp only
  refine (rooted_updTopo s (fun t => { t with mark0 := t.mark0.map MarkRecord.older, mark1 := t.mark1.map MarkRecord.older })).trans ?_
  split
  · unfold chooseRootward
    split
    · exact .refl _
    · split
      · exact rooted_rootwardChange _ _
      · exact .refl _
  · unfold dropStaleRootward
    split
    · split
      · split
        · exact rooted_rootwardChange _ _
        · exact .refl _
      · exact .refl _
    · exact .refl _

/-! ## Triggers, packers, deliveries and drains -/

theorem fireLate_frame (line : Nat) (s : State) : ∃ t sb m, fireLate line s = { s with trig := t, sideband := sb, mgmt := m } :=
  ⟨_, _, _, rfl⟩

theorem foldl_fireLate_frame (l : List PendingTrigger) (s : State) :
    ∃ t sb m, l.foldl (fun s e => fireLate e.line s) s = { s with trig := t, sideband := sb, mgmt := m } :=
  List.foldlRecOn l _ (motive := fun u => ∃ t sb m, u = { s with trig := t, sideband := sb, mgmt := m }) ⟨_, _, _, rfl⟩
    fun u hu a _ => by obtain ⟨_, _, _, rfl⟩ := hu; exact fireLate_frame a.line _

/-- R69, R74: the Trigger Unit at a boundary event. -/
theorem triggerBoundary_frame (d : Bool) (s : State) :
    ∃ t sb m, triggerBoundary d s = { s with trig := t, sideband := sb, mgmt := m } := by
  unfold triggerBoundary
  dsimp only
  split
  · exact foldl_fireLate_frame _ _
  · exact ⟨_, _, _, rfl⟩

theorem raises_fireSteppedOver (s : State) : Raises [.triggerLate] s (fireSteppedOver s) := by
  have hlate : ∀ (u : State) (e : PendingTrigger), Raises [.triggerLate] u (fireLate e.line u) := fun u e =>
    Raises.raise (s := u) (k := .triggerLate) (t := (fireLine e.line u).updTrig (fun t => { t with lateFires := bump t.lateFires }))
      (.of_mgmt rfl) List.mem_cons_self
  have hqueue : Raises [.triggerLate] s
      (s.updTrig (fun t => { t with queue := t.queue.filter (fun e => inFuture e.fire s.rtu.ticks) })) := .of_mgmt rfl
  exact hqueue.trans (.foldl hlate _ _)

theorem raises_triggerBoundary (d : Bool) (s : State) : Raises [.triggerLate] s (triggerBoundary d s) := by
  have haged : Raises [.triggerLate] s ((ageSeen s).updTrig (fun t => { t with seenAged := true })) := .of_mgmt rfl
  cases d
  · exact haged
  · exact haged.trans (raises_fireSteppedOver _)

theorem reopenPackers_frame (s : State) : ∃ ro, reopenPackers s = { s with router := ro } := by
  refine List.foldlRecOn _ _ (motive := fun u => ∃ ro, u = { s with router := ro }) ⟨s.router, rfl⟩ fun u hu tag _ => ?_
  obtain ⟨_, rfl⟩ := hu
  unfold reopenPacker
  split
  · exact ⟨_, rfl⟩
  · exact ⟨_, rfl⟩

/-- From `s` to `t` the Delivery Unit turns to the next epoch. -/
structure Turned (s t : State) : Prop where
  units : ∃ bs sl m, t = { s with bindings := bs, slots := sl, mgmt := m }
  slots : ∀ i, ∃ d c a, t.slot i = { s.slot i with delivery := d, committed := c, available := a }
  events : Raises [.sectionFault] s t

theorem Turned.refl (s : State) : Turned s s := ⟨⟨_, _, _, rfl⟩, fun _ => ⟨_, _, _, rfl⟩, .refl _ s⟩

theorem Turned.trans (h : Turned s t) (h' : Turned t u) : Turned s u where
  units := by
    obtain ⟨_, _, _, rfl⟩ := h.units
    obtain ⟨_, _, _, rfl⟩ := h'.units
    exact ⟨_, _, _, rfl⟩
  slots i := by
    obtain ⟨_, _, _, hi⟩ := h.slots i
    obtain ⟨_, _, _, hi'⟩ := h'.slots i
    exact ⟨_, _, _, by rw [hi', hi]⟩
  events := h.events.trans h'.events

theorem Turned.foldl {α : Type} {g : State → α → State} (hg : ∀ u a, Turned u (g u a)) (l : List α) (s : State) :
    Turned s (l.foldl g s) :=
  List.foldlRecOn l g (motive := Turned s) (.refl s) fun u hu a _ => hu.trans (hg u a)

theorem turned_setBinding (s : State) (b : Nat) (r : Binding) : Turned s (s.setBinding b r) :=
  ⟨⟨_, _, _, rfl⟩, fun _ => ⟨_, _, _, rfl⟩, .of_mgmt rfl⟩

theorem turned_updSlot {f : Slot → Slot} (hf : ∀ r, ∃ d c a, f r = { r with delivery := d, committed := c, available := a })
    (s : State) (i : Nat) : Turned s (s.updSlot i f) := by
  refine ⟨⟨_, _, _, rfl⟩, fun j => ?_, .of_mgmt rfl⟩
  rw [State.slot_updSlot]
  split
  · next h => rw [h]; exact hf _
  · exact ⟨_, _, _, rfl⟩

theorem turned_raise (s : State) : Turned s (raise .sectionFault s) :=
  ⟨⟨_, _, _, rfl⟩, fun _ => ⟨_, _, _, rfl⟩, (Raises.refl _ s).raise (by simp)⟩

theorem turned_raiseIf (c : Bool) (s : State) : Turned s (raiseIf c .sectionFault s) := by
  cases c
  · exact .refl s
  · exact turned_raise s

theorem unsend_delivery (r : Slot) (l : List DeliveryItem) (q : LaneMsg → Bool) :
    ∃ d c a, Slot.unsend { r with delivery := l } q = { r with delivery := d, committed := c, available := a } := by
  unfold Slot.unsend
  split
  · exact ⟨_, _, _, rfl⟩
  · split
    · exact ⟨_, _, _, rfl⟩
    · exact ⟨_, _, _, rfl⟩

theorem turned_beginDeliveries (b i : Nat) (s : State) : Turned s (beginDeliveries b i s) := by
  refine .foldl (fun u j => ?_) _ s
  unfold beginDelivery
  split
  · exact turned_updSlot (fun r => ⟨_, r.committed, r.available, rfl⟩) u j
  · exact turned_setBinding u _ _
  · exact .refl u

theorem turned_endDelivery (b i : Nat) (s : State) (j : Nat) : Turned s (endDelivery b i s j) := by
  unfold endDelivery
  dsimp only
  split
  · exact ((turned_updSlot (fun r => unsend_delivery r _ _) s j).trans (turned_setBinding _ _ _)).trans (turned_raise _)
  · exact .refl s

theorem turned_rotateBinding (n : Nat) (untimed : Bool) (b : Nat) (s : State) : Turned s (rotateBinding n untimed b s) := by
  have hend : Turned s ((List.range 16).foldl (endDelivery b (sectionIndex n 0)) s) := .foldl (turned_endDelivery b _) _ s
  unfold rotateBinding
  dsimp only
  split
  · refine Turned.trans ?_ (turned_raiseIf _ _)
    exact (hend.trans (turned_setBinding _ _ _)).trans (turned_beginDeliveries _ _ _)
  · exact hend.trans (turned_setBinding _ b _)

theorem turned_restartBinding (n : Nat) (untimed : Bool) (b : Nat) (s : State) : Turned s (restartBinding n untimed b s) := by
  have hdrop : Turned s (dropDeliveries b s) := .foldl (fun u j => turned_updSlot (fun r => unsend_delivery r _ _) u j) _ s
  exact (hdrop.trans (turned_setBinding _ b _)).trans (turned_beginDeliveries b _ _)

theorem turned_deliveryBoundary (restart : Bool) (s : State) : Turned s (deliveryBoundary restart s) := by
  refine .foldl (fun u b => ?_) _ s
  split
  · split
    · exact turned_restartBinding _ _ b u
    · exact turned_rotateBinding _ _ b u
  · exact .refl u

/-- R131: a boundary event passes in EXTRACTING. -/
def Slot.passed (r : Slot) : Slot := { r with drain := r.drain.map (fun d => { d with boundaryPassed := true }) }

theorem passBoundaries_withSlots (s : State) :
    (List.range 16).foldl passBoundary s = s.withSlots ((List.range 16).foldl passBoundary s) :=
  foldl_withSlots (fun _ _ => rfl) _ s

theorem slot_passBoundaries (s : State) (i : Nat) :
    ((List.range 16).foldl passBoundary s).slot i = if i < 16 then (s.slot i).passed else s.slot i := by
  rw [slot_foldl (f := passBoundary) (g := fun _ => Slot.passed) (fun u j k => State.slot_updSlot _ _ _ _) List.nodup_range]
  simp only [List.mem_range]

/-! ## Marks and bursts (R11, R45) -/

/-- What marks and echoes offered to a port's timing queue change of it. -/
def TimingLine (r r' : Port) : Prop :=
  ∃ b e m c, r' = { r with burst := b, echoNumber := e, qTiming := r.qTiming ++ m, counters := c }

theorem TimingLine.refl (r : Port) : TimingLine r r := ⟨_, _, [], _, by rw [List.append_nil]⟩

theorem TimingLine.trans {r r' r'' : Port} (h : TimingLine r r') (h' : TimingLine r' r'') : TimingLine r r'' := by
  obtain ⟨_, _, _, _, rfl⟩ := h
  obtain ⟨_, _, _, _, rfl⟩ := h'
  exact ⟨_, _, _, _, by rw [List.append_assoc]⟩

theorem timingLine_offerTiming (r : Port) (b : Option Burst) (e : Nat) (i : TimingItem) :
    TimingLine r (Port.offerTiming { r with burst := b, echoNumber := e } i) := by
  unfold Port.offerTiming
  split
  · exact ⟨_, _, [i], _, rfl⟩
  · exact ⟨_, _, [], _, by rw [List.append_nil]⟩

/-- From `s` to `t` marks and echoes are offered to the ports. -/
structure Timed (s t : State) : Prop where
  units : t = s.withPorts t
  ports : ∀ p, TimingLine (s.port p) (t.port p)

theorem Timed.refl (s : State) : Timed s s := ⟨rfl, fun _ => .refl _⟩

theorem Timed.trans (h : Timed s t) (h' : Timed t u) : Timed s u :=
  ⟨by rw [h'.units, h.units]; rfl, fun p => (h.ports p).trans (h'.ports p)⟩

theorem timed_updPort {f : Port → Port} (hf : TimingLine (s.port p) (f (s.port p))) : Timed s (s.updPort p f) := by
  refine ⟨updPort_withPorts f, fun q => ?_⟩
  rw [State.port_updPort]
  split
  · next h => rw [h]; exact hf
  · exact .refl _

theorem Timed.same (h : Timed s t) : t.topo = s.topo ∧ t.rtu = s.rtu ∧ t.trig = s.trig ∧ t.sideband = s.sideband ∧
    t.trans = s.trans ∧ t.router = s.router ∧ t.bindings = s.bindings ∧ t.slots = s.slots ∧ t.channels = s.channels ∧
    t.mgmt = s.mgmt := by
  rw [h.units]
  exact ⟨rfl, rfl, rfl, rfl, rfl, rfl, rfl, rfl, rfl, rfl⟩

theorem timed_rootMarks (s : State) : Timed s (rootMarks s) := by
  unfold rootMarks
  split
  · refine List.foldlRecOn _ _ (motive := Timed s) (.refl s) fun u hu p _ => hu.trans ?_
    split
    · exact timed_updPort (timingLine_offerTiming (u.port p) (u.port p).burst (u.port p).echoNumber .rootMark)
    · exact .refl u
  · exact .refl s

theorem timed_offerEcho (p : PortId) (s : State) : Timed s (offerEcho p s) := by
  refine timed_updPort ?_
  dsimp only
  split
  · exact .refl _
  · exact timingLine_offerTiming _ _ _ _

theorem timed_scheduleBurst (p : PortId) (s : State) : Timed s (scheduleBurst p s) := by
  unfold scheduleBurst
  split
  · exact (timed_updPort ⟨_, _, [], _, by rw [List.append_nil]⟩).trans (timed_offerEcho p _)
  · exact .refl s

/-! ## The boundary event, stage by stage (R43) -/

/-- R43: the boundary instant is STEPPED or LOADED. -/
def State.jumps (s : State) : Bool := s.rtu.boundaryInstant.2.1 || s.rtu.boundaryInstant.2.2

/-- R102, R107: the boundary is a stepped, a loaded or a wrapping one. -/
def State.restarts (s : State) : Bool := s.jumps || epochWrapped s.rtu.epoch s.rtu.boundaryInstant.1.1.epoch

/-- The state at the boundary instant, once the packers have closed. -/
def State.atInstant (s : State) : State := (closePackers s).applyRtu s.rtu.boundaryInstant.1

/-- The state once the ports and the timebase have counted the boundary event. -/
def State.boundaryCounted (s : State) : State :=
  { s.atInstant with
    port0 := s.atInstant.port0.boundary s.jumps, port1 := s.atInstant.port1.boundary s.jumps }.applyRtu
      s.atInstant.rtu.boundaryCounts

/-- The state once the Topology Unit has reacted. -/
def State.boundaryRooted (s : State) : State := topologyBoundary s.boundaryCounted

/-- The state once the Trigger Unit has reacted. -/
def State.boundaryFired (s : State) : State := triggerBoundary s.jumps s.boundaryRooted

/-- The state once the Delivery Unit has reacted. -/
def State.boundaryTurned (s : State) : State := deliveryBoundary s.restarts (reopenPackers s.boundaryFired)

/-- The state once the slots and the channels have reacted. -/
def State.boundaryPassed (s : State) : State := channelsBoundary ((List.range 16).foldl passBoundary s.boundaryTurned)

theorem closePackers_rtu (s : State) : (closePackers s).rtu = s.rtu := by
  obtain ⟨_, _, _, _, _, _, h⟩ := (packed_closePackers s).units
  rw [h]

theorem atInstant_rtu (s : State) : s.atInstant.rtu = s.rtu.boundaryInstant.1.1 := by
  rw [State.atInstant, applyRtu_frame]

theorem epochBoundary_eq (s : State) :
    epochBoundary s = scheduleBurst .p1 (scheduleBurst .p0 (rootMarks s.boundaryPassed)) := by
  have hrun : epochBoundary s = boundaryEvent s.jumps s.restarts s.atInstant := by
    unfold epochBoundary State.restarts State.jumps
    dsimp only
    rw [closePackers_rtu, ← atInstant_rtu]
    rfl
  rw [hrun]
  rfl

theorem timed_boundary (s : State) : Timed s.boundaryPassed (epochBoundary s) := by
  rw [epochBoundary_eq]
  exact ((timed_rootMarks _).trans (timed_scheduleBurst _ _)).trans (timed_scheduleBurst _ _)

theorem passed_frame (s : State) : ∃ sl, channelsBoundary ((List.range 16).foldl passBoundary s) = { s with
    slots := sl, channels := tmap {} (fun r => { r with chunksThisEpoch := 0 }) s.channels } := by
  have hpass := passBoundaries_withSlots s
  obtain ⟨f, hf⟩ : ∃ f, f = (List.range 16).foldl passBoundary s := ⟨_, rfl⟩
  rw [← hf] at hpass ⊢
  rw [hpass]
  exact ⟨f.slots, rfl⟩

/-- Of the state in which the marks are offered all but the slots and the channels comes of the deliveries. -/
theorem boundaryPassed_frame (s : State) : ∃ sl, s.boundaryPassed = { s.boundaryTurned with
    slots := sl, channels := tmap {} (fun r => { r with chunksThisEpoch := 0 }) s.boundaryTurned.channels } :=
  passed_frame s.boundaryTurned

theorem boundaryTurned_frame (s : State) :
    ∃ ro bs sl m, s.boundaryTurned = { s.boundaryFired with router := ro, bindings := bs, slots := sl, mgmt := m } := by
  obtain ⟨_, hre⟩ := reopenPackers_frame s.boundaryFired
  obtain ⟨_, _, _, ht⟩ := (turned_deliveryBoundary s.restarts (reopenPackers s.boundaryFired)).units
  rw [State.boundaryTurned, ht, hre]
  exact ⟨_, _, _, _, rfl⟩

theorem boundaryCounted_frame (s : State) : ∃ a b ro bs q sl m, s.boundaryCounted = { s with
    port0 := a, port1 := b, router := ro, bindings := bs, pool := q, slots := sl
    rtu := s.atInstant.rtu.boundaryCounts.1, mgmt := m } := by
  obtain ⟨_, _, _, _, _, _, h⟩ := (packed_closePackers s).units
  rw [State.boundaryCounted, applyRtu_frame, State.atInstant, applyRtu_frame, h]
  exact ⟨_, _, _, _, _, _, _, rfl⟩

/-- The units whose last part in the boundary event is the Topology Unit's or the Trigger Unit's. -/
theorem boundaryPassed_units (s : State) : s.boundaryPassed.topo = s.boundaryRooted.topo ∧
    s.boundaryPassed.rtu = s.boundaryRooted.rtu ∧ s.boundaryPassed.trig = s.boundaryFired.trig ∧
    s.boundaryPassed.sideband = s.boundaryFired.sideband ∧ s.boundaryPassed.trans = s.trans ∧
    ∀ p, s.boundaryPassed.port p = s.boundaryRooted.port p := by
  obtain ⟨_, hp⟩ := boundaryPassed_frame s
  obtain ⟨_, _, _, _, ht⟩ := boundaryTurned_frame s
  obtain ⟨_, _, _, hf⟩ := triggerBoundary_frame s.jumps s.boundaryRooted
  obtain ⟨_, _, _, _, _, _, hr⟩ := (rooted_topologyBoundary s.boundaryCounted).units
  obtain ⟨_, _, _, _, _, _, _, hc⟩ := boundaryCounted_frame s
  have hf' : s.boundaryFired = _ := hf
  have hr' : s.boundaryRooted = _ := hr
  refine ⟨?_, ?_, ?_, ?_, ?_, fun p => ?_⟩
  · rw [hp, ht, hf']
  · rw [hp, ht, hf']
  · rw [hp, ht]
  · rw [hp, ht]
  · rw [hp, ht, hf', hr', hc]
  · rw [hp, ht, hf']
    cases p <;> rfl

theorem epochBoundary_units (s : State) : (epochBoundary s).topo = s.boundaryRooted.topo ∧
    (epochBoundary s).rtu = s.boundaryRooted.rtu ∧ (epochBoundary s).trig = s.boundaryFired.trig ∧
    (epochBoundary s).sideband = s.boundaryFired.sideband ∧ (epochBoundary s).trans = s.trans := by
  obtain ⟨htopo, hrtu, htrig, hside, htrans, -⟩ := boundaryPassed_units s
  obtain ⟨htopo', hrtu', htrig', hside', htrans', -⟩ := (timed_boundary s).same
  exact ⟨htopo'.trans htopo, hrtu'.trans hrtu, htrig'.trans htrig, hside'.trans hside, htrans'.trans htrans⟩

theorem settleDrains_port (s : State) (p : PortId) : (settleDrains s).port p = s.port p := by
  obtain ⟨_, _, h⟩ := settleDrains_frame s
  rw [h]
  cases p <;> rfl

/-- R43, R155: the boundary event routes no entry again. -/
theorem exec_epochBoundary (h : s.routed) : exec .epochBoundary s = .next (settleDrains (epochBoundary s)) := by
  have hr : (epochBoundary s).routed := fun x hx => h x (by rwa [(epochBoundary_units s).2.2.2.2] at hx)
  have hfin : finish (epochBoundary s) = settleDrains (epochBoundary s) := by rw [finish, rerouteAll_of_routed 33 hr]
  rw [← hfin]
  rfl

/-- R10, R11, R19, R21: a port at a boundary event, but for what is queued and offered. -/
theorem boundaryCounted_port (s : State) (p : PortId) :
    ∃ q c, s.boundaryCounted.port p = Port.boundary s.jumps { s.port p with qStream := q, counters := c } := by
  obtain ⟨q, c, h⟩ := (packed_closePackers s).ports p
  refine ⟨q, c, ?_⟩
  have hinstant : s.atInstant.port p = { s.port p with qStream := q, counters := c } := by
    rw [State.atInstant, port_applyRtu, h]
  rw [State.boundaryCounted, port_applyRtu, ← hinstant]
  cases p <;> rfl

theorem boundaryPassed_port (s : State) (p : PortId) : LinkLine (s.boundaryCounted.port p) (s.boundaryPassed.port p) := by
  rw [(boundaryPassed_units s).2.2.2.2.2 p]
  exact (rooted_topologyBoundary s.boundaryCounted).links p

/-- R27 to R29: the topology record after the Topology Unit's part. -/
theorem topologyBoundary_topo (s : State) : ∃ r h c d, (topologyBoundary s).topo = { s.topo with
    mark0 := s.topo.mark0.map MarkRecord.older, mark1 := s.topo.mark1.map MarkRecord.older
    rootward := r, hops := h, rootwardChanges := c, directory := d } := by
  unfold topologyBoundary chooseRootward dropStaleRootward rootwardLost
  dsimp only
  split
  · split
    · exact ⟨_, _, _, _, rfl⟩
    · split
      · obtain ⟨d, h⟩ := rootwardChange_topo _ _
        exact ⟨_, _, _, _, h⟩
      · exact ⟨_, _, _, _, rfl⟩
  · split
    · split
      · split
        · obtain ⟨d, h⟩ := rootwardChange_topo _ _
          exact ⟨_, _, _, _, h⟩
        · exact ⟨_, _, _, _, rfl⟩
      · exact ⟨_, _, _, _, rfl⟩
    · exact ⟨_, _, _, _, rfl⟩

theorem jumps_iff : s.jumps = true ↔ s.rtu.pendingLoad ≠ none ∨ s.rtu.pendingStep ≠ none := by
  unfold State.jumps Rtu.boundaryInstant
  dsimp only
  cases s.rtu.pendingLoad <;> cases s.rtu.pendingStep <;> simp

/-! ## The root's marks (O27) -/

/-- R45: a root's MARK to one port, where that is UP. -/
def offerMark (s : State) (p : PortId) : State :=
  if s.isUp p then s.updPort p (fun r => r.offerTiming .rootMark) else s

theorem rootMarks_eq (hroot : s.topo.root = true) : rootMarks s = offerMark (offerMark s .p0) .p1 := if_pos hroot

theorem offerMark_other {q : PortId} (h : p ≠ q) (s : State) : (offerMark s q).port p = s.port p := by
  unfold offerMark
  split
  · rw [State.port_updPort, if_neg h]
  · rfl

theorem offerMark_same (hup : s.isUp p = true) (hroom : (s.port p).qTiming.length < 8) :
    ((offerMark s p).port p).qTiming = (s.port p).qTiming ++ [.rootMark] := by
  rw [offerMark, if_pos hup, State.port_updPort, if_pos rfl, Port.offerTiming, if_pos hroom]

/-- R45: a root offers its MARK to each UP port with room. -/
theorem rootMarks_port (hroot : s.topo.root = true) (hup : s.isUp p = true) (hroom : (s.port p).qTiming.length < 8) :
    ((rootMarks s).port p).qTiming = (s.port p).qTiming ++ [.rootMark] := by
  rw [rootMarks_eq hroot]
  cases p with
  | p0 => rw [offerMark_other (by decide), offerMark_same hup hroom]
  | p1 =>
    have hfirst : (offerMark s .p0).port .p1 = s.port .p1 := offerMark_other (by decide) s
    rw [offerMark_same (by rw [State.isUp, hfirst]; exact hup) (by rwa [hfirst]), hfirst]

/-- Settles O27. -/
theorem rootOffersMarks : Obligations.RootOffersMarks := by
  intro p s hrouted hroot hup hroom
  obtain ⟨q, c, hcount⟩ := boundaryCounted_port s p
  obtain ⟨l, a, b, c', hlink⟩ := boundaryPassed_port s p
  have htopo : s.boundaryPassed.topo.root = true := by
    obtain ⟨_, _, _, _, h⟩ := topologyBoundary_topo s.boundaryCounted
    obtain ⟨_, _, _, _, _, _, _, hc⟩ := boundaryCounted_frame s
    rw [(boundaryPassed_units s).1, State.boundaryRooted, h, hc]
    exact hroot
  have hqt : (s.boundaryPassed.port p).qTiming =
      if s.jumps = true then (s.port p).qTiming.map TimingItem.span else (s.port p).qTiming := by rw [hlink, hcount]; rfl
  have hstate : s.boundaryPassed.isUp p = true := by
    rw [State.isUp, hlink, hcount]
    simpa [Port.boundary] using hup
  have hlen : (s.boundaryPassed.port p).qTiming.length < 8 := by
    rw [hqt]
    split
    · rwa [List.length_map]
    · exact hroom
  have hmark := rootMarks_port htopo hstate hlen
  obtain ⟨_, _, m, _, hbursts⟩ := ((timed_scheduleBurst .p0 (rootMarks s.boundaryPassed)).trans (timed_scheduleBurst .p1 _)).ports p
  refine ⟨_, (s.boundaryPassed.port p).qTiming, m, exec_epochBoundary hrouted, ?_, ?_⟩
  · rw [settleDrains_port, epochBoundary_eq, hbursts]
    dsimp only
    rw [hmark, List.append_assoc]
    rfl
  · rw [hqt]
    simp only [jumps_iff]

end Sys2Proof.Machine
end

section
/-! SUPPORT. The source packers (R79 to R83): bursts gathered, parcels cut, and an epoch closed and opened at a boundary
event. The statement about them (O37). -/

namespace Sys2Proof.Machine

variable {s t u : State} {p : PortId} {tag : Nat} {x : StreamParcel}

/-! ## The entry of a parcel that the router takes (R84 to R88) -/

theorem RouteEntry.track_packer (e : RouteEntry) (x : StreamParcel) :
    (e.track x).packer = e.packer ∧ (e.track x).source = e.source := by
  unfold RouteEntry.track
  split <;> exact ⟨rfl, rfl⟩

theorem setRoute_route_other {j k : Nat} (e : RouteEntry) (h : j ≠ k) : (s.setRoute k e).route j = s.route j := by
  rw [State.route_setRoute, if_neg h]

theorem withPorts_route (s t : State) (k : Nat) : (s.withPorts t).route k = s.route k := rfl

/-- R86 to R88: forwarding and handing over count copies at the entry, and touch no other. -/
theorem route_forwarded (src : Option PortId) (x : StreamParcel) (e e' : RouteEntry) (s : State) :
    ∃ n, ∀ k, (handOver e' x (forwardStream src x (s.setRoute x.tag e))).route k =
      (s.setRoute x.tag { e with forwarded := n }).route k := by
  unfold forwardStream
  obtain ⟨n, t, ht, -⟩ := foldl_offerCopy x.tag x ((s.setRoute x.tag e).outPorts src ((s.setRoute x.tag e).route x.tag)) e s
  obtain ⟨sl, b, m, hh⟩ := handOver_frame e' x ((s.setRoute x.tag { e with forwarded := n }).withPorts t)
  refine ⟨n, fun k => ?_⟩
  rw [ht, hh]
  rfl

theorem takeStream_route (src : Option PortId) (x : StreamParcel) (s : State) : ∃ e, (∀ k, (takeStream src x s).route k =
    (s.setRoute x.tag e).route k) ∧ e.inCount = bump (s.route x.tag).inCount ∧ e.packer = (s.route x.tag).packer ∧
    e.source = (s.route x.tag).source := by
  unfold takeStream
  dsimp only
  split
  · refine ⟨{ s.route x.tag with
      inCount := bump (s.route x.tag).inCount, unrouted := bump (s.route x.tag).unrouted }, fun k => ?_, rfl, rfl, rfl⟩
    cases src with
    | none => rfl
    | some q => cases q <;> rfl
  · split
    · exact ⟨_, fun _ => rfl, rfl, rfl, rfl⟩
    · split
      · exact ⟨_, fun _ => rfl, rfl, rfl, rfl⟩
      · split
        · exact ⟨_, fun _ => rfl, rfl, rfl, rfl⟩
        · obtain ⟨n, hn⟩ := route_forwarded src x (({ s.route x.tag with
            inCount := bump (s.route x.tag).inCount } : RouteEntry).track x) { s.route x.tag with
            inCount := bump (s.route x.tag).inCount } s
          obtain ⟨hp, hs⟩ := RouteEntry.track_packer { s.route x.tag with inCount := bump (s.route x.tag).inCount } x
          exact ⟨_, hn, RouteEntry.track_inCount _ _, hp, hs⟩

/-! ## Bursts (R80, R81) -/

theorem takesBurst_some {i n : Nat} {k : Packer} (ht : tag ≤ 1023) (ha : (s.route tag).active = true)
    (hs : (s.route tag).source = some i) (hst : (s.slot i).state = .admitted) (hp : (s.route tag).packer = some k)
    (ho : k.openEpoch = some n) : s.takesBurst i tag = some k := by
  simp [State.takesBurst, ht, ha, hs, hst, hp, ho]

theorem takesBurst_none {i : Nat} (h : 1023 < tag ∨ (s.route tag).active = false ∨ (s.route tag).source ≠ some i ∨
    (s.route tag).packer.bind (·.openEpoch) = none) : s.takesBurst i tag = none := by
  unfold State.takesBurst
  dsimp only
  split
  · next hc =>
    obtain ⟨ht, ha, hs, -⟩ := hc
    cases hp : (s.route tag).packer with
    | none => rfl
    | some k =>
      have hopen : k.openEpoch = none := by
        rcases h with h | h | h | h
        · omega
        · rw [h] at ha; cases ha
        · exact absurd hs h
        · rwa [hp] at h
      simp only [hopen, Option.isSome_none, Bool.false_eq_true, if_false]
  · rfl

/-- R80: a packer that gathers a burst which is not empty. -/
theorem Packer.gather_eq (k : Packer) (q : Nat) {data : List Byte} (h : 0 < data.length) : k.gather q data = { k with
    gathered := k.gathered + (data.take (q - k.gathered)).length, held := k.held ++ data.take (q - k.gathered)
    truncated := k.truncated || decide (q < k.gathered + data.length) } := by
  have hcut : ((data.take (q - k.gathered)).length < data.length) = (q < k.gathered + data.length) := by
    rw [List.length_take]
    exact propext ⟨fun _ => by omega, fun _ => by omega⟩
  unfold Packer.gather
  dsimp only
  simp only [hcut]

theorem exec_sampleBurst {i : Fin 16} {data : List Byte} (hl : (s.slot i).lane = .up) (h0 : 0 < data.length)
    (h256 : data.length ≤ 256) (h4 : data.length % 4 = 0) :
    exec (.sampleBurst i tag data) s = .next (takeBurst i.val tag data s) := by
  have hgood : ¬(data.length = 0 ∨ 256 < data.length ∨ data.length % 4 ≠ 0) := by omega
  exact congrArg Host.Outcome.next ((fromModule_up (s := s) i.val _ hl).trans (if_neg hgood))

/-- R81: the entry once its packer cuts a full parcel. -/
theorem cutFull_route (tag : Nat) (k : Packer) (s : State) :
    ((cutFull tag k s).route tag).inCount = bump (s.route tag).inCount ∧
    ((cutFull tag k s).route tag).packer = some { k with held := k.held.drop 256, nextSeq := k.nextSeq + 1 } := by
  obtain ⟨e, hroute, hin, hpacker, -⟩ := takeStream_route none (s.packedParcel tag k false false false (k.held.take 256))
    (s.setPacker tag { k with held := k.held.drop 256, nextSeq := k.nextSeq + 1 })
  have htag : (s.packedParcel tag k false false false (k.held.take 256)).tag = tag := rfl
  rw [htag, State.setPacker, State.route_setRoute_same] at hin hpacker
  have hcut : (cutFull tag k s).route tag = e := by
    rw [cutFull, hroute, htag, State.route_setRoute_same]
  rw [hcut]
  exact ⟨hin, hpacker⟩

/-! ## The boundary (R82, R83) -/

/-- R82, R83: the LAST parcel with which a packer closes its Open Epoch. -/
def State.lastParcel (s : State) (tag : Nat) (k : Packer) : StreamParcel :=
  if k.sourceSeen then s.packedParcel tag k true false k.truncated k.held else s.packedParcel tag k true true false []

theorem closePacker_open {k : Packer} {n : Nat} (hp : (s.route tag).packer = some k) (ho : k.openEpoch = some n) :
    closePacker s tag = takeStream none (s.lastParcel tag k) s := by
  have hopen : k.openEpoch.isNone = false := by rw [ho]; rfl
  unfold closePacker State.lastParcel
  simp only [hp, hopen, Bool.false_eq_true, if_false]
  split <;> rfl

theorem closePacker_none (hp : (s.route tag).packer = none) : closePacker s tag = s := by
  unfold closePacker
  simp only [hp]

theorem lastParcel_tag (s : State) (tag : Nat) (k : Packer) : (s.lastParcel tag k).tag = tag := by
  unfold State.lastParcel
  split <;> rfl

theorem lastParcel_eq (tag : Nat) (k : Packer) (s : State) : s.lastParcel tag k = {
    tag := tag, source := s.frameCode, epoch := k.openEpoch.getD 0 % 65536, last := true
    seq := if k.sourceSeen = true then k.nextSeq else 0
    absent := !k.sourceSeen, truncated := k.sourceSeen && k.truncated
    payload := if k.sourceSeen = true then k.held else [] } := by
  unfold State.lastParcel
  cases hseen : k.sourceSeen <;> simp [State.packedParcel]

theorem mem_keys_of_packer (hp : (s.route tag).packer.isSome = true) : tag ∈ s.router.table.map (·.1) := by
  have hfound : (tfind s.router.table tag).isSome = true := by
    cases hf : tfind s.router.table tag with
    | some e => rfl
    | none =>
      have hdefault : s.route tag = {} := by rw [State.route, tgetD, hf]; rfl
      rw [hdefault] at hp
      cases hp
  obtain ⟨e, he⟩ := Option.isSome_iff_exists.1 hfound
  exact List.mem_map.2 ⟨_, mem_of_tfind he, rfl⟩

/-- R82: where one packer alone is at work, its LAST parcel is what closing the packers hands to the router. -/
theorem closePackers_single {k : Packer} {n : Nat} (hsort : tsorted s.router.table = true)
    (hother : ∀ j, j ≠ tag → (s.route j).packer = none) (hp : (s.route tag).packer = some k) (ho : k.openEpoch = some n) :
    closePackers s = takeStream none (s.lastParcel tag k) s := by
  have hnodup : (s.router.table.map (·.1)).Nodup := by
    have hpw := (tsorted_iff _).1 hsort
    exact (List.pairwise_map.2 hpw).imp (fun h => Nat.ne_of_lt h)
  obtain ⟨e, hroute, -⟩ := takeStream_route none (s.lastParcel tag k) s
  rw [closePackers, foldl_single _ (mem_keys_of_packer (by rw [hp]; rfl)) hnodup
    (fun j _ hj => closePacker_none (hother j hj)) fun j _ hj => ?_, closePacker_open hp ho]
  refine closePacker_none ?_
  rw [closePacker_open hp ho, hroute, lastParcel_tag, setRoute_route_other _ hj]
  exact hother j hj

/-- R79, R82: a packer once it has opened the event's epoch. -/
theorem reopenPacker_route (hp : (s.route tag).packer.isSome = true) : (reopenPacker s tag).route tag =
    { s.route tag with packer := some (Packer.reopen s.rtu.epoch (s.sourceAdmitted (s.route tag))) } := by
  obtain ⟨k, hk⟩ := Option.isSome_iff_exists.1 hp
  simp only [reopenPacker, hk, State.setPacker, State.route_setRoute_same]

theorem reopenPacker_other {j : Nat} (h : tag ≠ j) (s : State) : (reopenPacker s j).route tag = s.route tag := by
  unfold reopenPacker
  split
  · rfl
  · exact setRoute_route_other _ h

theorem reopenPacker_frame (s : State) (j : Nat) : ∃ ro, reopenPacker s j = { s with router := ro } := by
  unfold reopenPacker
  split
  · exact ⟨_, rfl⟩
  · exact ⟨_, rfl⟩

/-- R82: once its packer has opened the epoch, the other packers leave an entry alone, and it itself does so again. -/
theorem foldl_reopenPacker (l : List Nat) (hp : (s.route tag).packer.isSome = true) :
    (l.foldl reopenPacker s).route tag = if tag ∈ l then
      { s.route tag with packer := some (Packer.reopen s.rtu.epoch (s.sourceAdmitted (s.route tag))) } else s.route tag := by
  induction l generalizing s with
  | nil => rfl
  | cons j l ih =>
    obtain ⟨_, hframe⟩ := reopenPacker_frame s j
    have hsame : (reopenPacker s j).rtu = s.rtu ∧ ∀ e, (reopenPacker s j).sourceAdmitted e = s.sourceAdmitted e := by
      rw [hframe]
      exact ⟨rfl, fun _ => rfl⟩
    rw [List.foldl_cons]
    by_cases hj : tag = j
    · subst hj
      have hroute := reopenPacker_route hp
      have hadm : s.sourceAdmitted { s.route tag with packer := some (Packer.reopen s.rtu.epoch (s.sourceAdmitted (s.route tag))) } =
          s.sourceAdmitted (s.route tag) := rfl
      rw [ih (by rw [hroute]; rfl), hsame.1, hsame.2, hroute, hadm]
      simp
    · have hroute := reopenPacker_other hj s
      rw [ih (by rwa [hroute]), hsame.1, hsame.2, hroute]
      simp [hj]

theorem reopenPackers_route (hp : (s.route tag).packer.isSome = true) : (reopenPackers s).route tag =
    { s.route tag with packer := some (Packer.reopen s.rtu.epoch (s.sourceAdmitted (s.route tag))) } := by
  rw [reopenPackers, foldl_reopenPacker _ hp, if_pos (mem_keys_of_packer hp)]

theorem reopenPackers_of_none (h : ∀ k, (s.route k).packer = none) : reopenPackers s = s := by
  unfold reopenPackers
  refine List.foldlRecOn _ _ (motive := fun u => u = s) rfl fun u hu j _ => ?_
  rw [hu]
  simp only [reopenPacker, h j]

theorem closePackers_of_none (h : ∀ k, (s.route k).packer = none) : closePackers s = s := by
  unfold closePackers
  refine List.foldlRecOn _ _ (motive := fun u => u = s) rfl fun u hu j _ => ?_
  rw [hu]
  exact closePacker_none (h j)

/-! ## The Route Table through a boundary event -/

theorem boundaryFired_table (s : State) : s.boundaryFired.router.table = (closePackers s).router.table := by
  obtain ⟨_, _, _, hf⟩ := triggerBoundary_frame s.jumps s.boundaryRooted
  have hcount : s.boundaryCounted.router = (closePackers s).router := by
    rw [State.boundaryCounted, applyRtu_frame, State.atInstant, applyRtu_frame]
  rw [State.boundaryFired, hf]
  exact (rooted_topologyBoundary s.boundaryCounted).table.trans (congrArg Router.table hcount)

theorem boundaryFired_route (s : State) (k : Nat) : s.boundaryFired.route k = (closePackers s).route k := by
  rw [State.route, boundaryFired_table]
  rfl

theorem boundaryFired_slots (s : State) : s.boundaryFired.slots = (closePackers s).slots := by
  obtain ⟨_, _, _, hf⟩ := triggerBoundary_frame s.jumps s.boundaryRooted
  obtain ⟨_, _, _, _, _, _, hr⟩ := (rooted_topologyBoundary s.boundaryCounted).units
  have hcount : s.boundaryCounted.slots = (closePackers s).slots := by
    rw [State.boundaryCounted, applyRtu_frame, State.atInstant, applyRtu_frame]
  rw [State.boundaryFired, hf, State.boundaryRooted, hr]
  exact hcount

theorem boundaryPassed_router (s : State) : s.boundaryPassed.router = (reopenPackers s.boundaryFired).router := by
  obtain ⟨_, hp⟩ := boundaryPassed_frame s
  obtain ⟨_, _, _, ht⟩ := (turned_deliveryBoundary s.restarts (reopenPackers s.boundaryFired)).units
  rw [hp, State.boundaryTurned, ht]

theorem epochBoundary_route (s : State) (k : Nat) : (epochBoundary s).route k = (reopenPackers s.boundaryFired).route k := by
  obtain ⟨-, -, -, -, -, hr, -⟩ := (timed_boundary s).same
  rw [State.route, hr, boundaryPassed_router]
  rfl

/-! ## The LAST parcel in a stream queue (R86, R87) -/

theorem offerCopy_port (tag : Nat) (x : StreamParcel) (s : State) (p q : PortId) :
    (offerCopy tag x s q).port p = if p = q then (s.port p).offerStream x else s.port p := by
  unfold offerCopy
  dsimp only
  rw [State.port_updPort, setRoute_port]

/-- R87: each port of a list is offered one copy. -/
theorem foldl_offerCopy_port (tag : Nat) (x : StreamParcel) {l : List PortId} (hl : l.Nodup) (s : State) (p : PortId) :
    (l.foldl (offerCopy tag x) s).port p = if p ∈ l then (s.port p).offerStream x else s.port p := by
  induction l generalizing s with
  | nil => rfl
  | cons q l ih =>
    obtain ⟨hq, hl⟩ := List.nodup_cons.1 hl
    rw [List.foldl_cons, ih hl, offerCopy_port]
    by_cases hp : p = q
    · subst hp
      simp [hq]
    · simp [hp]

theorem outPorts_nodup (src : Option PortId) (e : RouteEntry) (s : State) : (s.outPorts src e).Nodup :=
  List.Nodup.filter _ (by decide)

/-- R86: a parcel of this frame goes out of a child port where its entry forwards away. -/
theorem mem_outPorts_local {e : RouteEntry} (ha : e.fwdAway = true) (hc : s.isChild p = true) : p ∈ s.outPorts none e := by
  have hup : s.isUp p = true := by
    simp only [State.isChild, Bool.and_eq_true] at hc
    exact hc.1.1
  refine List.mem_filter.2 ⟨by cases p <;> decide, ?_⟩
  simp [hup, ha, hc]

/-- R84 to R87: a parcel of this frame for an entry with no sink and no binding. -/
theorem takeStream_local (ha : (s.route x.tag).active = true) (hq : x.seq ≤ (s.route x.tag).q / 256)
    (hf : (s.route x.tag).fwdAway = true) (hs : (s.route x.tag).sinks = 0) (hb : (s.route x.tag).binding = none)
    (hc : s.isChild p = true) : (takeStream none x s).port p = (s.port p).offerStream x := by
  obtain ⟨e, he⟩ : ∃ e, e = (s.route x.tag).counted := ⟨_, rfl⟩
  have hrun : takeStream none x s = handOver e x (forwardStream none x (s.setRoute x.tag (e.track x))) := by
    rw [he]
    simp [takeStream, ha, State.isLooped, State.offTree, Nat.not_lt.2 hq, RouteEntry.counted]
  have hfwd : ((s.setRoute x.tag (e.track x)).route x.tag).fwdAway = true := by
    rw [State.route_setRoute_same, RouteEntry.track, he]
    split <;> exact hf
  have hchild : (s.setRoute x.tag (e.track x)).isChild p = true := by
    rw [← hc]
    cases p <;> rfl
  rw [hrun, handOver_unbound (by rw [he]; exact hb), show e.sinks = 0 by rw [he]; exact hs, sendParcel_none, forwardStream,
    foldl_offerCopy_port _ _ (outPorts_nodup _ _ _), if_pos (mem_outPorts_local hfwd hchild), setRoute_port]

/-- R82: the packers' part in a boundary event reaches a port's stream queue; nothing else does. -/
theorem epochBoundary_qStream (s : State) (p : PortId) :
    ((epochBoundary s).port p).qStream = ((closePackers s).port p).qStream := by
  have hcount : s.boundaryCounted.port p = Port.boundary s.jumps ((closePackers s).port p) := by
    have hinstant : s.atInstant.port p = (closePackers s).port p := port_applyRtu _ _ _
    rw [State.boundaryCounted, port_applyRtu, ← hinstant]
    cases p <;> rfl
  obtain ⟨_, _, _, _, hlink⟩ := boundaryPassed_port s p
  obtain ⟨_, _, _, _, htime⟩ := (timed_boundary s).ports p
  rw [htime, hlink, hcount]
  rfl

theorem settleDrains_route (s : State) (k : Nat) : (settleDrains s).route k = s.route k := by
  obtain ⟨_, _, h⟩ := settleDrains_frame s
  rw [h]
  rfl

theorem settleDrains_rtu (s : State) : (settleDrains s).rtu = s.rtu := by
  obtain ⟨_, _, h⟩ := settleDrains_frame s
  rw [h]

/-- R82: at the boundary's instant a slot's state is what it was. -/
theorem boundaryFired_slot (s : State) (i : Nat) : (s.boundaryFired.slot i).state = (s.slot i).state := by
  obtain ⟨_, _, _, _, h⟩ := (packed_closePackers s).slots i
  have hslot : s.boundaryFired.slot i = (closePackers s).slot i := by rw [State.slot, boundaryFired_slots]; rfl
  rw [hslot, h]

/-- R79, R82, R83: the entry of the one packer at work, once the boundary event has passed. -/
theorem epochBoundary_packer {k : Packer} {n : Nat} (hsort : tsorted s.router.table = true)
    (hother : ∀ j, j ≠ tag → (s.route j).packer = none) (hp : (s.route tag).packer = some k) (ho : k.openEpoch = some n) :
    ((epochBoundary s).route tag).inCount = bump (s.route tag).inCount ∧ ((epochBoundary s).route tag).packer =
      some (Packer.reopen (epochBoundary s).rtu.epoch (s.sourceAdmitted (s.route tag))) := by
  obtain ⟨e, hroute, hin, hpacker, hsource⟩ := takeStream_route none (s.lastParcel tag k) s
  rw [lastParcel_tag] at hin hpacker hsource
  have hfired : s.boundaryFired.route tag = e := by
    rw [boundaryFired_route, closePackers_single hsort hother hp ho, hroute, lastParcel_tag, State.route_setRoute_same]
  have hrtu : s.boundaryFired.rtu = (epochBoundary s).rtu := by
    obtain ⟨_, _, _, hf⟩ := triggerBoundary_frame s.jumps s.boundaryRooted
    rw [(epochBoundary_units s).2.1, State.boundaryFired, hf]
  have hadm : s.boundaryFired.sourceAdmitted e = s.sourceAdmitted (s.route tag) := by
    unfold State.sourceAdmitted
    rw [hsource]
    split
    · rw [boundaryFired_slot]
    · rfl
  rw [epochBoundary_route, reopenPackers_route (by rw [hfired, hpacker, hp]; rfl), hfired, hadm, hrtu]
  exact ⟨hin, rfl⟩

/-- R80, R81: what a burst that its packer gathers comes to. -/
theorem takeBurst_gathers {i : Nat} {k full : Packer} {data : List Byte} (h : s.takesBurst i tag = some k)
    (hfull : full = k.gather (s.route tag).q data) :
    (full.held.length < 256 → takeBurst i tag data s = s.setRoute tag { s.route tag with packer := some full }) ∧
    (256 ≤ full.held.length → ((takeBurst i tag data s).route tag).inCount = bump (s.route tag).inCount ∧
      ((takeBurst i tag data s).route tag).packer =
        some { full with held := full.held.drop 256, nextSeq := full.nextSeq + 1 }) := by
  have hrun : takeBurst i tag data s = if 256 ≤ full.held.length then cutFull tag full s else s.setPacker tag full := by
    rw [hfull]
    simp only [takeBurst, h]
  rw [hrun]
  refine ⟨fun hshort => ?_, fun hlong => ?_⟩
  · rw [if_neg (Nat.not_le.2 hshort)]
    rfl
  · rw [if_pos hlong]
    exact cutFull_route tag full s

/-- Settles O37. -/
theorem burstsAreGathered : Obligations.BurstsAreGathered := by
  intro tag s
  dsimp only
  refine ⟨fun i data hl hst h0 h256 h4 => ?_, fun k n p hr _ hroot _ hsort hother ha hf hs hb hp ho hseq hc hroom => ?_⟩
  · rw [exec_sampleBurst hl h0 h256 h4]
    refine ⟨fun k n ⟨ht, ha, hs, hp, ho⟩ => ?_, fun h => ?_⟩
    · obtain ⟨hshort, hlong⟩ := takeBurst_gathers (takesBurst_some ht ha hs hst hp ho)
        (Packer.gather_eq k (s.route tag).q h0).symm
      exact ⟨_, rfl, hshort, hlong⟩
    · simp only [takeBurst, takesBurst_none h]
      rfl
  · obtain ⟨hin, hpacker⟩ := epochBoundary_packer hsort hother hp ho
    have hlast : (s.lastParcel tag k).seq ≤ (s.route tag).q / 256 := by
      unfold State.lastParcel
      split
      · exact hseq
      · exact Nat.zero_le _
    have htaken : (takeStream none (s.lastParcel tag k) s).port p = (s.port p).offerStream (s.lastParcel tag k) :=
      takeStream_local (x := s.lastParcel tag k) (by rw [lastParcel_tag]; exact ha) (by rw [lastParcel_tag]; exact hlast)
        (by rw [lastParcel_tag]; exact hf) (by rw [lastParcel_tag]; exact hs) (by rw [lastParcel_tag]; exact hb) hc
    refine ⟨_, exec_epochBoundary hr, ?_, ?_, ?_⟩
    · have hparcel := lastParcel_eq tag k s
      rw [ho] at hparcel
      rw [settleDrains_port, epochBoundary_qStream, closePackers_single hsort hother hp ho, htaken, Port.offerStream,
        if_pos hroom, hparcel]
      rfl
    · rw [settleDrains_route, hin]
    · rw [settleDrains_route, settleDrains_rtu, hpacker]
      rfl

end Sys2Proof.Machine
end

section
/-! SUPPORT. The Delivery Unit at a boundary event (R102, R105 to R108, R114), and the statement about it (O41). -/

namespace Sys2Proof.Machine

variable {s t u : State} {b c i j n : Nat}

/-! ## The sections of a binding -/

theorem sec_setSec_other (r : Binding) {i j : Nat} (hi : i < 3) (hj : j < 3) (h : i ≠ j) (y : Section) :
    (r.setSec j y).sec i = r.sec i := by
  have hcases : (i = 0 ∨ i = 1 ∨ i = 2) ∧ (j = 0 ∨ j = 1 ∨ j = 2) := by omega
  obtain ⟨rfl | rfl | rfl, rfl | rfl | rfl⟩ := hcases <;> simp_all [Binding.setSec, Binding.sec]

/-- The fields of a binding besides its sections. -/
theorem setSec_fields (r : Binding) (i : Nat) (y : Section) : (r.setSec i y).blocks = r.blocks ∧
    (r.setSec i y).sinks = r.sinks ∧ (r.setSec i y).released = r.released ∧ (r.setSec i y).lost = r.lost ∧
    (r.setSec i y).overrun = r.overrun ∧ (r.setSec i y).skipped = r.skipped := by
  unfold Binding.setSec
  split <;> exact ⟨rfl, rfl, rfl, rfl, rfl, rfl⟩

theorem sec_counters (r : Binding) (a d e f i : Nat) :
    ({ r with released := a, lost := d, overrun := e, skipped := f } : Binding).sec i = r.sec i := by
  unfold Binding.sec
  split <;> rfl

/-- The sections of the epochs `n`, `n - 1` and `n - 2` are three. -/
theorem sectionIndex_distinct (n : Nat) : sectionIndex n 0 = n % 3 ∧ sectionIndex n 2 = (n + 1) % 3 ∧
    sectionIndex n 0 < 3 ∧ sectionIndex n 1 < 3 ∧ sectionIndex n 2 < 3 ∧ sectionIndex n 2 ≠ sectionIndex n 0 ∧
    sectionIndex n 2 ≠ sectionIndex n 1 ∧ sectionIndex n 1 ≠ sectionIndex n 0 := by
  unfold sectionIndex
  omega

/-! ## Bindings at work beside another -/

/-- From `s` to `t` nothing of a binding moves, nor of its entries in the Delivery Lists. -/
structure Bystander (b : Nat) (s t : State) : Prop where
  binding : t.binding b = s.binding b
  entries : ∀ j (e : DeliveryItem), e.binding = b → (e ∈ (t.slot j).delivery ↔ e ∈ (s.slot j).delivery)
  states : ∀ j, (t.slot j).state = (s.slot j).state
  pending : ∀ k, (s.event k).pending = true → (t.event k).pending = true

theorem Bystander.refl (b : Nat) (s : State) : Bystander b s s := ⟨rfl, fun _ _ _ => .rfl, fun _ => rfl, fun _ h => h⟩

theorem Bystander.trans (h : Bystander b s t) (h' : Bystander b t u) : Bystander b s u where
  binding := h'.binding.trans h.binding
  entries j e he := (h'.entries j e he).trans (h.entries j e he)
  states j := (h'.states j).trans (h.states j)
  pending k hk := h'.pending k (h.pending k hk)

theorem Bystander.foldl {α : Type} {g : State → α → State} (hg : ∀ u a, Bystander b u (g u a)) (l : List α) (s : State) :
    Bystander b s (l.foldl g s) :=
  List.foldlRecOn l g (motive := Bystander b s) (.refl b s) fun u hu a _ => hu.trans (hg u a)

theorem bystander_setBinding (h : b ≠ c) (s : State) (r : Binding) : Bystander b s (s.setBinding c r) :=
  ⟨by rw [State.binding_setBinding, if_neg h], fun _ _ _ => .rfl, fun _ => rfl, fun _ h => h⟩

theorem bystander_updSlot {f : Slot → Slot} (hf : ∀ (r : Slot) (e : DeliveryItem), e.binding = b →
      (e ∈ (f r).delivery ↔ e ∈ r.delivery)) (hst : ∀ r, (f r).state = r.state) (s : State) (i : Nat) :
    Bystander b s (s.updSlot i f) where
  binding := rfl
  entries j e he := by
    rw [State.slot_updSlot]
    split
    · next h => rw [h]; exact hf _ e he
    · exact .rfl
  states j := by
    rw [State.slot_updSlot]
    split
    · next h => rw [h]; exact hst _
    · rfl
  pending _ h := h

theorem bystander_raise (b : Nat) (s : State) : Bystander b s (raise .sectionFault s) :=
  ⟨rfl, fun _ _ _ => .rfl, fun _ => rfl, fun _ h => pending_raise (.inl h)⟩

theorem bystander_raiseIf (b : Nat) (x : Bool) (s : State) : Bystander b s (raiseIf x .sectionFault s) := by
  cases x
  · exact .refl b s
  · exact bystander_raise b s

theorem mem_insertDelivery {x e : DeliveryItem} {l : List DeliveryItem} : e ∈ insertDelivery x l ↔ e = x ∨ e ∈ l := by
  have hsplit : l.takeWhile (fun e => decide (e.binding ≤ x.binding)) ++ l.dropWhile (fun e => decide (e.binding ≤ x.binding)) = l :=
    List.takeWhile_append_dropWhile
  have hmem : e ∈ l ↔ e ∈ l.takeWhile (fun e => decide (e.binding ≤ x.binding)) ∨
      e ∈ l.dropWhile (fun e => decide (e.binding ≤ x.binding)) := by
    rw [← List.mem_append, hsplit]
  rw [insertDelivery, List.mem_append, List.mem_cons, hmem]
  tauto

theorem delivery_unsend (r : Slot) (q : LaneMsg → Bool) : (r.unsend q).delivery = r.delivery ∧ (r.unsend q).state = r.state := by
  rw [unsend_frame]
  exact ⟨rfl, rfl⟩

/-- A slot's record without some entries and some committed messages. -/
theorem delivery_dropped (r : Slot) (p : DeliveryItem → Bool) (q : LaneMsg → Bool) :
    ((r.dropDelivery p).unsend q).delivery = r.delivery.filter (fun e => !p e) ∧
    ((r.dropDelivery p).unsend q).state = r.state := by
  obtain ⟨hd, hs⟩ := delivery_unsend (r.dropDelivery p) q
  exact ⟨hd, hs⟩

theorem bystander_beginDeliveries (h : b ≠ c) (i : Nat) (s : State) : Bystander b s (beginDeliveries c i s) := by
  refine .foldl (fun u j => ?_) _ s
  unfold beginDelivery
  split
  · refine bystander_updSlot (f := fun r => { r with delivery := insertDelivery ⟨c, i, 0⟩ r.delivery }) (fun r e he => ?_)
      (fun _ => rfl) u j
    have hne : e ≠ ⟨c, i, 0⟩ := fun hx => h (by rw [← he, hx])
    show e ∈ insertDelivery ⟨c, i, 0⟩ r.delivery ↔ e ∈ r.delivery
    rw [mem_insertDelivery]
    exact ⟨fun hx => hx.resolve_left hne, .inr⟩
  · exact bystander_setBinding h u _
  · exact .refl b u

/-- Entries of another binding dropped. -/
theorem bystander_drop {p : DeliveryItem → Bool} (hp : ∀ e, e.binding = b → p e = false) (q : LaneMsg → Bool) (s : State) (i : Nat) :
    Bystander b s (s.updSlot i (fun r => (r.dropDelivery p).unsend q)) := by
  refine bystander_updSlot (fun r e he => ?_) (fun r => (delivery_dropped r p q).2) s i
  rw [(delivery_dropped r p q).1, List.mem_filter, hp e he]
  simp

theorem bystander_endDelivery (h : b ≠ c) (i : Nat) (s : State) (j : Nat) : Bystander b s (endDelivery c i s j) := by
  unfold endDelivery
  dsimp only
  split
  · refine ((bystander_drop (fun e he => ?_) _ s j).trans (bystander_setBinding h _ _)).trans (bystander_raise b _)
    simp [he, h]
  · exact .refl b s

theorem bystander_rotateBinding (h : b ≠ c) (n : Nat) (untimed : Bool) (s : State) :
    Bystander b s (rotateBinding n untimed c s) := by
  have hend : Bystander b s ((List.range 16).foldl (endDelivery c (sectionIndex n 0)) s) :=
    .foldl (bystander_endDelivery h _) _ s
  unfold rotateBinding
  dsimp only
  split
  · refine Bystander.trans ?_ (bystander_raiseIf b _ _)
    exact (hend.trans (bystander_setBinding h _ _)).trans (bystander_beginDeliveries h _ _)
  · exact hend.trans (bystander_setBinding h _ _)

theorem bystander_restartBinding (h : b ≠ c) (n : Nat) (untimed : Bool) (s : State) :
    Bystander b s (restartBinding n untimed c s) := by
  have hdrop : Bystander b s (dropDeliveries c s) :=
    .foldl (fun u j => bystander_drop (fun e he => by simp [he, h]) _ u j) _ s
  exact (hdrop.trans (bystander_setBinding h _ _)).trans (bystander_beginDeliveries h _ _)

/-- R102, R107: one binding's part in a boundary event into epoch `n`. -/
def turnBinding (n : Nat) (untimed restart : Bool) (s : State) (b : Nat) : State :=
  if (s.binding b).enabled then (if restart then restartBinding n untimed b s else rotateBinding n untimed b s) else s

theorem turnBinding_rotates {untimed : Bool} (h : (s.binding b).enabled = true) :
    turnBinding n untimed false s b = rotateBinding n untimed b s := if_pos h

theorem turnBinding_restarts {untimed : Bool} (h : (s.binding b).enabled = true) :
    turnBinding n untimed true s b = restartBinding n untimed b s := if_pos h

theorem bystander_turnBinding (h : b ≠ c) (n : Nat) (untimed restart : Bool) (s : State) :
    Bystander b s (turnBinding n untimed restart s c) := by
  unfold turnBinding
  split
  · split
    · exact bystander_restartBinding h n untimed s
    · exact bystander_rotateBinding h n untimed s
  · exact .refl b s

theorem deliveryBoundary_eq (restart : Bool) (s : State) : deliveryBoundary restart s =
    (List.range 64).foldl (turnBinding s.rtu.epoch (!s.rtu.state.timed) restart) s := rfl

/-- A fold over distinct elements, seen from one of them. -/
theorem foldl_around {α β : Type} {g : β → α → β} {R : β → β → Prop} {a : α} (hr : ∀ x, R x x)
    (ht : ∀ x y z, R x y → R y z → R x z) (hg : ∀ y x, x ≠ a → R y (g y x)) (l : List α) (ha : a ∈ l) (hnd : l.Nodup) (y : β) :
    ∃ v, R y v ∧ R (g v a) (l.foldl g y) := by
  have hrest : ∀ (l : List α) (y : β), a ∉ l → R y (l.foldl g y) := fun l y hno =>
    List.foldlRecOn l g (motive := R y) (hr y) fun v hv x hx => ht _ _ _ hv (hg v x fun he => hno (he ▸ hx))
  induction l generalizing y with
  | nil => exact absurd ha List.not_mem_nil
  | cons x l ih =>
    obtain ⟨hx, hnd⟩ := List.nodup_cons.1 hnd
    by_cases he : x = a
    · exact ⟨y, hr y, by rw [List.foldl_cons, he]; exact hrest l _ (he ▸ hx)⟩
    · obtain ⟨v, hv, hend⟩ := ih ((List.mem_cons.1 ha).resolve_left fun h => he h.symm) hnd (g y x)
      exact ⟨v, ht _ _ _ (hg y x he) hv, hend⟩

theorem deliveryBoundary_around (hb : b < 64) (restart : Bool) (s : State) :
    ∃ v, Bystander b s v ∧ Bystander b (turnBinding s.rtu.epoch (!s.rtu.state.timed) restart v b) (deliveryBoundary restart s) := by
  rw [deliveryBoundary_eq]
  exact foldl_around (Bystander.refl b) (fun _ _ _ => .trans) (fun u c hc => bystander_turnBinding (Ne.symm hc) _ _ _ u)
    _ (List.mem_range.2 hb) List.nodup_range s

/-- R102: where one binding alone is ENABLED, the Delivery Unit's part is that binding's. -/
theorem deliveryBoundary_single (hb : b < 64) (restart : Bool) (h : ∀ j, j < 64 → j ≠ b → (s.binding j).enabled = false) :
    deliveryBoundary restart s = turnBinding s.rtu.epoch (!s.rtu.state.timed) restart s b := by
  have hstill : ∀ u j, (u.binding j).enabled = false →
      turnBinding s.rtu.epoch (!s.rtu.state.timed) restart u j = u := fun u j hj => if_neg (by rw [hj]; decide)
  rw [deliveryBoundary_eq]
  refine foldl_single _ (List.mem_range.2 hb) List.nodup_range (fun j hj hne => hstill s j (h j (List.mem_range.1 hj) hne))
    fun j hj hne => hstill _ j ?_
  rw [(bystander_turnBinding hne _ _ _ s).binding]
  exact h j (List.mem_range.1 hj) hne

/-! ## Faults counted (R102, R114) -/

/-- From `s` to `t` a kind is raised a number of times. -/
def RaisedTimes (x : EventKind) (k : Nat) (s t : State) : Prop :=
  (k = 0 → t.event x.code = s.event x.code) ∧
  (0 < k → (t.event x.code).pending = true ∧ (t.event x.code).count = min ((s.event x.code).count + k) 255)

theorem raisedTimes_zero {x : EventKind} (h : t.event x.code = s.event x.code) : RaisedTimes x 0 s t :=
  ⟨fun _ => h, fun h => absurd h (Nat.lt_irrefl 0)⟩

theorem RaisedTimes.trans {x : EventKind} {k m : Nat} (h : RaisedTimes x k s t) (h' : RaisedTimes x m t u) :
    RaisedTimes x (k + m) s u := by
  obtain ⟨h0, h1⟩ := h
  obtain ⟨h0', h1'⟩ := h'
  refine ⟨fun hk => ?_, fun hk => ?_⟩
  · rw [h0' (by omega), h0 (by omega)]
  · rcases Nat.eq_zero_or_pos m with hm | hm
    · rw [h0' hm, (h1 (by omega)).1, (h1 (by omega)).2, hm]
      exact ⟨rfl, rfl⟩
    · refine ⟨(h1' hm).1, ?_⟩
      rcases Nat.eq_zero_or_pos k with hz | hz
      · rw [(h1' hm).2, h0 hz, hz, Nat.zero_add]
      · rw [(h1' hm).2, (h1 hz).2]
        omega

theorem raisedTimes_raise (x : EventKind) (s : State) : RaisedTimes x 1 s (raise x s) := by
  unfold RaisedTimes
  rw [raise_event, if_pos rfl]
  exact ⟨fun h => absurd h (by decide), fun _ => ⟨rfl, rfl⟩⟩

/-- R114: Overrun after a number of slots' deliveries have ended early. -/
def overrunAfter (k n : Nat) : Nat := if k = 0 then n else min (n + k) 4294967295

theorem overrunAfter_succ (k n : Nat) : overrunAfter k (bump n) = overrunAfter (k + 1) n := by
  have hbump : bump n = min (n + 1) 4294967295 := rfl
  unfold overrunAfter
  rw [if_neg (Nat.succ_ne_zero k), hbump]
  split
  · next h => rw [h]
  · omega

/-! ## The section that is reused (R102, R114) -/

/-- R102: an entry for a section of a binding. -/
def isEntry (b i : Nat) (e : DeliveryItem) : Bool := e.binding == b && e.sec == i

/-- R102: a slot's Delivery List holds the section that is reused. -/
def State.holdsSection (s : State) (b i j : Nat) : Bool := (s.slot j).delivery.any (isEntry b i)

theorem endDelivery_none (h : s.holdsSection b i j = false) : endDelivery b i s j = s :=
  if_neg (by rw [show (s.slot j).delivery.any (fun e => e.binding == b && e.sec == i) = false from h]; decide)

/-- R102, R114: what the end of one slot's delivery leaves. -/
structure Ended (b i j : Nat) (s t : State) : Prop where
  binding : t.binding b = { s.binding b with overrun := bump (s.binding b).overrun }
  same : (t.slot j).delivery = (s.slot j).delivery.filter (fun e => !isEntry b i e)
  other : ∀ k, k ≠ j → t.slot k = s.slot k
  states : ∀ k, (t.slot k).state = (s.slot k).state
  faults : RaisedTimes .sectionFault 1 s t

theorem ended_endDelivery (h : s.holdsSection b i j = true) : Ended b i j s (endDelivery b i s j) := by
  obtain ⟨v, hv⟩ : ∃ v, v = s.updSlot j (fun r => (r.dropDelivery (isEntry b i)).unsend
    (isSectionOf b ((s.binding b).sec i).epoch)) := ⟨_, rfl⟩
  have hrun : endDelivery b i s j =
      raise .sectionFault (v.setBinding b { v.binding b with overrun := bump (v.binding b).overrun }) := by
    rw [hv]
    exact if_pos h
  have hvb : v.binding b = s.binding b := by rw [hv]; rfl
  have hslot : ∀ k, v.slot k = if k = j then ((s.slot j).dropDelivery (isEntry b i)).unsend
      (isSectionOf b ((s.binding b).sec i).epoch) else s.slot k := fun k => by rw [hv, State.slot_updSlot]
  have hend : ∀ k, (endDelivery b i s j).slot k = v.slot k := fun k => by rw [hrun]; rfl
  obtain ⟨hdel, hst⟩ := delivery_dropped (s.slot j) (isEntry b i) (isSectionOf b ((s.binding b).sec i).epoch)
  refine ⟨?_, ?_, fun k hk => ?_, fun k => ?_, ?_⟩
  · rw [hrun, ← hvb]
    exact State.binding_setBinding_same _ _ _
  · rw [hend, hslot, if_pos rfl, hdel]
  · rw [hend, hslot, if_neg hk]
  · rw [hend, hslot]
    split
    · next hk => rw [hst, hk]
    · rfl
  · have hevent : RaisedTimes .sectionFault 0 s (v.setBinding b { v.binding b with overrun := bump (v.binding b).overrun }) :=
      raisedTimes_zero (by rw [hv]; rfl)
    rw [hrun]
    exact hevent.trans (raisedTimes_raise _ _)

/-- R102, R114: what the end of the deliveries of a section to several slots leaves. -/
structure EndedAll (b i : Nat) (l : List Nat) (s t : State) : Prop where
  binding : t.binding b = { s.binding b with
    overrun := overrunAfter (l.filter (s.holdsSection b i)).length (s.binding b).overrun }
  entries : ∀ j, (t.slot j).delivery =
    if j ∈ l then (s.slot j).delivery.filter (fun e => !isEntry b i e) else (s.slot j).delivery
  states : ∀ j, (t.slot j).state = (s.slot j).state
  faults : RaisedTimes .sectionFault (l.filter (s.holdsSection b i)).length s t

theorem endedAll_foldl {l : List Nat} (hl : l.Nodup) (s : State) : EndedAll b i l s (l.foldl (endDelivery b i) s) := by
  induction l generalizing s with
  | nil => exact ⟨rfl, fun _ => rfl, fun _ => rfl, raisedTimes_zero rfl⟩
  | cons j l ih =>
    obtain ⟨hj, hl⟩ := List.nodup_cons.1 hl
    rw [List.foldl_cons]
    cases hh : s.holdsSection b i j with
    | false =>
      rw [endDelivery_none hh]
      obtain ⟨hb, he, hs, hf⟩ := ih hl s
      refine ⟨by rw [hb, List.filter_cons, hh]; rfl, fun k => ?_, hs, by rw [List.filter_cons, hh]; exact hf⟩
      rw [he]
      by_cases hk : k = j
      · have hkeep : (s.slot j).delivery.filter (fun e => !isEntry b i e) = (s.slot j).delivery :=
          List.filter_eq_self.2 fun e hx => by
            have := List.any_eq_false.1 hh e hx
            simpa using this
        rw [hk, if_neg hj, if_pos List.mem_cons_self, hkeep]
      · simp [hk]
    | true =>
      obtain ⟨hb, hsame, hother, hst, hfault⟩ := ended_endDelivery hh
      obtain ⟨hb', he', hs', hf'⟩ := ih hl (endDelivery b i s j)
      have hfilter : l.filter ((endDelivery b i s j).holdsSection b i) = l.filter (s.holdsSection b i) :=
        List.filter_congr fun k hk => by rw [State.holdsSection, hother k (fun he => hj (he ▸ hk))]; rfl
      rw [hfilter] at hb' hf'
      refine ⟨?_, fun k => ?_, fun k => (hs' k).trans (hst k), ?_⟩
      · rw [hb', hb, List.filter_cons, hh]
        dsimp only
        rw [overrunAfter_succ]
        rfl
      · rw [he']
        by_cases hk : k = j
        · rw [hk, if_neg hj, if_pos List.mem_cons_self, hsame]
        · rw [hother k hk]
          simp [hk]
      · rw [List.filter_cons, hh]
        have hsum := hfault.trans hf'
        rw [Nat.add_comm] at hsum
        exact hsum

/-! ## Deliveries that begin (R108) -/

/-- R108: what a released section offered to several slots leaves. -/
structure Begun (b i : Nat) (l : List Nat) (s t : State) : Prop where
  binding : ∃ m, t.binding b = { s.binding b with skipped := m }
  kept : ∀ j, ∀ e ∈ (s.slot j).delivery, e ∈ (t.slot j).delivery
  only : ∀ j, ∀ e ∈ (t.slot j).delivery, e ∈ (s.slot j).delivery ∨ e = ⟨b, i, 0⟩
  listed : ∀ j ∈ l, (s.slot j).state = .admitted → ⟨b, i, 0⟩ ∈ (t.slot j).delivery
  states : ∀ j, (t.slot j).state = (s.slot j).state
  events : t.mgmt = s.mgmt

theorem begun_beginDelivery (b i : Nat) (s : State) (j : Nat) : Begun b i [j] s (beginDelivery b i s j) := by
  unfold beginDelivery
  split
  · next hst =>
    have hslot : ∀ k, (s.updSlot j (fun r => { r with delivery := insertDelivery ⟨b, i, 0⟩ r.delivery })).slot k =
        if k = j then { s.slot j with delivery := insertDelivery ⟨b, i, 0⟩ (s.slot j).delivery } else s.slot k :=
      fun k => State.slot_updSlot _ _ _ _
    refine ⟨⟨_, rfl⟩, fun k e he => ?_, fun k e he => ?_, fun k hk _ => ?_, fun k => ?_, rfl⟩
    · rw [hslot]
      split
      · next hk => exact mem_insertDelivery.2 (.inr (hk ▸ he))
      · exact he
    · rw [hslot] at he
      split at he
      · next hk => exact (mem_insertDelivery.1 he).symm.imp_left (fun h => hk ▸ h)
      · exact .inl he
    · rw [hslot, if_pos (List.mem_singleton.1 hk)]
      exact mem_insertDelivery.2 (.inl rfl)
    · rw [hslot]
      split
      · next hk => rw [hk]
      · rfl
  · next hst =>
    exact ⟨⟨_, State.binding_setBinding_same _ _ _⟩, fun _ _ he => he, fun _ _ he => .inl he,
      fun k hk hadm => absurd hadm (by rw [List.mem_singleton.1 hk]; exact fun h => by rw [hst] at h; cases h), fun _ => rfl, rfl⟩
  · next hadm _ =>
    exact ⟨⟨_, rfl⟩, fun _ _ he => he, fun _ _ he => .inl he,
      fun k hk h => absurd (List.mem_singleton.1 hk ▸ h) hadm, fun _ => rfl, rfl⟩

theorem begun_foldl (l : List Nat) (s : State) : Begun b i l s (l.foldl (beginDelivery b i) s) := by
  induction l generalizing s with
  | nil => exact ⟨⟨_, rfl⟩, fun _ _ h => h, fun _ _ h => .inl h, fun _ h => absurd h List.not_mem_nil, fun _ => rfl, rfl⟩
  | cons j l ih =>
    obtain ⟨⟨m, hb⟩, hk, ho, hl, hs, he⟩ := begun_beginDelivery b i s j
    obtain ⟨⟨m', hb'⟩, hk', ho', hl', hs', he'⟩ := ih (beginDelivery b i s j)
    rw [List.foldl_cons]
    refine ⟨⟨m', by rw [hb', hb]⟩, fun k e h => hk' k e (hk k e h), fun k e h => ?_, fun k hmem hadm => ?_,
      fun k => (hs' k).trans (hs k), he'.trans he⟩
    · exact (ho' k e h).elim (fun h => ho k e h) .inr
    · rcases List.mem_cons.1 hmem with rfl | hmem
      · exact hk' k _ (hl k (List.mem_singleton.2 rfl) hadm)
      · exact hl' k hmem (by rwa [hs])

theorem slotsOf_single (hj : j < 16) : slotsOf (BitVec.ofNat 16 (2 ^ j)) = [j] := by
  interval_cases j <;> decide

/-- R108: a PARKED slot that is the binding's only sink is skipped. -/
theorem beginDeliveries_skips (hj : j < 16) (hs : (s.binding b).sinks = BitVec.ofNat 16 (2 ^ j)) (hst : (s.slot j).state = .parked) :
    (beginDeliveries b i s).binding b = { s.binding b with skipped := bump (s.binding b).skipped } := by
  have hrun : beginDeliveries b i s = s.setBinding b { s.binding b with skipped := bump (s.binding b).skipped } := by
    rw [beginDeliveries, hs, slotsOf_single hj, List.foldl_cons, List.foldl_nil]
    simp only [beginDelivery, hst]
  rw [hrun, State.binding_setBinding_same]

/-! ## One binding's turn (R102, R105 to R107) -/

/-- R102: the slots in which the section about to be reused ends early. -/
def State.heldIn (s : State) (b i : Nat) : List Nat := (List.range 16).filter (s.holdsSection b i)

/-- R105, R114: the statuses whose release raises SECTION_FAULT. -/
def SectionStatus.faulty (x : SectionStatus) : Bool := x == .incomplete || x == .truncated || x == .lost

/-- R102, R105, R106, R114: an ENABLED binding after an ordinary boundary into epoch `n`. -/
structure Rotated (n : Nat) (untimed : Bool) (b : Nat) (s t : State) : Prop where
  reused : ((t.binding b).sec (sectionIndex n 0)) = Section.openFor n
  overrun : (t.binding b).overrun = overrunAfter (s.heldIn b (sectionIndex n 0)).length (s.binding b).overrun
  gone : ∀ j, j < 16 → ∀ e ∈ (t.slot j).delivery, isEntry b (sectionIndex n 0) e = false
  release : ((s.binding b).sec (sectionIndex n 2)).state = .opened →
    let y := ((s.binding b).sec (sectionIndex n 2)).release (s.binding b).size untimed
    (t.binding b).sec (sectionIndex n 2) = y ∧ (t.binding b).released = bump (s.binding b).released ∧
    (t.binding b).lost = (if y.status = .lost then bump (s.binding b).lost else (s.binding b).lost) ∧
    (∀ j, j < 16 → (s.binding b).sinks.getLsbD j = true → (s.slot j).state = .admitted →
      ⟨b, sectionIndex n 2, 0⟩ ∈ (t.slot j).delivery) ∧
    (∀ j, j < 16 → (s.binding b).sinks = BitVec.ofNat 16 (2 ^ j) → (s.slot j).state = .parked →
      (t.binding b).skipped = bump (s.binding b).skipped)
  stays : ((s.binding b).sec (sectionIndex n 2)).state ≠ .opened →
    (t.binding b).sec (sectionIndex n 2) = (s.binding b).sec (sectionIndex n 2) ∧
    (t.binding b).released = (s.binding b).released ∧ (t.binding b).lost = (s.binding b).lost

/-- R102, R114: the SECTION_FAULTs of a binding at an ordinary boundary into epoch `n`. -/
def State.faultsAt (s : State) (n b : Nat) : Nat := (s.heldIn b (sectionIndex n 0)).length +
  (if ((s.binding b).sec (sectionIndex n 2)).state = .opened ∧
    (((s.binding b).sec (sectionIndex n 2)).releaseStatus (s.binding b).size).faulty = true then 1 else 0)

theorem raisedTimes_raiseIf {k : Nat} (h : RaisedTimes .sectionFault k s t) (c : Bool) :
    RaisedTimes .sectionFault (k + (if c then 1 else 0)) s (raiseIf c .sectionFault t) := by
  cases c
  · exact h
  · exact h.trans (raisedTimes_raise _ t)

theorem rotated (n : Nat) (untimed : Bool) (b : Nat) (s : State) :
    Rotated n untimed b s (rotateBinding n untimed b s) ∧ RaisedTimes .sectionFault (s.faultsAt n b) s (rotateBinding n untimed b s) := by
  obtain ⟨-, -, h0, h1, h2, h20, -⟩ := sectionIndex_distinct n
  obtain ⟨hb, he, hst, hf⟩ := endedAll_foldl (b := b) (i := sectionIndex n 0) List.nodup_range s (l := List.range 16)
  obtain ⟨v, hv⟩ : ∃ v, v = (List.range 16).foldl (endDelivery b (sectionIndex n 0)) s := ⟨_, rfl⟩
  obtain ⟨r, hr⟩ : ∃ r, r = { s.binding b with
    overrun := overrunAfter (s.heldIn b (sectionIndex n 0)).length (s.binding b).overrun } := ⟨_, rfl⟩
  rw [← hv] at hb he hst hf
  have hvb : v.binding b = r := by rw [hb, hr]; rfl
  have hrsec : ∀ k, r.sec k = (s.binding b).sec k := fun k => by rw [hr]; unfold Binding.sec; split <;> rfl
  have hgone : ∀ j, j < 16 → ∀ e ∈ (v.slot j).delivery, isEntry b (sectionIndex n 0) e = false := fun j hj e hx => by
    rw [he, if_pos (List.mem_range.2 hj)] at hx
    simpa using (List.mem_filter.1 hx).2
  obtain ⟨r1, hr1⟩ : ∃ r1, r1 = r.setSec (sectionIndex n 0) (Section.openFor n) := ⟨_, rfl⟩
  obtain ⟨hblocks, hsinks, hrel, hlost, hover, hskip⟩ := setSec_fields r (sectionIndex n 0) (Section.openFor n)
  rw [← hr1] at hblocks hsinks hrel hlost hover hskip
  have hreused : r1.sec (sectionIndex n 0) = Section.openFor n := by rw [hr1, sec_setSec_same]
  have hx : r1.sec (sectionIndex n 2) = (s.binding b).sec (sectionIndex n 2) := by
    rw [hr1, sec_setSec_other _ h2 h0 h20, hrsec]
  have hrun : rotateBinding n untimed b s = if (r1.sec (sectionIndex n 2)).state = .opened then
      raiseIf (((r1.sec (sectionIndex n 2)).release r1.size untimed).status.faulty) .sectionFault
        (beginDeliveries b (sectionIndex n 2) (v.setBinding b { r1.setSec (sectionIndex n 2)
            ((r1.sec (sectionIndex n 2)).release r1.size untimed) with
          released := bump r1.released
          lost := if ((r1.sec (sectionIndex n 2)).release r1.size untimed).status = .lost then bump r1.lost else r1.lost }))
      else v.setBinding b r1 := by
    rw [hr1, ← hvb, hv]
    rfl
  have hsize : r1.size = (s.binding b).size := by rw [Binding.size, hblocks, hr]; rfl
  rw [hx, hsize] at hrun
  rw [hrun]
  by_cases hopen : ((s.binding b).sec (sectionIndex n 2)).state = .opened
  · obtain ⟨y, hy⟩ : ∃ y, y = ((s.binding b).sec (sectionIndex n 2)).release (s.binding b).size untimed := ⟨_, rfl⟩
    obtain ⟨r2, hr2⟩ : ∃ r2, r2 = { r1.setSec (sectionIndex n 2) y with
      released := bump r1.released, lost := if y.status = SectionStatus.lost then bump r1.lost else r1.lost } := ⟨_, rfl⟩
    rw [if_pos hopen, ← hy, ← hr2]
    obtain ⟨w, hw⟩ : ∃ w, w = v.setBinding b r2 := ⟨_, rfl⟩
    have hwb : w.binding b = r2 := by rw [hw, State.binding_setBinding_same]
    have hws : ∀ k, w.slot k = v.slot k := fun k => by rw [hw]; rfl
    obtain ⟨-, hsinks2, -, -, hover2, hskip2⟩ := setSec_fields r1 (sectionIndex n 2) y
    have hsec2 : ∀ k, r2.sec k = (r1.setSec (sectionIndex n 2) y).sec k := fun k => by rw [hr2]; exact sec_counters _ _ _ _ _ k
    have hsinks' : r2.sinks = (s.binding b).sinks := by
      rw [hr2]
      exact hsinks2.trans (hsinks.trans (by rw [hr]))
    obtain ⟨⟨m, hbind⟩, -, honly, hlisted, -, hevents⟩ := begun_foldl (b := b) (i := sectionIndex n 2) (slotsOf r2.sinks) w
    obtain ⟨z, hz⟩ : ∃ z, z = beginDeliveries b (sectionIndex n 2) w := ⟨_, rfl⟩
    have hzfold : (slotsOf r2.sinks).foldl (beginDelivery b (sectionIndex n 2)) w = z := by
      rw [hz, beginDeliveries, hwb]
    rw [hzfold] at hbind honly hlisted hevents
    rw [← hw, ← hz]
    obtain ⟨q, hq⟩ : ∃ q, q = raiseIf y.status.faulty .sectionFault z := ⟨_, rfl⟩
    have hqb : q.binding b = { r2 with skipped := m } := by
      rw [hq, raiseIf_frame, ← hwb, ← hbind]
      rfl
    have hqs : ∀ k, q.slot k = z.slot k := fun k => by rw [hq, raiseIf_frame]; rfl
    have hqsec : ∀ k, (q.binding b).sec k = (r1.setSec (sectionIndex n 2) y).sec k := fun k => by
      rw [hqb, ← hsec2]
      exact sec_counters r2 r2.released r2.lost r2.overrun m k
    have hfaults : RaisedTimes .sectionFault (s.faultsAt n b) s q := by
      have hzero : RaisedTimes .sectionFault 0 v z := raisedTimes_zero (by rw [State.event, hevents, hw]; rfl)
      have hcount : s.faultsAt n b = (s.heldIn b (sectionIndex n 0)).length + (if y.status.faulty = true then 1 else 0) := by
        unfold State.faultsAt
        rw [hy]
        simp only [hopen, true_and]
        rfl
      rw [hq, hcount]
      exact raisedTimes_raiseIf (hf.trans hzero) _
    rw [← hq]
    refine ⟨⟨?_, ?_, fun j hj e hx => ?_, fun _ => ?_, fun h => absurd hopen h⟩, hfaults⟩
    · rw [hqsec, sec_setSec_other _ h0 h2 (Ne.symm h20), hreused]
    · rw [hqb, hr2]
      exact hover2.trans (hover.trans (by rw [hr]))
    · rw [hqs] at hx
      rcases honly j e hx with hx | hx
      · exact hgone j hj e (by rwa [hws] at hx)
      · rw [hx, isEntry]
        simp [h20]
    · rw [← hy]
      refine ⟨?_, ?_, ?_, fun j hj hset hadm => ?_, fun j hj hone hpark => ?_⟩
      · rw [hqsec, sec_setSec_same]
      · rw [hqb, hr2]
        exact congrArg bump (hrel.trans (by rw [hr]))
      · have hl : r1.lost = (s.binding b).lost := hlost.trans (by rw [hr])
        rw [hqb, hr2, hl]
      · rw [hqs]
        exact hlisted j (mem_slotsOf.2 ⟨hj, by rwa [hsinks']⟩) (by rw [hws, hst]; exact hadm)
      · have hskips := beginDeliveries_skips (s := w) (b := b) (i := sectionIndex n 2) hj (by rw [hwb, hsinks']; exact hone)
          (by rw [hws, hst]; exact hpark)
        have hq2 : q.binding b = { r2 with skipped := bump r2.skipped } := by
          rw [hq, raiseIf_frame, ← hwb, ← hskips, hz]
          rfl
        rw [hq2, hr2]
        exact congrArg bump (hskip2.trans (hskip.trans (by rw [hr])))
  · rw [if_neg hopen]
    have hvb1 : (v.setBinding b r1).binding b = r1 := State.binding_setBinding_same _ _ _
    refine ⟨⟨?_, ?_, hgone, fun h => absurd h hopen, fun _ => ⟨?_, ?_, ?_⟩⟩, ?_⟩
    · rw [hvb1, hreused]
    · rw [hvb1, hover, hr]
    · rw [hvb1, hx]
    · rw [hvb1, hrel, hr]
    · rw [hvb1, hlost, hr]
    · have hcount : s.faultsAt n b = (s.heldIn b (sectionIndex n 0)).length := by
        unfold State.faultsAt
        simp [hopen]
      rw [hcount]
      exact hf.trans (raisedTimes_zero (t := v.setBinding b r1) rfl)

/-- R107: an ENABLED binding after a stepped, loaded or wrapping boundary into epoch `n`. -/
structure Restarted (n : Nat) (untimed : Bool) (b : Nat) (s t : State) : Prop where
  reused : ((t.binding b).sec (sectionIndex n 0)) = Section.openFor n
  released : (t.binding b).sec (sectionIndex n 2) = Section.lostAt (epochBack n 2) untimed
  counters : (t.binding b).overrun = (s.binding b).overrun ∧ (t.binding b).released = bump (s.binding b).released ∧
    (t.binding b).lost = bump (s.binding b).lost
  gone : ∀ j, j < 16 → ∀ e ∈ (t.slot j).delivery, isEntry b (sectionIndex n 0) e = false
  listed : ∀ j, j < 16 → (s.binding b).sinks.getLsbD j = true → (s.slot j).state = .admitted →
    ⟨b, sectionIndex n 2, 0⟩ ∈ (t.slot j).delivery

/-- R107: the three sections of a binding at a stepped, loaded or wrapping boundary. -/
def Binding.restarted (n : Nat) (untimed : Bool) (r : Binding) : Binding :=
  ((r.setSec (sectionIndex n 0) (Section.openFor n)).setSec (sectionIndex n 1)
    (Section.openFor (epochBack n 1))).setSec (sectionIndex n 2) (Section.lostAt (epochBack n 2) untimed)

theorem restarted_secs (n : Nat) (untimed : Bool) (r : Binding) :
    (r.restarted n untimed).sec (sectionIndex n 0) = Section.openFor n ∧
    (r.restarted n untimed).sec (sectionIndex n 2) = Section.lostAt (epochBack n 2) untimed := by
  obtain ⟨-, -, h0, h1, h2, h20, -, h10⟩ := sectionIndex_distinct n
  unfold Binding.restarted
  rw [sec_setSec_other _ h0 h2 (Ne.symm h20), sec_setSec_other _ h0 h1 (Ne.symm h10), sec_setSec_same, sec_setSec_same]
  exact ⟨rfl, rfl⟩

theorem restarted_fields (n : Nat) (untimed : Bool) (r : Binding) : (r.restarted n untimed).sinks = r.sinks ∧
    (r.restarted n untimed).released = r.released ∧ (r.restarted n untimed).lost = r.lost ∧
    (r.restarted n untimed).overrun = r.overrun := by
  unfold Binding.restarted
  obtain ⟨-, hs, hr, hl, ho, -⟩ := setSec_fields r (sectionIndex n 0) (Section.openFor n)
  obtain ⟨-, hs', hr', hl', ho', -⟩ := setSec_fields (r.setSec (sectionIndex n 0) (Section.openFor n)) (sectionIndex n 1)
    (Section.openFor (epochBack n 1))
  obtain ⟨-, hs'', hr'', hl'', ho'', -⟩ := setSec_fields ((r.setSec (sectionIndex n 0) (Section.openFor n)).setSec
    (sectionIndex n 1) (Section.openFor (epochBack n 1))) (sectionIndex n 2) (Section.lostAt (epochBack n 2) untimed)
  exact ⟨hs''.trans (hs'.trans hs), hr''.trans (hr'.trans hr), hl''.trans (hl'.trans hl), ho''.trans (ho'.trans ho)⟩

theorem event_of_mgmt (h : t.mgmt = s.mgmt) (k : Nat) : t.event k = s.event k := by
  rw [State.event, h]
  rfl

theorem binding_withSlots (s t : State) (k : Nat) : (s.withSlots t).binding k = s.binding k := rfl

theorem mgmt_withSlots (s t : State) : (s.withSlots t).mgmt = s.mgmt := rfl

theorem restarted (n : Nat) (untimed : Bool) (b : Nat) (s : State) :
    Restarted n untimed b s (restartBinding n untimed b s) ∧ RaisedTimes .sectionFault 0 s (restartBinding n untimed b s) := by
  obtain ⟨v, hv⟩ : ∃ v, v = dropDeliveries b s := ⟨_, rfl⟩
  obtain ⟨r, hr⟩ : ∃ r, r = { (s.binding b).restarted n untimed with
    released := bump ((s.binding b).restarted n untimed).released, lost := bump ((s.binding b).restarted n untimed).lost } := ⟨_, rfl⟩
  have hvb : v.binding b = s.binding b := by rw [hv, dropDeliveries_withSlots, binding_withSlots]
  have hvs : ∀ j, v.slot j = if j < 16 then (s.slot j).dropBinding b else s.slot j := fun j => by rw [hv, slot_dropDeliveries]
  have hvm : v.mgmt = s.mgmt := by rw [hv, dropDeliveries_withSlots, mgmt_withSlots]
  obtain ⟨w, hw⟩ : ∃ w, w = v.setBinding b r := ⟨_, rfl⟩
  have hwb : w.binding b = r := by rw [hw, State.binding_setBinding_same]
  have hws : ∀ k, w.slot k = v.slot k := fun k => by rw [hw]; rfl
  have hrun : restartBinding n untimed b s = beginDeliveries b (sectionIndex n 2) w := by
    rw [hw, hr, ← hvb, hv]
    rfl
  obtain ⟨⟨m, hbind⟩, -, honly, hlisted, -, hevents⟩ := begun_foldl (b := b) (i := sectionIndex n 2) (slotsOf r.sinks) w
  obtain ⟨z, hz⟩ : ∃ z, z = beginDeliveries b (sectionIndex n 2) w := ⟨_, rfl⟩
  have hzfold : (slotsOf r.sinks).foldl (beginDelivery b (sectionIndex n 2)) w = z := by rw [hz, beginDeliveries, hwb]
  rw [hzfold] at hbind honly hlisted hevents
  rw [hrun, ← hz]
  obtain ⟨h0, h2⟩ := restarted_secs n untimed (s.binding b)
  obtain ⟨hsinks, hrel, hlost, hover⟩ := restarted_fields n untimed (s.binding b)
  have hzsec : ∀ k, (z.binding b).sec k = ((s.binding b).restarted n untimed).sec k := fun k => by
    rw [hbind, hwb, hr]
    exact sec_counters _ _ _ _ _ k
  refine ⟨⟨by rw [hzsec, h0], by rw [hzsec, h2], ?_, fun j hj e hx => ?_, fun j hj hset hadm => ?_⟩, ?_⟩
  · rw [hbind, hwb, hr]
    exact ⟨hover, congrArg bump hrel, congrArg bump hlost⟩
  · rcases honly j e hx with hx | hx
    · rw [hws, hvs, if_pos hj] at hx
      obtain ⟨hdel, -⟩ := delivery_dropped (s.slot j) (fun e => e.binding == b) (isSectionOf b none)
      have hmem : e ∈ (s.slot j).delivery.filter (fun e => !(e.binding == b)) := hdel ▸ hx
      have hne := (List.mem_filter.1 hmem).2
      simp only [Bool.not_eq_true', beq_eq_false_iff_ne] at hne
      simp [isEntry, hne]
    · obtain ⟨-, -, -, -, -, h20, -⟩ := sectionIndex_distinct n
      rw [hx, isEntry]
      simp [h20]
  · refine hlisted j (mem_slotsOf.2 ⟨hj, ?_⟩) ?_
    · rw [hr]
      exact (congrArg (fun x : SlotSet => x.getLsbD j) hsinks).trans hset
    · obtain ⟨-, hst⟩ := delivery_dropped (s.slot j) (fun e => e.binding == b) (isSectionOf b none)
      rw [hws, hvs, if_pos hj]
      exact hst.trans hadm
  · refine raisedTimes_zero ?_
    have hwm : w.mgmt = v.mgmt := by rw [hw]; rfl
    exact event_of_mgmt (hevents.trans (hwm.trans hvm)) _

/-! ## The state in which the Delivery Unit reacts -/

theorem Raises.mono {ks js : List EventKind} (h : Raises js s t) (hj : js ⊆ ks) : Raises ks s t :=
  ⟨fun k hk => h.other k fun hm => hk (List.map_subset _ hj hm), h.pending⟩

theorem boundaryInstant_kinds (r : Rtu) : r.boundaryInstant.1.2 ⊆ [.stepped] := by
  unfold Rtu.boundaryInstant
  dsimp only
  split <;> simp

theorem boundaryCounts_kinds (r : Rtu) : r.boundaryCounts.2 ⊆ [.holdover, .freeRun] := by
  have hlost : ∀ x : Rtu, x.referenceLost.2 ⊆ [.holdover, .freeRun] := fun x =>
    fun _ h => List.mem_cons.2 (.inl (List.mem_singleton.1 (referenceLost_kinds x h)))
  have hmarks : ∀ x : Rtu, (if 3 ≤ x.markGap then x.referenceLost else (x, [])).2 ⊆ [.holdover, .freeRun] := fun x => by
    split
    · exact hlost x
    · exact List.nil_subset _
  unfold Rtu.boundaryCounts
  split
  · exact hmarks _
  · exact hmarks _
  · unfold Rtu.holdoverOver
    split <;> simp
  · exact List.nil_subset _

/-- The kinds that a boundary event may raise before the Delivery Unit's part. -/
def boundaryKinds : List EventKind := [.stepped, .holdover, .freeRun, .rootChanged, .overcommit, .triggerLate]

/-- What the ports and the timebase raise (R52, R56, R57). -/
theorem raises_boundaryCounted (s : State) : Raises [.stepped, .holdover, .freeRun] s s.boundaryCounted := by
  obtain ⟨_, _, _, _, _, _, hclose⟩ := (packed_closePackers s).units
  have hm : (closePackers s).mgmt = s.mgmt := by rw [hclose]
  have hinstant : Raises [.stepped, .holdover, .freeRun] s s.atInstant :=
    Raises.trans (.of_mgmt hm) ((raises_applyRtu (boundaryInstant_kinds s.rtu) _).mono (by simp))
  have hports : Raises [.stepped, .holdover, .freeRun] s.atInstant { s.atInstant with
      port0 := s.atInstant.port0.boundary s.jumps, port1 := s.atInstant.port1.boundary s.jumps } := .of_mgmt rfl
  exact (hinstant.trans hports).trans ((raises_applyRtu (boundaryCounts_kinds s.atInstant.rtu) _).mono (by simp))

theorem raises_boundaryFired (s : State) : Raises boundaryKinds s s.boundaryFired := by
  have hcount : Raises boundaryKinds s s.boundaryCounted := (raises_boundaryCounted s).mono (by simp [boundaryKinds])
  have hroot : Raises boundaryKinds s.boundaryCounted s.boundaryRooted :=
    (rooted_topologyBoundary s.boundaryCounted).events.mono (by simp [boundaryKinds])
  exact (hcount.trans hroot).trans ((raises_triggerBoundary s.jumps s.boundaryRooted).mono (by simp [boundaryKinds]))

theorem binding_of_bindings (h : t.bindings = s.bindings) (k : Nat) : t.binding k = s.binding k := by
  rw [State.binding, h]
  rfl

theorem slot_of_slots (h : t.slots = s.slots) (k : Nat) : t.slot k = s.slot k := by
  rw [State.slot, h]
  rfl

theorem boundaryFired_bindings (s : State) : s.boundaryFired.bindings = (closePackers s).bindings := by
  obtain ⟨_, _, _, hf⟩ := triggerBoundary_frame s.jumps s.boundaryRooted
  obtain ⟨_, _, _, _, _, _, hr⟩ := (rooted_topologyBoundary s.boundaryCounted).units
  have hcount : s.boundaryCounted.bindings = (closePackers s).bindings := by
    rw [State.boundaryCounted, applyRtu_frame, State.atInstant, applyRtu_frame]
  rw [State.boundaryFired, hf, State.boundaryRooted, hr]
  exact hcount

theorem boundaryFired_rtu (s : State) : s.boundaryFired.rtu = (epochBoundary s).rtu := by
  obtain ⟨_, _, _, hf⟩ := triggerBoundary_frame s.jumps s.boundaryRooted
  rw [(epochBoundary_units s).2.1, State.boundaryFired, hf]

/-- R43: with no packer at work, the Delivery Unit meets a boundary event as the state stood before it. -/
theorem boundaryFired_delivery (h : ∀ k, (s.route k).packer = none) :
    s.boundaryTurned = deliveryBoundary s.restarts s.boundaryFired ∧
    (∀ k, s.boundaryFired.binding k = s.binding k) ∧ (∀ k, s.boundaryFired.slot k = s.slot k) ∧
    s.boundaryFired.event EventKind.sectionFault.code = s.event EventKind.sectionFault.code := by
  have hclose := closePackers_of_none h
  refine ⟨?_, fun k => ?_, fun k => ?_, (raises_boundaryFired s).other _ (by decide)⟩
  · rw [State.boundaryTurned, reopenPackers_of_none fun k => by rw [boundaryFired_route, hclose]; exact h k]
  · rw [State.binding, boundaryFired_bindings, hclose]; rfl
  · rw [State.slot, boundaryFired_slots, hclose]; rfl

/-- Nothing after the Delivery Unit's part moves a binding, a Delivery List or an event's record. -/
theorem epochBoundary_delivery (s : State) : (∀ k, (epochBoundary s).binding k = s.boundaryTurned.binding k) ∧
    (∀ j, (epochBoundary s).slot j = if j < 16 then (s.boundaryTurned.slot j).passed else s.boundaryTurned.slot j) ∧
    (epochBoundary s).mgmt = s.boundaryTurned.mgmt := by
  obtain ⟨-, -, -, -, -, -, hb, hs, -, hm⟩ := (timed_boundary s).same
  obtain ⟨sl, hp⟩ := boundaryPassed_frame s
  refine ⟨fun k => ?_, fun j => ?_, ?_⟩
  · exact binding_of_bindings (hb.trans (by rw [hp])) k
  · have hchannels : ∀ u : State, (channelsBoundary u).slots = u.slots := fun _ => rfl
    rw [slot_of_slots (hs.trans (hchannels _)), slot_passBoundaries]
  · rw [hm, hp]

theorem epochBoundary_settled (h : s.settled) : settleDrains (epochBoundary s) = epochBoundary s := by
  refine settleDrains_of_none fun i => ?_
  obtain ⟨-, hslot, -⟩ := epochBoundary_delivery s
  obtain ⟨_, _, _, hturn⟩ := (turned_deliveryBoundary s.restarts (reopenPackers s.boundaryFired)).slots i
  obtain ⟨_, _, _, _, hpack⟩ := (packed_closePackers s).slots i
  obtain ⟨_, hre⟩ := reopenPackers_frame s.boundaryFired
  have hre' : (reopenPackers s.boundaryFired).slot i = (closePackers s).slot i := by
    rw [State.slot, hre, boundaryFired_slots]; rfl
  have hnone : (s.boundaryTurned.slot i).drain = none := by
    rw [State.boundaryTurned, hturn, hre', hpack]
    exact h.2 i
  rw [hslot]
  split
  · rw [Slot.passed, hnone]; rfl
  · exact hnone

/-! ## Status and length (R105, R106) -/

theorem releaseStatus_cases {x : Section} {size : Nat} :
    let lacks := x.last = none ∨ ∃ q l, x.last = some (q, l) ∧ ∃ k, k < q ∧ k * 256 < size ∧ tfind x.received k = none
    let st := x.releaseStatus size
    (x.absentSeen = true → st = .sourceAbsent) ∧
    (x.absentSeen = false ∧ x.received = [] → st = .lost) ∧
    (x.absentSeen = false ∧ x.received ≠ [] ∧ lacks → st = .incomplete) ∧
    (x.absentSeen = false ∧ x.received ≠ [] ∧ ¬lacks ∧ (x.truncatedSeen = true ∨ x.cut = true) → st = .truncated) ∧
    (x.absentSeen = false ∧ x.received ≠ [] ∧ ¬lacks ∧ x.truncatedSeen = false ∧ x.cut = false → st = .complete) := by
  dsimp only
  have hgap : ∀ q, x.gapBefore size q = true ↔ ∃ k, k < q ∧ k * 256 < size ∧ tfind x.received k = none := fun q => by
    simp [Section.gapBefore]
  unfold Section.releaseStatus
  refine ⟨fun h => if_pos h, fun ⟨h, hr⟩ => ?_, fun ⟨h, hr, hl⟩ => ?_, fun ⟨h, hr, hl, hc⟩ => ?_, fun ⟨h, hr, hl, ht, hc⟩ => ?_⟩
  · rw [if_neg (by simp [h]), if_pos hr]
  · rw [if_neg (by simp [h]), if_neg hr]
    rcases hl with hl | ⟨q, l, hl, hk⟩
    · rw [hl]
    · rw [hl]
      exact if_pos ((hgap q).2 hk)
  · rw [if_neg (by simp [h]), if_neg hr]
    cases hlast : x.last with
    | none => exact absurd (.inl hlast) hl
    | some z =>
      have hfull : ¬x.gapBefore size z.1 = true := fun hg => hl (.inr ⟨z.1, z.2, hlast, (hgap _).1 hg⟩)
      have hcut : (x.truncatedSeen || x.cut) = true := by simpa using hc
      exact (if_neg hfull).trans (if_pos hcut)
  · rw [if_neg (by simp [h]), if_neg hr]
    cases hlast : x.last with
    | none => exact absurd (.inl hlast) hl
    | some z =>
      have hfull : ¬x.gapBefore size z.1 = true := fun hg => hl (.inr ⟨z.1, z.2, hlast, (hgap _).1 hg⟩)
      have hcut : ¬(x.truncatedSeen || x.cut) = true := by simp [ht, hc]
      exact (if_neg hfull).trans (if_neg hcut)

/-! ## The boundary event seen from one binding -/

theorem topologyBoundary_rtu (s : State) :
    (topologyBoundary s).rtu = s.rtu ∨ (topologyBoundary s).rtu = s.rtu.referenceLost.1 := by
  have hchange : ∀ (new : Option PortId) (u : State), (rootwardChange new u).rtu = u.rtu ∨
      (rootwardChange new u).rtu = u.rtu.referenceLost.1 := fun new u => by
    rw [rootwardChange_rtu]
    split
    · exact .inr rfl
    · exact .inl rfl
  unfold topologyBoundary chooseRootward dropStaleRootward rootwardLost
  dsimp only
  split
  · split
    · exact .inl rfl
    · split
      · exact hchange _ _
      · exact .inl rfl
  · split
    · split
      · split
        · exact hchange _ _
        · exact .inl rfl
      · exact .inl rfl
    · exact .inl rfl

theorem referenceLost_epoch (r : Rtu) : r.referenceLost.1.epoch = r.epoch := by
  unfold Rtu.referenceLost
  split <;> rfl

theorem boundaryCounts_epoch (r : Rtu) : r.boundaryCounts.1.epoch = r.epoch := by
  unfold Rtu.boundaryCounts Rtu.holdoverOver
  dsimp only
  split
  · split
    · exact referenceLost_epoch _
    · rfl
  · split
    · exact referenceLost_epoch _
    · rfl
  · split <;> rfl
  · rfl

theorem boundaryCounted_rtu (s : State) : s.boundaryCounted.rtu = s.rtu.boundaryInstant.1.1.boundaryCounts.1 := by
  rw [State.boundaryCounted, applyRtu_frame, atInstant_rtu]

/-- R43: the epoch of a boundary event is that of its instant. -/
theorem epochBoundary_epoch (s : State) : (epochBoundary s).rtu.epoch = s.rtu.boundaryInstant.1.1.epoch := by
  have hcount : s.boundaryCounted.rtu.epoch = s.rtu.boundaryInstant.1.1.epoch := by
    rw [boundaryCounted_rtu, boundaryCounts_epoch]
  rw [(epochBoundary_units s).2.1, ← hcount, State.boundaryRooted]
  rcases topologyBoundary_rtu s.boundaryCounted with h | h <;> rw [h]
  exact referenceLost_epoch _

theorem restarts_iff : s.restarts = true ↔ s.rtu.pendingLoad ≠ none ∨ s.rtu.pendingStep ≠ none ∨
    (s.rtu.epoch = 2 ^ 39 - 1 ∧ (epochBoundary s).rtu.epoch = 0) := by
  rw [State.restarts, Bool.or_eq_true, jumps_iff, epochBoundary_epoch, epochWrapped, Bool.and_eq_true, beq_iff_eq, beq_iff_eq,
    or_assoc]

theorem passed_fields (c : Prop) [Decidable c] (r : Slot) : (if c then r.passed else r).delivery = r.delivery ∧
    (if c then r.passed else r).state = r.state := by
  split <;> exact ⟨rfl, rfl⟩

/-- R102: the boundary event is one binding's turn, with nothing of that binding before it or after it. -/
theorem epochBoundary_around (hb : b < 64) (h : ∀ k, (s.route k).packer = none) :
    ∃ v, Bystander b s v ∧ Bystander b (turnBinding (epochBoundary s).rtu.epoch (!(epochBoundary s).rtu.state.timed)
      s.restarts v b) (epochBoundary s) := by
  obtain ⟨hturn, hbinding, hslot, -⟩ := boundaryFired_delivery h
  obtain ⟨hbinding', hslot', hmgmt⟩ := epochBoundary_delivery s
  have hbefore : Bystander b s s.boundaryFired :=
    ⟨hbinding b, fun j e _ => by rw [hslot], fun j => by rw [hslot], (raises_boundaryFired s).pending⟩
  have hafter : Bystander b s.boundaryTurned (epochBoundary s) := by
    refine ⟨hbinding' b, fun j e _ => ?_, fun j => ?_, fun k hk => ?_⟩
    · rw [hslot', (passed_fields _ _).1]
    · rw [hslot', (passed_fields _ _).2]
    · rwa [State.event, hmgmt]
  obtain ⟨v, hv, ht⟩ := deliveryBoundary_around hb s.restarts s.boundaryFired
  rw [← hturn, boundaryFired_rtu] at ht
  exact ⟨v, hbefore.trans hv, ht.trans hafter⟩

theorem Bystander.heldIn (h : Bystander b s t) (i : Nat) : t.heldIn b i = s.heldIn b i := by
  refine List.filter_congr fun j _ => ?_
  have hiff : t.holdsSection b i j = true ↔ s.holdsSection b i j = true := by
    have hb : ∀ e, isEntry b i e = true → e.binding = b := fun e he => by
      simp only [isEntry, Bool.and_eq_true, beq_iff_eq] at he
      exact he.1
    rw [State.holdsSection, State.holdsSection, List.any_eq_true, List.any_eq_true]
    exact ⟨fun ⟨e, hm, he⟩ => ⟨e, (h.entries j e (hb e he)).1 hm, he⟩,
      fun ⟨e, hm, he⟩ => ⟨e, (h.entries j e (hb e he)).2 hm, he⟩⟩
  exact Bool.eq_iff_iff.2 hiff

/-- R114: where one binding alone is ENABLED, its turn raises all of the boundary event's SECTION_FAULTs. -/
theorem epochBoundary_faults {k : Nat} (hb : b < 64) (h : ∀ k, (s.route k).packer = none)
    (hother : ∀ j, j < 64 → j ≠ b → (s.binding j).enabled = false)
    (hk : ∀ v, Bystander b s v → RaisedTimes .sectionFault k v (turnBinding (epochBoundary s).rtu.epoch
      (!(epochBoundary s).rtu.state.timed) s.restarts v b)) : RaisedTimes .sectionFault k s (epochBoundary s) := by
  obtain ⟨hturn, hbinding, hslot, hevent⟩ := boundaryFired_delivery h
  obtain ⟨-, -, hmgmt⟩ := epochBoundary_delivery s
  have hbefore : Bystander b s s.boundaryFired :=
    ⟨hbinding b, fun j e _ => by rw [hslot], fun j => by rw [hslot], (raises_boundaryFired s).pending⟩
  have hfault := hk _ hbefore
  rw [← boundaryFired_rtu, ← deliveryBoundary_single hb s.restarts (fun j hj hne => by rw [hbinding]; exact hother j hj hne),
    ← hturn] at hfault
  have hsame : (epochBoundary s).event EventKind.sectionFault.code = s.boundaryTurned.event EventKind.sectionFault.code := by
    rw [State.event, hmgmt]; rfl
  unfold RaisedTimes at hfault ⊢
  rwa [hevent, ← hsame] at hfault

theorem release_fields (x : Section) (size : Nat) (untimed : Bool) : (x.release size untimed).state = .released ∧
    (x.release size untimed).epoch = x.epoch ∧ (x.release size untimed).status = x.releaseStatus size ∧
    (x.release size untimed).length = x.releaseLength size ∧ (x.release size untimed).untimed = untimed ∧
    (x.release size untimed).discontinuous = false := ⟨rfl, rfl, rfl, rfl, rfl, rfl⟩

theorem faulty_iff (x : SectionStatus) : x.faulty = true ↔ x = .incomplete ∨ x = .truncated ∨ x = .lost := by
  simp [SectionStatus.faulty, or_assoc]

/-! ## The statement (O41) -/

theorem isEntry_iff {e : DeliveryItem} : isEntry b i e = true ↔ e.binding = b ∧ e.sec = i := by simp [isEntry]

theorem Bystander.gone (h : Bystander b s t) (hs : ∀ e ∈ (s.slot j).delivery, isEntry b i e = false) :
    ∀ e ∈ (t.slot j).delivery, isEntry b i e = false := fun e he => by
  by_cases hb : e.binding = b
  · exact hs e ((h.entries j e hb).1 he)
  · simp [isEntry, hb]

/-- R102: a binding's turn, whatever the other bindings do before it and after it. -/
theorem Rotated.around {untimed : Bool} {v w : State} (hs : Bystander b s v) (h : Rotated n untimed b v w)
    (ht : Bystander b w t) : Rotated n untimed b s t := by
  obtain ⟨h1, h2, h3, h4, h5⟩ := h
  rw [hs.binding, ← ht.binding] at h4 h5
  rw [← ht.binding] at h1
  rw [hs.binding, ← ht.binding, hs.heldIn] at h2
  refine ⟨h1, h2, fun j hj => ht.gone (h3 j hj), fun hopen => ?_, h5⟩
  obtain ⟨hy, hr, hl, hlist, hskip⟩ := h4 hopen
  exact ⟨hy, hr, hl, fun j hj hset hadm => (ht.entries j ⟨b, sectionIndex n 2, 0⟩ rfl).2 (hlist j hj hset (by rwa [hs.states])),
    fun j hj hone hpark => hskip j hj hone (by rwa [hs.states])⟩

theorem Restarted.around {untimed : Bool} {v w : State} (hs : Bystander b s v) (h : Restarted n untimed b v w)
    (ht : Bystander b w t) : Restarted n untimed b s t := by
  obtain ⟨h1, h2, h3, h4, h5⟩ := h
  rw [hs.binding, ← ht.binding] at h3
  rw [hs.binding] at h5
  rw [← ht.binding] at h1 h2
  exact ⟨h1, h2, h3, fun j hj => ht.gone (h4 j hj), fun j hj hset hadm =>
    (ht.entries j ⟨b, sectionIndex n 2, 0⟩ rfl).2 (h5 j hj hset (by rwa [hs.states]))⟩

theorem Bystander.faultsAt (h : Bystander b s t) (n : Nat) : t.faultsAt n b = s.faultsAt n b := by
  unfold State.faultsAt
  rw [h.heldIn, h.binding]

/-- R102, R114: an ENABLED binding at an ordinary boundary, no packer being at work. -/
theorem epochBoundary_rotates (hb : b < 64) (hen : (s.binding b).enabled = true) (h : ∀ k, (s.route k).packer = none)
    (hr : s.restarts = false) :
    Rotated (epochBoundary s).rtu.epoch (!(epochBoundary s).rtu.state.timed) b s (epochBoundary s) ∧
    (0 < s.faultsAt (epochBoundary s).rtu.epoch b → ((epochBoundary s).event EventKind.sectionFault.code).pending = true) ∧
    ((∀ j, j < 64 → j ≠ b → (s.binding j).enabled = false) →
      RaisedTimes .sectionFault (s.faultsAt (epochBoundary s).rtu.epoch b) s (epochBoundary s)) := by
  have hturn : ∀ v, Bystander b s v → turnBinding (epochBoundary s).rtu.epoch (!(epochBoundary s).rtu.state.timed) s.restarts v b =
      rotateBinding (epochBoundary s).rtu.epoch (!(epochBoundary s).rtu.state.timed) b v := fun v hv => by
    rw [hr, turnBinding_rotates (by rw [hv.binding, hen])]
  obtain ⟨v, hv, ht⟩ := epochBoundary_around hb h
  rw [hturn v hv] at ht
  obtain ⟨hrot, hfault⟩ := rotated (epochBoundary s).rtu.epoch (!(epochBoundary s).rtu.state.timed) b v
  refine ⟨hrot.around hv ht, fun hpos => ht.pending _ (hfault.2 (by rwa [hv.faultsAt])).1, fun hother => ?_⟩
  refine epochBoundary_faults hb h hother fun v' hv' => ?_
  rw [hturn v' hv', ← hv'.faultsAt]
  exact (rotated _ _ b v').2

/-- R107: an ENABLED binding at a stepped, loaded or wrapping boundary, no packer being at work. -/
theorem epochBoundary_restarts (hb : b < 64) (hen : (s.binding b).enabled = true) (h : ∀ k, (s.route k).packer = none)
    (hr : s.restarts = true) :
    Restarted (epochBoundary s).rtu.epoch (!(epochBoundary s).rtu.state.timed) b s (epochBoundary s) ∧
    ((∀ j, j < 64 → j ≠ b → (s.binding j).enabled = false) → RaisedTimes .sectionFault 0 s (epochBoundary s)) := by
  have hturn : ∀ v, Bystander b s v → turnBinding (epochBoundary s).rtu.epoch (!(epochBoundary s).rtu.state.timed) s.restarts v b =
      restartBinding (epochBoundary s).rtu.epoch (!(epochBoundary s).rtu.state.timed) b v := fun v hv => by
    rw [hr, turnBinding_restarts (by rw [hv.binding, hen])]
  obtain ⟨v, hv, ht⟩ := epochBoundary_around hb h
  rw [hturn v hv] at ht
  refine ⟨(restarted _ _ b v).1.around hv ht, fun hother => epochBoundary_faults hb h hother fun v' hv' => ?_⟩
  rw [hturn v' hv']
  exact (restarted _ _ b v').2

theorem heldIn_le_faultsAt (s : State) (n b : Nat) : (s.heldIn b (n % 3)).length ≤ s.faultsAt n b := by
  rw [State.faultsAt, (sectionIndex_distinct n).1]
  exact Nat.le_add_right _ _

/-- R114: the SECTION_FAULTs of an ordinary boundary, by the status with which a section is released. -/
theorem faultsAt_of_status {untimed : Bool} {v : Section} (hv : ((s.binding b).sec ((n + 1) % 3)).state = .opened →
      v = ((s.binding b).sec ((n + 1) % 3)).release (s.binding b).size untimed) :
    (((s.binding b).sec ((n + 1) % 3)).state = .opened ∧
        (v.status = .incomplete ∨ v.status = .truncated ∨ v.status = .lost) →
      s.faultsAt n b = (s.heldIn b (n % 3)).length + 1) ∧
    (¬(((s.binding b).sec ((n + 1) % 3)).state = .opened ∧
        (v.status = .incomplete ∨ v.status = .truncated ∨ v.status = .lost)) →
      s.faultsAt n b = (s.heldIn b (n % 3)).length) := by
  obtain ⟨h0, h2, -⟩ := sectionIndex_distinct n
  have hstatus : ((s.binding b).sec ((n + 1) % 3)).state = .opened →
      v.status = ((s.binding b).sec ((n + 1) % 3)).releaseStatus (s.binding b).size := fun ho => by rw [hv ho]; rfl
  unfold State.faultsAt
  rw [h0, h2]
  refine ⟨fun ⟨ho, hst⟩ => ?_, fun hno => ?_⟩
  · rw [if_pos ⟨ho, (faulty_iff _).2 (by rwa [hstatus ho] at hst)⟩]
  · rw [if_neg fun ⟨ho, hst⟩ => hno ⟨ho, by rw [hstatus ho]; exact (faulty_iff _).1 hst⟩]
    rfl

/-- Settles O41. -/
theorem sectionStatusAtRelease : Obligations.SectionStatusAtRelease := by
  intro b s hs hb hen hpack
  have hrestart := restarts_iff (s := s)
  have hrotates := epochBoundary_rotates (s := s) hb hen hpack
  have hrestarts := epochBoundary_restarts (s := s) hb hen hpack
  refine ⟨epochBoundary s, by rw [exec_epochBoundary hs.1, epochBoundary_settled hs], ?_⟩
  obtain ⟨t, ht⟩ : ∃ t, t = epochBoundary s := ⟨_, rfl⟩
  rw [← ht] at hrestart hrotates hrestarts ⊢
  obtain ⟨h0, h2, -⟩ := sectionIndex_distinct t.rtu.epoch
  dsimp only
  cases hr : s.restarts with
  | true =>
    have hyes := hrestart.1 hr
    obtain ⟨⟨hreused, hrel, ⟨hover, hreleased, hlost⟩, hgone, hlist⟩, hzero⟩ := hrestarts hr
    rw [h0] at hreused hgone
    rw [h2] at hrel hlist
    rw [hreused, hrel]
    refine ⟨rfl, rfl, rfl, fun j hj e he hx => ?_, fun hno => absurd hyes hno, fun _ => hover,
      fun hother => ⟨fun hno => absurd hyes hno, fun _ => hzero hother⟩, fun hno => absurd hyes hno,
      fun _ => ⟨rfl, rfl, hreleased, hlost, rfl, rfl, rfl, rfl, hlist⟩⟩
    exact absurd (isEntry_iff.2 hx) (by rw [hgone j hj e he]; decide)
  | false =>
    have hno : ¬(s.rtu.pendingLoad ≠ none ∨ s.rtu.pendingStep ≠ none ∨ s.rtu.epoch = 2 ^ 39 - 1 ∧ t.rtu.epoch = 0) :=
      fun h => absurd (hrestart.2 h) (by rw [hr]; decide)
    obtain ⟨⟨hreused, hover, hgone, hopen, hstays⟩, hpending, hfaults⟩ := hrotates hr
    rw [h0] at hreused hover hgone
    rw [h2] at hopen hstays
    obtain ⟨hfaulty, hclean⟩ := faultsAt_of_status (fun ho => (hopen ho).1)
    have hheld : s.heldIn b (t.rtu.epoch % 3) = (List.range 16).filter
      (fun j => (s.slot j).delivery.any (fun e => e.binding == b && e.sec == t.rtu.epoch % 3)) := rfl
    rw [hheld] at hover hfaulty hclean
    rw [hreused]
    refine ⟨rfl, rfl, rfl, fun j hj e he hx => absurd (isEntry_iff.2 hx) (by rw [hgone j hj e he]; decide), fun _ => ?_,
      fun h => absurd h hno, fun hother => ⟨fun _ => ⟨fun hf => ?_, fun hf => ?_⟩, fun h => absurd h hno⟩,
      fun _ => ⟨fun hx => ?_, fun hx => ?_⟩, fun h => absurd h hno⟩
    · rw [hover]
      refine ⟨fun hnil => ?_, fun hne => ?_, fun h => hpending (h.elim (fun hne => ?_) fun hf => ?_)⟩
      · rw [hnil]; rfl
      · exact if_neg (mt List.length_eq_zero_iff.1 hne)
      · exact Nat.lt_of_lt_of_le (List.length_pos_iff.2 hne) (heldIn_le_faultsAt s t.rtu.epoch b)
      · rw [hfaulty hf]
        exact Nat.succ_pos _
    · rw [← hfaulty hf]; exact hfaults hother
    · rw [← hclean hf]; exact hfaults hother
    · obtain ⟨hy, hrel, hlost, hlist, hskip⟩ := hopen hx
      obtain ⟨habsent, hnothing, hlacks, hcut, hwhole⟩ := releaseStatus_cases (x := (s.binding b).sec ((t.rtu.epoch + 1) % 3))
        (size := (s.binding b).size)
      rw [hy]
      exact ⟨rfl, rfl, habsent, hnothing, hlacks, hcut, hwhole, rfl, rfl, rfl, hrel, hlost, hlist, hskip⟩
    · exact hstays hx

end Sys2Proof.Machine
end

section
/-! SUPPORT. The boundary event at the Topology Unit and at the Rack Time Unit (R27 to R29, R43, R52 to R59). -/

namespace Sys2Proof.Machine

variable {s t u : State} {p : PortId} {k : Nat}

/-! ## The tree (R27 to R29) -/

/-- R27: the state whose Mark Records are a boundary event older. -/
def State.aged (s : State) : State :=
  s.updTopo (fun t => { t with mark0 := t.mark0.map MarkRecord.older, mark1 := t.mark1.map MarkRecord.older })

/-- R29: the Rootward Port's Mark Record comes to Age 3 at the next boundary event. -/
def State.losesRoot (s : State) : Prop := ∃ p m, s.topo.rootward = some p ∧ s.topo.mark p = some m ∧ 2 ≤ m.age

theorem aged_mark (s : State) (p : PortId) : s.aged.topo.mark p = (s.topo.mark p).map MarkRecord.older := by cases p <;> rfl

theorem aged_changes (s : State) : s.aged.topo.rootwardChanges = s.topo.rootwardChanges := rfl

theorem older_stale (m : MarkRecord) : 3 ≤ m.older.age ↔ 2 ≤ m.age := by
  unfold MarkRecord.older
  split
  · show 3 ≤ m.age + 1 ↔ _
    omega
  · omega

theorem older_hops (m : MarkRecord) : m.older.hops = m.hops := by
  unfold MarkRecord.older
  split <;> rfl

theorem topologyBoundary_root (hr : s.topo.root = true) (hn : s.topo.rootward = none) : topologyBoundary s = s.aged := by
  have hnone : s.topo.rootward.isNone = true := by rw [hn]; rfl
  have hroot : (s.aged.topo.root || s.aged.topo.rootward.isSome) = true := by
    rw [show s.aged.topo.root = true from hr]; rfl
  exact (if_pos hnone).trans (if_pos hroot)

theorem topologyBoundary_unrooted (hr : s.topo.root = false) (hn : s.topo.rootward = none) :
    topologyBoundary s = match s.aged.bestCandidate none with
      | some p => rootwardChange (some p) s.aged
      | none => s.aged := by
  have hnone : s.topo.rootward.isNone = true := by rw [hn]; rfl
  have hroot : ¬(s.aged.topo.root || s.aged.topo.rootward.isSome) = true := by
    rw [show s.aged.topo.root = false from hr, show s.aged.topo.rootward = none from hn]; decide
  refine (if_pos hnone).trans ((if_neg hroot).trans ?_)
  rfl

theorem topologyBoundary_lost {m : MarkRecord} (hp : s.topo.rootward = some p) (hm : s.topo.mark p = some m) (ha : 2 ≤ m.age) :
    topologyBoundary s = rootwardChange (s.aged.bestCandidate (some p)) s.aged := by
  have hsome : ¬s.topo.rootward.isNone = true := by rw [hp]; exact Bool.false_ne_true
  have hmark : s.aged.topo.mark p = some m.older := by rw [aged_mark, hm]; rfl
  have hroot : s.aged.topo.rootward = some p := hp
  refine (if_neg hsome).trans ?_
  show dropStaleRootward s.aged = _
  simp only [dropStaleRootward, hroot, hmark, if_pos ((older_stale m).2 ha), rootwardLost]

theorem topologyBoundary_kept (hp : s.topo.rootward = some p) (hl : ¬s.losesRoot) : topologyBoundary s = s.aged := by
  have hsome : ¬s.topo.rootward.isNone = true := by rw [hp]; exact Bool.false_ne_true
  have hroot : s.aged.topo.rootward = some p := hp
  refine (if_neg hsome).trans ?_
  show dropStaleRootward s.aged = _
  simp only [dropStaleRootward, hroot, aged_mark]
  cases hm : s.topo.mark p with
  | none => rfl
  | some m => exact if_neg fun ha => hl ⟨p, m, hp, hm, (older_stale m).1 ha⟩

/-- R56: the timebase loses its reference with the Rootward Port. -/
theorem topologyBoundary_reference : (s.losesRoot → (topologyBoundary s).rtu = s.rtu.referenceLost.1 ∧
      ∀ j ∈ s.rtu.referenceLost.2.map EventKind.code, ((topologyBoundary s).event j).pending = true) ∧
    (¬s.losesRoot → (topologyBoundary s).rtu = s.rtu) := by
  refine ⟨fun ⟨p, m, hp, hm, ha⟩ => ?_, fun hl => ?_⟩
  · have hsome : s.aged.topo.rootward.isSome = true := by rw [show s.aged.topo.rootward = some p from hp]; rfl
    rw [topologyBoundary_lost hp hm ha, rootwardChange_rtu, if_pos hsome]
    exact ⟨rfl, fun j hj => rootwardChange_pending (.inr (.inr ⟨hsome, hj⟩))⟩
  · cases hp : s.topo.rootward with
    | some p => rw [topologyBoundary_kept hp hl]; rfl
    | none =>
      cases hr : s.topo.root with
      | true => rw [topologyBoundary_root hr hp]; rfl
      | false =>
        rw [topologyBoundary_unrooted hr hp]
        split
        · rw [rootwardChange_rtu, if_neg (by rw [show s.aged.topo.rootward = none from hp]; decide)]
          rfl
        · rfl

/-- R27: a port may become the Rootward Port at the next boundary event. -/
def State.candidateNext (s : State) (p : PortId) : Prop := (s.port p).state = .up ∧
  (∀ q, (s.port p).peer = some q → q.rootward = false) ∧ ∃ m, s.topo.mark p = some m ∧ m.age < 2

theorem aged_candidate : s.aged.isCandidate p = true ↔ s.candidateNext p := by
  have hport : s.aged.port p = s.port p := by cases p <;> rfl
  rw [isCandidate_iff, hport, aged_mark]
  refine and_congr_right fun _ => and_congr_right fun _ => ⟨fun ⟨m, hm, ha⟩ => ?_, fun ⟨m, hm, ha⟩ => ?_⟩
  · obtain ⟨m0, hm0, rfl⟩ := Option.map_eq_some_iff.1 hm
    exact ⟨m0, hm0, by have := older_stale m0; omega⟩
  · exact ⟨m.older, by rw [hm]; rfl, by have := older_stale m; omega⟩

theorem aged_hops (s : State) (p : PortId) : s.aged.markHops p = ((s.topo.mark p).map (·.hops)).getD 0 := by
  rw [State.markHops, aged_mark]
  cases s.topo.mark p with
  | none => rfl
  | some m => exact older_hops m

/-- R28: of two candidates the one of fewer hops is best, and of equals port 0. -/
theorem bestCandidate_of_least (hp : s.isCandidate p = true) (h : s.isCandidate p.other = true →
      s.markHops p < s.markHops p.other ∨ (s.markHops p = s.markHops p.other ∧ p = .p0)) : s.bestCandidate none = some p := by
  cases p with
  | p0 =>
    cases h1 : s.isCandidate .p1 with
    | true =>
      have hless : ¬s.markHops .p1 < s.markHops .p0 := by
        have := h h1
        simp only [PortId.other] at this
        omega
      simp [State.bestCandidate, hp, h1, hless]
    | false => simp [State.bestCandidate, hp, h1]
  | p1 =>
    cases h0 : s.isCandidate .p0 with
    | true =>
      have hless : s.markHops .p1 < s.markHops .p0 := (h h0).elim id fun hx => nomatch hx.2
      simp [State.bestCandidate, hp, h0, hless]
    | false => simp [State.bestCandidate, hp, h0]

theorem bestCandidate_none (h : ∀ p, s.isCandidate p = false) : s.bestCandidate none = none := by
  simp [State.bestCandidate, h]

/-- R31: the Topology Unit has taken a Rootward Port. -/
def Chosen (p : PortId) (s t : State) : Prop := t.topo.rootward = some p ∧
  t.topo.hops = some (((s.topo.mark p).map (·.hops)).getD 0 + 1) ∧ t.topo.rootwardChanges = bump s.topo.rootwardChanges ∧
  (t.event EventKind.rootChanged.code).pending = true

theorem chosen_rootwardChange (p : PortId) (s : State) : Chosen p s (rootwardChange (some p) s.aged) := by
  obtain ⟨_, h⟩ := rootwardChange_topo (some p) s.aged
  obtain ⟨c, hc⟩ : ∃ c, c = bump s.topo.rootwardChanges := ⟨_, rfl⟩
  rw [aged_changes] at h
  rw [Chosen, h, ← aged_hops, ← hc]
  exact ⟨rfl, rfl, rfl, rootwardChange_pending (.inl rfl)⟩

/-- R27 to R29, R31: the Rootward Port after a boundary event. -/
theorem topologyBoundary_rootward (s : State) :
    (s.topo.root = false ∧ s.topo.rootward = none → (∀ p, s.candidateNext p → (s.candidateNext p.other →
          ((s.topo.mark p).map (·.hops)).getD 0 < ((s.topo.mark p.other).map (·.hops)).getD 0 ∨
          (((s.topo.mark p).map (·.hops)).getD 0 = ((s.topo.mark p.other).map (·.hops)).getD 0 ∧ p = .p0)) →
        Chosen p s (topologyBoundary s)) ∧
      ((∀ p, ¬s.candidateNext p) → (topologyBoundary s).topo.rootward = none ∧
        (topologyBoundary s).topo.rootwardChanges = s.topo.rootwardChanges)) ∧
    (s.topo.root = true ∧ s.topo.rootward = none → (topologyBoundary s).topo.rootward = none) ∧
    (s.topo.rootward ≠ none ∧ ¬s.losesRoot → (topologyBoundary s).topo.rootward = s.topo.rootward ∧
      (topologyBoundary s).topo.rootwardChanges = s.topo.rootwardChanges) ∧
    (∀ p, s.topo.rootward = some p ∧ s.losesRoot → (s.candidateNext p.other → Chosen p.other s (topologyBoundary s)) ∧
      (¬s.candidateNext p.other → (topologyBoundary s).topo.rootward = none ∧ (topologyBoundary s).topo.hops = none ∧
        (topologyBoundary s).topo.rootwardChanges = bump s.topo.rootwardChanges ∧
        ((topologyBoundary s).event EventKind.rootChanged.code).pending = true)) := by
  refine ⟨fun ⟨hr, hn⟩ => ⟨fun p hp hbest => ?_, fun hnone => ?_⟩, fun ⟨hr, hn⟩ => ?_, fun ⟨hn, hl⟩ => ?_,
    fun p ⟨hp, q, m, hq, hm, ha⟩ => ?_⟩
  · have hcand : s.aged.bestCandidate none = some p := by
      refine bestCandidate_of_least (aged_candidate.2 hp) fun h => ?_
      rw [aged_hops, aged_hops]
      exact hbest (aged_candidate.1 h)
    rw [topologyBoundary_unrooted hr hn, hcand]
    exact chosen_rootwardChange p s
  · have hcand : s.aged.bestCandidate none = none :=
      bestCandidate_none fun p => Bool.eq_false_iff.2 fun h => hnone p (aged_candidate.1 h)
    rw [topologyBoundary_unrooted hr hn, hcand]
    exact ⟨hn, rfl⟩
  · rw [topologyBoundary_root hr hn]
    exact hn
  · obtain ⟨p, hp⟩ := Option.ne_none_iff_exists'.1 hn
    rw [topologyBoundary_kept hp hl]
    exact ⟨rfl, rfl⟩
  · have hqp : q = p := Option.some.inj (hq.symm.trans hp)
    rw [hqp] at hm
    rw [topologyBoundary_lost hp hm ha, bestCandidate_lost]
    refine ⟨fun hc => ?_, fun hc => ?_⟩
    · rw [if_pos (aged_candidate.2 hc)]
      exact chosen_rootwardChange p.other s
    · rw [if_neg (mt aged_candidate.1 hc)]
      obtain ⟨_, h⟩ := rootwardChange_topo none s.aged
      obtain ⟨c, hc⟩ : ∃ c, c = bump s.topo.rootwardChanges := ⟨_, rfl⟩
      rw [aged_changes] at h
      rw [h, ← hc]
      exact ⟨rfl, rfl, rfl, rootwardChange_pending (.inl rfl)⟩

/-! ## The timebase (R43, R52, R56, R57, R59) -/

/-- What a boundary instant and a boundary event leave of the timebase's servo. -/
structure SameServo (r r' : Rtu) : Prop where
  state : r'.state = r.state
  trim : r'.trim = r.trim
  history : r'.trimHistory = r.trimHistory
  gap : r'.markGap = r.markGap
  holdover : r'.holdoverEpochs = r.holdoverEpochs
  limit : r'.holdoverLimit = r.holdoverLimit

/-- R43: Rack Time, the pending values and their counts, which the reactions to a boundary event keep. -/
structure SameTime (r r' : Rtu) : Prop where
  time : r'.rackTime = r.rackTime
  epoch : r'.epoch = r.epoch
  load : r'.pendingLoad = r.pendingLoad
  loads : r'.loads = r.loads
  steps : r'.steps = r.steps
  step : r.pendingStep = none → r'.pendingStep = none
  slew : r.slew = none → r'.slew = none

theorem SameTime.refl (r : Rtu) : SameTime r r := ⟨rfl, rfl, rfl, rfl, rfl, id, id⟩

theorem SameTime.trans {r r' r'' : Rtu} (h : SameTime r r') (h' : SameTime r' r'') : SameTime r r'' :=
  ⟨h'.time.trans h.time, h'.epoch.trans h.epoch, h'.load.trans h.load, h'.loads.trans h.loads, h'.steps.trans h.steps,
    fun hs => h'.step (h.step hs), fun hs => h'.slew (h.slew hs)⟩

theorem referenceLost_time (r : Rtu) : SameTime r r.referenceLost.1 := by
  unfold Rtu.referenceLost
  split
  · exact ⟨rfl, rfl, rfl, rfl, rfl, id, fun _ => rfl⟩
  · exact ⟨rfl, rfl, rfl, rfl, rfl, fun _ => rfl, fun _ => rfl⟩
  · exact .refl r

theorem boundaryCounts_time (r : Rtu) : SameTime r r.boundaryCounts.1 := by
  have hgap : ∀ g, SameTime r { r with markGap := g } := fun _ => ⟨rfl, rfl, rfl, rfl, rfl, id, id⟩
  unfold Rtu.boundaryCounts Rtu.holdoverOver
  dsimp only
  split
  · split
    · exact (hgap _).trans (referenceLost_time _)
    · exact hgap _
  · split
    · exact (hgap _).trans (referenceLost_time _)
    · exact hgap _
  · split
    · exact ⟨rfl, rfl, rfl, rfl, rfl, id, id⟩
    · exact ⟨rfl, rfl, rfl, rfl, rfl, id, id⟩
  · exact .refl r

theorem ticks_epoch (x : BitVec 88) : x.toNat / 2 ^ 32 / 2 ^ 17 = x.toNat / 2 ^ 49 := by
  rw [Nat.div_div_eq_div_mul, ← pow_add]

theorem boundaryInstant_load {r : Rtu} {v : Nat} (hl : r.pendingLoad = some v) : ∃ x e c,
    r.boundaryInstant.1 = ({ r with rackTime := x, pendingLoad := none, loads := c, epoch := e }, []) ∧
    x = BitVec.ofNat 88 (v * 2 ^ 32) ∧ e = x.toNat / 2 ^ 49 ∧ c = bump r.loads :=
  ⟨_, _, _, by simp only [Rtu.boundaryInstant, hl]; rfl, rfl, ticks_epoch _, rfl⟩

theorem boundaryInstant_step {r : Rtu} {a : Int} (hl : r.pendingLoad = none) (hs : r.pendingStep = some a) : ∃ x e c,
    r.boundaryInstant.1 = ({ r with rackTime := x, pendingStep := none, slew := none, steps := c, epoch := e }, [.stepped]) ∧
    x = r.boundaryTime + BitVec.ofInt 88 (a * 2 ^ 28) ∧ e = x.toNat / 2 ^ 49 ∧ c = bump r.steps :=
  ⟨_, _, _, by simp only [Rtu.boundaryInstant, hl, hs]; rfl, rfl, ticks_epoch _, rfl⟩

theorem boundaryInstant_plain {r : Rtu} (hl : r.pendingLoad = none) (hs : r.pendingStep = none) : ∃ x e,
    r.boundaryInstant.1 = ({ r with rackTime := x, epoch := e }, []) ∧ x = r.boundaryTime ∧ e = x.toNat / 2 ^ 49 :=
  ⟨_, _, by simp only [Rtu.boundaryInstant, hl, hs]; rfl, rfl, ticks_epoch _⟩

theorem boundaryInstant_servo (r : Rtu) : SameServo r r.boundaryInstant.1.1 := by
  cases hl : r.pendingLoad with
  | some v =>
    obtain ⟨_, _, _, h, -⟩ := boundaryInstant_load hl
    rw [h]
    exact ⟨rfl, rfl, rfl, rfl, rfl, rfl⟩
  | none =>
    cases hs : r.pendingStep with
    | some a =>
      obtain ⟨_, _, _, h, -⟩ := boundaryInstant_step hl hs
      rw [h]
      exact ⟨rfl, rfl, rfl, rfl, rfl, rfl⟩
    | none =>
      obtain ⟨_, _, h, -⟩ := boundaryInstant_plain hl hs
      rw [h]
      exact ⟨rfl, rfl, rfl, rfl, rfl, rfl⟩

/-- R43: Rack Time has reached the boundary where its epoch is not the Epoch Number. -/
theorem boundaryTime_reached {r : Rtu} (h : r.rackTime.toNat / 2 ^ 49 ≠ r.epoch) : r.boundaryTime = r.rackTime := by
  have hreached : r.boundaryReached = true := by
    unfold Rtu.boundaryReached Rtu.ticks
    rw [ticks_epoch]
    simpa using h
  exact if_pos hreached

/-- R43, R52, R59: what the boundary instant does to Rack Time. -/
theorem boundaryInstant_time {r : Rtu} (h : r.rackTime.toNat / 2 ^ 49 ≠ r.epoch) :
    let x := r.boundaryInstant.1.1
    x.epoch = x.rackTime.toNat / 2 ^ 49 ∧ x.pendingLoad = none ∧
    (∀ v, r.pendingLoad = some v → x.rackTime = BitVec.ofNat 88 (v * 2 ^ 32) ∧ x.loads = bump r.loads ∧ x.steps = r.steps) ∧
    (∀ a, r.pendingLoad = none ∧ r.pendingStep = some a → x.rackTime = r.rackTime + BitVec.ofInt 88 (a * 2 ^ 28) ∧
      x.pendingStep = none ∧ x.slew = none ∧ x.steps = bump r.steps ∧ r.boundaryInstant.1.2 = [.stepped]) ∧
    (r.pendingLoad = none ∧ r.pendingStep = none → x.rackTime = r.rackTime ∧ x.loads = r.loads ∧ x.steps = r.steps) := by
  dsimp only
  cases hl : r.pendingLoad with
  | some v =>
    obtain ⟨x, e, c, hx, htime, hepoch, hc⟩ := boundaryInstant_load hl
    rw [hx]
    refine ⟨hepoch, rfl, fun w hw => ?_, fun _ hx => absurd hx.1 (Option.some_ne_none v),
      fun hx => absurd hx.1 (Option.some_ne_none v)⟩
    rw [← Option.some.inj hw]
    exact ⟨htime, hc, rfl⟩
  | none =>
    cases hs : r.pendingStep with
    | some a =>
      obtain ⟨x, e, c, hx, htime, hepoch, hc⟩ := boundaryInstant_step hl hs
      rw [boundaryTime_reached h] at htime
      rw [hx]
      refine ⟨hepoch, hl, fun _ hx => (nomatch hx), fun b hb => ?_, fun hx => absurd hx.2 (Option.some_ne_none a)⟩
      rw [← Option.some.inj hb.2]
      exact ⟨htime, rfl, rfl, hc, rfl⟩
    | none =>
      obtain ⟨x, e, hx, htime, hepoch⟩ := boundaryInstant_plain hl hs
      rw [boundaryTime_reached h] at htime
      rw [hx]
      exact ⟨hepoch, hl, fun _ hx => (nomatch hx), fun a hx => absurd hx.2.symm (Option.some_ne_none a),
        fun _ => ⟨htime, rfl, rfl⟩⟩

/-- R56, R57: the timebase after its own counts, and after the loss of the Rootward Port where there is one. -/
def Rtu.afterBoundary (lost : Bool) (r : Rtu) : Rtu := if lost then r.boundaryCounts.1.referenceLost.1 else r.boundaryCounts.1

theorem afterBoundary_time (lost : Bool) (r : Rtu) : SameTime r (r.afterBoundary lost) := by
  cases lost
  · exact boundaryCounts_time r
  · exact (boundaryCounts_time r).trans (referenceLost_time _)

/-- R56: one more mark is missing. -/
def Rtu.missed (r : Rtu) : Rtu := { r with markGap := min (r.markGap + 1) 3 }

theorem boundaryCounts_marks {r : Rtu} (hs : r.state = .acquire ∨ r.state = .track) :
    r.boundaryCounts = if 2 ≤ r.markGap then r.missed.referenceLost else (r.missed, []) := by
  have hgap : (3 ≤ min (r.markGap + 1) 3) = (2 ≤ r.markGap) := propext (by omega)
  rcases hs with hs | hs <;> simp only [Rtu.boundaryCounts, hs, hgap, Rtu.missed]

theorem boundaryCounts_holdover {r : Rtu} (hs : r.state = .holdover) :
    r.boundaryCounts = Rtu.holdoverOver { r with holdoverEpochs := r.holdoverEpochs + 1 } := by
  simp only [Rtu.boundaryCounts, hs]

theorem boundaryCounts_still {r : Rtu} (hs : r.state = .free ∨ r.state = .reference) : r.boundaryCounts = (r, []) := by
  rcases hs with hs | hs <;> simp only [Rtu.boundaryCounts, hs]

theorem referenceLost_still {r : Rtu} (ht : r.state ≠ .track) (ha : r.state ≠ .acquire) : r.referenceLost = (r, []) := by
  cases hs : r.state with
  | track => exact absurd hs ht
  | acquire => exact absurd hs ha
  | free => simp only [Rtu.referenceLost, hs]
  | reference => simp only [Rtu.referenceLost, hs]
  | holdover => simp only [Rtu.referenceLost, hs]

theorem referenceLost_track {r : Rtu} (hs : r.state = .track) : r.referenceLost = ({ r with
    state := .holdover, trim := r.meanTrim, slew := none, holdoverEpochs := 0, markGap := 0, wideCount := 0
    outlierCount := 0 }, [.holdover]) := by simp only [Rtu.referenceLost, hs]

theorem referenceLost_acquire {r : Rtu} (hs : r.state = .acquire) : r.referenceLost = ({ r with
    state := .free, slew := none, pendingStep := none, lockCount := 0, markGap := 0 }, []) := by
  simp only [Rtu.referenceLost, hs]

theorem missed_meanTrim (r : Rtu) : r.missed.meanTrim =
    if r.trimHistory = [] then r.trim else divAway r.trimHistory.sum r.trimHistory.length := by
  simp only [Rtu.meanTrim, Rtu.missed, List.length_eq_zero_iff]

/-- R56: in TRACK or ACQUIRE the reference is lost by the marks, with the Rootward Port, or by both; the second loss finds
nothing to do. -/
theorem afterBoundary_loses {lost : Bool} {r : Rtu} (hs : r.state = .acquire ∨ r.state = .track)
    (h : 2 ≤ r.markGap ∨ lost = true) : r.afterBoundary lost = r.missed.referenceLost.1 := by
  have htwice : r.missed.referenceLost.1.referenceLost.1 = r.missed.referenceLost.1 := by
    rcases hs with hs | hs
    · rw [referenceLost_acquire (r := r.missed) hs, referenceLost_still (by simp) (by simp)]
    · rw [referenceLost_track (r := r.missed) hs, referenceLost_still (by simp) (by simp)]
  unfold Rtu.afterBoundary
  rw [boundaryCounts_marks hs]
  by_cases hg : 2 ≤ r.markGap
  · rw [if_pos hg]
    split
    · exact htwice
    · rfl
  · rw [if_neg hg, if_pos (h.resolve_left hg)]

/-- R56, R57: TRACK without its reference. -/
theorem afterBoundary_track {lost : Bool} {r : Rtu} (hs : r.state = .track) (h : 2 ≤ r.markGap ∨ lost = true) :
    let x := r.afterBoundary lost
    x.state = .holdover ∧ x.slew = none ∧ x.markGap = 0 ∧ x.holdoverEpochs = 0 ∧ x.wideCount = 0 ∧ x.outlierCount = 0 ∧
    x.trim = (if r.trimHistory = [] then r.trim else divAway r.trimHistory.sum r.trimHistory.length) := by
  dsimp only
  rw [afterBoundary_loses (.inr hs) h, referenceLost_track (r := r.missed) hs, ← missed_meanTrim]
  exact ⟨rfl, rfl, rfl, rfl, rfl, rfl, rfl⟩

/-- R56: ACQUIRE without its reference. -/
theorem afterBoundary_acquire {lost : Bool} {r : Rtu} (hs : r.state = .acquire) (h : 2 ≤ r.markGap ∨ lost = true) :
    let x := r.afterBoundary lost
    x.state = .free ∧ x.slew = none ∧ x.pendingStep = none ∧ x.markGap = 0 ∧ x.lockCount = 0 ∧ x.trim = r.trim := by
  dsimp only
  rw [afterBoundary_loses (.inl hs) h, referenceLost_acquire (r := r.missed) hs]
  exact ⟨rfl, rfl, rfl, rfl, rfl, rfl⟩

/-- R56: a mark missed in TRACK or ACQUIRE. -/
theorem afterBoundary_missed {r : Rtu} (hs : r.state = .acquire ∨ r.state = .track) (hg : r.markGap < 2) :
    let x := r.afterBoundary false
    x.state = r.state ∧ x.markGap = r.markGap + 1 ∧ x.trim = r.trim := by
  dsimp only
  rw [Rtu.afterBoundary, if_neg Bool.false_ne_true, boundaryCounts_marks hs, if_neg (Nat.not_le.2 hg)]
  exact ⟨rfl, Nat.min_eq_left (by omega), rfl⟩

/-- R57: HOLDOVER through a boundary event. -/
theorem afterBoundary_holdover (lost : Bool) {r : Rtu} (hs : r.state = .holdover) :
    let x := r.afterBoundary lost
    x.holdoverEpochs = r.holdoverEpochs + 1 ∧ x.trim = r.trim ∧ (r.holdoverEpochs + 1 ≤ r.holdoverLimit → x.state = .holdover) ∧
    (r.holdoverLimit < r.holdoverEpochs + 1 → x.state = .free ∧ r.boundaryCounts.2 = [.freeRun]) := by
  have hkeep : r.afterBoundary lost = r.boundaryCounts.1 := by
    unfold Rtu.afterBoundary
    split
    · rw [boundaryCounts_holdover hs, Rtu.holdoverOver]
      split
      · rw [referenceLost_still (by simp) (by simp)]
      · rw [referenceLost_still (by simp [hs]) (by simp [hs])]
    · rfl
  dsimp only
  rw [hkeep, boundaryCounts_holdover hs, Rtu.holdoverOver]
  by_cases hl : r.holdoverLimit < r.holdoverEpochs + 1
  · rw [if_pos ⟨hs, hl⟩]
    exact ⟨rfl, rfl, fun h => by omega, fun _ => ⟨rfl, rfl⟩⟩
  · rw [if_neg fun h => hl h.2]
    exact ⟨rfl, rfl, fun _ => hs, fun h => absurd h hl⟩

/-- R56: a timebase in FREE or REFERENCE has nothing to count. -/
theorem afterBoundary_still (lost : Bool) {r : Rtu} (hs : r.state = .free ∨ r.state = .reference) :
    r.afterBoundary lost = r := by
  unfold Rtu.afterBoundary
  rw [boundaryCounts_still hs]
  split
  · rw [referenceLost_still] <;> rcases hs with h | h <;> simp [h]
  · rfl

/-! ## The boundary event at the Rack Time Unit -/

theorem boundaryCounted_topo (s : State) : s.boundaryCounted.topo = s.topo := by
  obtain ⟨_, _, _, _, _, _, _, h⟩ := boundaryCounted_frame s
  rw [h]

theorem boundaryCounted_losesRoot : s.boundaryCounted.losesRoot ↔ s.losesRoot := by
  unfold State.losesRoot
  rw [boundaryCounted_topo]

theorem epochBoundary_rtu (s : State) :
    (s.losesRoot → (epochBoundary s).rtu = s.rtu.boundaryInstant.1.1.afterBoundary true) ∧
    (¬s.losesRoot → (epochBoundary s).rtu = s.rtu.boundaryInstant.1.1.afterBoundary false) := by
  obtain ⟨hlost, hkept⟩ := topologyBoundary_reference (s := s.boundaryCounted)
  rw [boundaryCounted_losesRoot, boundaryCounted_rtu] at hlost hkept
  rw [(epochBoundary_units s).2.1]
  exact ⟨fun h => (hlost h).1, fun h => hkept h⟩

/-- What is Pending after the Topology Unit's part stays so to the end of the event. -/
theorem pending_of_rooted (h : (s.boundaryRooted.event k).pending = true) : ((epochBoundary s).event k).pending = true := by
  have hfired := (raises_triggerBoundary s.jumps s.boundaryRooted).pending k h
  obtain ⟨_, hre⟩ := reopenPackers_frame s.boundaryFired
  have hsame : (reopenPackers s.boundaryFired).event k = s.boundaryFired.event k := event_of_mgmt (by rw [hre]) k
  have hturned := (turned_deliveryBoundary s.restarts (reopenPackers s.boundaryFired)).events.pending k (by rw [hsame]; exact hfired)
  rw [event_of_mgmt (epochBoundary_delivery s).2.2]
  exact hturned

theorem pending_of_counted (h : (s.boundaryCounted.event k).pending = true) : ((epochBoundary s).event k).pending = true :=
  pending_of_rooted ((rooted_topologyBoundary s.boundaryCounted).events.pending k h)

theorem boundaryCounted_kinds (h : k ∈ s.rtu.boundaryInstant.1.1.boundaryCounts.2.map EventKind.code) :
    (s.boundaryCounted.event k).pending = true :=
  pending_applyRtu (.inr (by rwa [atInstant_rtu]))

theorem atInstant_kinds (h : k ∈ s.rtu.boundaryInstant.1.2.map EventKind.code) : (s.boundaryCounted.event k).pending = true := by
  have hinstant : (s.atInstant.event k).pending = true := pending_applyRtu (.inr h)
  exact pending_applyRtu (.inl hinstant)

/-- R57: HOLDOVER is raised where TRACK has lost its reference. -/
theorem pending_holdover (hs : s.rtu.state = .track) (h : 2 ≤ s.rtu.markGap ∨ s.losesRoot) :
    ((epochBoundary s).event EventKind.holdover.code).pending = true := by
  obtain ⟨hstate, -, -, hgap, -, -⟩ := boundaryInstant_servo s.rtu
  have htrack : s.rtu.boundaryInstant.1.1.state = .track := by rw [hstate, hs]
  by_cases hg : 2 ≤ s.rtu.markGap
  · refine pending_of_counted (boundaryCounted_kinds ?_)
    rw [boundaryCounts_marks (.inr htrack), if_pos (by rwa [hgap]), referenceLost_track (by exact htrack)]
    exact List.mem_singleton.2 rfl
  · have hlost := (topologyBoundary_reference (s := s.boundaryCounted)).1 (boundaryCounted_losesRoot.2 (h.resolve_left hg))
    refine pending_of_rooted (hlost.2 _ ?_)
    rw [boundaryCounted_rtu, boundaryCounts_marks (.inr htrack), if_neg (by rwa [hgap]), referenceLost_track (by exact htrack)]
    exact List.mem_singleton.2 rfl

end Sys2Proof.Machine
end

section
/-! SUPPORT. The boundary event at the ports, the triggers and the drains. The statement about it unit by unit (O26). -/

namespace Sys2Proof.Machine

variable {s t u : State} {p : PortId} {k i : Nat}

/-! ## Ports, marks and channels (R11, R19, R21, R27, R168) -/

/-- A port's counts of boundary events and bad parcels stand. -/
def SameCounts (r r' : Port) : Prop :=
  r'.badThisEpoch = r.badThisEpoch ∧ r'.retrainHistory = r.retrainHistory ∧ r'.burstCount = r.burstCount

theorem LinkLine.counts {r r' : Port} (h : LinkLine r r') : SameCounts r r' := by
  obtain ⟨_, _, _, _, rfl⟩ := h
  exact ⟨rfl, rfl, rfl⟩

theorem TimingLine.counts {r r' : Port} (h : TimingLine r r') : SameCounts r r' := by
  obtain ⟨_, _, _, _, rfl⟩ := h
  exact ⟨rfl, rfl, rfl⟩

theorem boundary_counts (d : Bool) (r : Port) (q : List StreamParcel) (c : PortCounters) :
    let x := Port.boundary d { r with qStream := q, counters := c }
    x.badThisEpoch = 0 ∧ x.retrainHistory = dropOld (r.retrainHistory.map (· + 1)) ∧
    x.burstCount = if r.countsBoundary then bump r.burstCount else r.burstCount := ⟨rfl, rfl, rfl⟩

theorem epochBoundary_port (s : State) (p : PortId) : ((epochBoundary s).port p).badThisEpoch = 0 ∧
    ((epochBoundary s).port p).retrainHistory = dropOld ((s.port p).retrainHistory.map (· + 1)) ∧
    ((epochBoundary s).port p).burstCount =
      if (s.port p).countsBoundary then bump (s.port p).burstCount else (s.port p).burstCount := by
  obtain ⟨q, c, hcount⟩ := boundaryCounted_port s p
  obtain ⟨hbad, hhistory, hburst⟩ := boundary_counts s.jumps (s.port p) q c
  obtain ⟨hbad', hhistory', hburst'⟩ := (boundaryPassed_port s p).counts
  obtain ⟨hbad'', hhistory'', hburst''⟩ := ((timed_boundary s).ports p).counts
  rw [hcount] at hbad' hhistory' hburst'
  exact ⟨hbad''.trans (hbad'.trans hbad), hhistory''.trans (hhistory'.trans hhistory), hburst''.trans (hburst'.trans hburst)⟩

theorem countsBoundary_iff (r : Port) :
    r.countsBoundary = true ↔ (r.state = .measure ∨ r.state = .up) ∧ r.burst = none := by
  simp [Port.countsBoundary]

theorem epochBoundary_mark (s : State) (p : PortId) :
    (epochBoundary s).topo.mark p = (s.topo.mark p).map MarkRecord.older := by
  obtain ⟨_, _, _, _, h⟩ := topologyBoundary_topo s.boundaryCounted
  rw [(epochBoundary_units s).1, State.boundaryRooted, h, boundaryCounted_topo]
  cases p <;> rfl

theorem channels_of_frame {sl : List (Nat × Slot)} {cs : List (Nat × Channel)} (h : t = { s with slots := sl, channels := cs }) :
    t.channels = cs := by rw [h]

theorem epochBoundary_channel (s : State) (c : Nat) : ((epochBoundary s).channel c).chunksThisEpoch = 0 := by
  obtain ⟨-, -, -, -, -, -, -, -, hc, -⟩ := (timed_boundary s).same
  obtain ⟨_, hp⟩ := boundaryPassed_frame s
  rw [State.channel, hc.trans (channels_of_frame hp)]
  exact tgetD_tmap (P := fun r : Channel => r.chunksThisEpoch = 0) (fun _ => rfl) rfl _ c

/-! ## Triggers stepped over (R69, R74) -/

theorem fireLate_eq (line : Nat) (s : State) : ∃ m, fireLate line s = { s with
    trig := { s.trig with fired := bump s.trig.fired, lateFires := bump s.trig.lateFires }
    sideband := s.sideband ++ (s.firedSlots line).map (fun i => (i, line)), mgmt := m } := ⟨_, rfl⟩

/-- R74: triggers fired late, in order. -/
theorem foldl_fireLate (l : List PendingTrigger) (hl : l ≠ []) (s : State) :
    ∃ m, l.foldl (fun s e => fireLate e.line s) s = { s with
      trig := { s.trig with fired := bumpBy l.length s.trig.fired, lateFires := bumpBy l.length s.trig.lateFires }
      sideband := s.sideband ++ l.flatMap (fun e => (s.firedSlots e.line).map (fun i => (i, e.line))), mgmt := m } := by
  induction l generalizing s with
  | nil => exact absurd rfl hl
  | cons e l ih =>
    obtain ⟨m0, h0⟩ := fireLate_eq e.line s
    rw [List.foldl_cons]
    by_cases hnil : l = []
    · subst hnil
      refine ⟨m0, ?_⟩
      rw [List.foldl_nil, h0, List.flatMap_cons, List.flatMap_nil, List.append_nil]
      rfl
    · obtain ⟨m, h⟩ := ih hnil (fireLate e.line s)
      refine ⟨m, ?_⟩
      rw [h, h0]
      simp only [bump_bumpBy, List.length_cons, List.flatMap_cons, List.append_assoc]
      rfl

theorem raisedTimes_fireLate (l : List PendingTrigger) (s : State) :
    RaisedTimes .triggerLate l.length s (l.foldl (fun s e => fireLate e.line s) s) := by
  induction l generalizing s with
  | nil => exact raisedTimes_zero rfl
  | cons e l ih =>
    have hone : RaisedTimes .triggerLate 1 s (fireLate e.line s) := by
      have hzero : RaisedTimes .triggerLate 0 s ((fireLine e.line s).updTrig (fun t => { t with lateFires := bump t.lateFires })) :=
        raisedTimes_zero rfl
      exact hzero.trans (raisedTimes_raise _ _)
    have hsum := hone.trans (ih (fireLate e.line s))
    rw [Nat.add_comm] at hsum
    exact hsum

/-- R74: the queued triggers that are not in the future. -/
def State.pastTriggers (s : State) : List PendingTrigger := s.trig.queue.filter (fun e => !inFuture e.fire s.rtu.ticks)

theorem triggerBoundary_false (s : State) :
    triggerBoundary false s = (ageSeen s).updTrig (fun t => { t with seenAged := true }) := rfl

theorem triggerBoundary_true (s : State) : triggerBoundary true s = s.pastTriggers.foldl (fun s e => fireLate e.line s)
    { s with trig := { s.trig with
      seen := (ageSeen s).trig.seen, seenAged := true, queue := s.trig.queue.filter (fun e => inFuture e.fire s.rtu.ticks) } } := rfl

theorem queue_of_noPast (h : s.pastTriggers = []) : s.trig.queue.filter (fun e => inFuture e.fire s.rtu.ticks) = s.trig.queue :=
  List.filter_eq_self.2 fun e he => by simpa using List.filter_eq_nil_iff.1 h e he

/-- R69: without a trigger that is stepped over, the Trigger Unit only ages its Seen Lists. -/
theorem triggerBoundary_idle {d : Bool} (h : d = false ∨ s.pastTriggers = []) :
    triggerBoundary d s = (ageSeen s).updTrig (fun t => { t with seenAged := true }) := by
  cases d
  · exact triggerBoundary_false s
  · have hpast := h.resolve_left (by decide)
    rw [triggerBoundary_true, hpast, queue_of_noPast hpast]
    rfl

/-- R74: the Trigger Unit at a stepped or loaded boundary that passes over triggers. -/
theorem triggerBoundary_late (h : s.pastTriggers ≠ []) : ∃ m, triggerBoundary true s = { s with
    trig := { s.trig with
      seen := (ageSeen s).trig.seen, seenAged := true, queue := s.trig.queue.filter (fun e => inFuture e.fire s.rtu.ticks)
      fired := bumpBy s.pastTriggers.length s.trig.fired, lateFires := bumpBy s.pastTriggers.length s.trig.lateFires }
    sideband := s.sideband ++ s.pastTriggers.flatMap (fun e => (s.firedSlots e.line).map (fun i => (i, e.line))), mgmt := m } := by
  rw [triggerBoundary_true]
  exact foldl_fireLate _ h _

theorem triggerBoundary_seen (d : Bool) (s : State) (l : Nat) : (triggerBoundary d s).seen l = (ageSeen s).seen l := by
  by_cases h : d = false ∨ s.pastTriggers = []
  · rw [triggerBoundary_idle h]
    rfl
  · rw [not_or, Bool.not_eq_false] at h
    obtain ⟨_, hlate⟩ := triggerBoundary_late h.2
    rw [h.1, State.seen, hlate]
    rfl

/-- At the Trigger Unit's part the triggers, their map and the slots are those from before the event. -/
theorem boundaryRooted_trig (s : State) : s.boundaryRooted.trig = s.trig ∧ s.boundaryRooted.sideband = s.sideband ∧
    s.boundaryRooted.rtu = (epochBoundary s).rtu ∧ s.boundaryRooted.slots = (closePackers s).slots ∧
    s.boundaryRooted.event EventKind.triggerLate.code = s.event EventKind.triggerLate.code := by
  obtain ⟨_, _, _, _, _, _, hr⟩ := (rooted_topologyBoundary s.boundaryCounted).units
  obtain ⟨_, _, _, _, _, _, _, hc⟩ := boundaryCounted_frame s
  obtain ⟨_, _, _, hf⟩ := triggerBoundary_frame s.jumps s.boundaryRooted
  have hslots : s.boundaryFired.slots = s.boundaryRooted.slots := by rw [State.boundaryFired, hf]
  refine ⟨?_, ?_, (epochBoundary_units s).2.1.symm, hslots.symm.trans (boundaryFired_slots s), ?_⟩
  · rw [State.boundaryRooted, hr, hc]
  · rw [State.boundaryRooted, hr, hc]
  · exact ((rooted_topologyBoundary s.boundaryCounted).events.other _ (by decide)).trans
      ((raises_boundaryCounted s).other _ (by decide))

theorem boundaryRooted_firedSlots (s : State) (line : Nat) : s.boundaryRooted.firedSlots line =
    (List.range 16).filter (fun i => (s.trigEntry line).outputs.getLsbD i && (s.slot i).state == .admitted) := by
  obtain ⟨htrig, -, -, hslots, -⟩ := boundaryRooted_trig s
  have hstate : ∀ i, (s.boundaryRooted.slot i).state = (s.slot i).state := fun i => by
    obtain ⟨_, _, _, _, h⟩ := (packed_closePackers s).slots i
    rw [slot_of_slots hslots, h]
  rw [firedSlots_eq, State.trigEntry, htrig]
  simp only [hstate, State.trigEntry]

/-- R74: the events raised after the Trigger Unit's part leave TRIGGER_LATE alone. -/
theorem epochBoundary_late (s : State) :
    (epochBoundary s).event EventKind.triggerLate.code = s.boundaryFired.event EventKind.triggerLate.code := by
  obtain ⟨_, hre⟩ := reopenPackers_frame s.boundaryFired
  have hsame := event_of_mgmt (s := s.boundaryFired) (t := reopenPackers s.boundaryFired) (by rw [hre]) EventKind.triggerLate.code
  have hturned := (turned_deliveryBoundary s.restarts (reopenPackers s.boundaryFired)).events.other _
    (show EventKind.triggerLate.code ∉ _ by decide)
  rw [event_of_mgmt (epochBoundary_delivery s).2.2]
  exact hturned.trans hsame

theorem seen_of_trig (h : t.trig = s.trig) (l : Nat) : t.seen l = s.seen l := by
  rw [State.seen, h]
  rfl

/-- R69: the Seen Lists after a boundary event. -/
theorem epochBoundary_seen (hs : tsorted s.trig.seen = true) (l : Nat) : (epochBoundary s).seen l =
    ((s.seen l).filter (fun e => e.age ≠ 1)).map (fun e => ⟨e.origin, e.seq, 1⟩) := by
  obtain ⟨htrig, -⟩ := boundaryRooted_trig s
  rw [seen_of_trig (epochBoundary_units s).2.2.1, State.boundaryFired, triggerBoundary_seen, seen_ageSeen (by rwa [htrig]),
    seen_of_trig htrig]

/-- R74: the queued triggers that the boundary event leaves in the past or the present. -/
def State.steppedOver (s : State) : List PendingTrigger :=
  s.trig.queue.filter (fun e => !inFuture e.fire ((epochBoundary s).rtu.rackTime.toNat / 2 ^ 32))

theorem boundaryRooted_past (s : State) : s.boundaryRooted.pastTriggers = s.steppedOver := by
  obtain ⟨htrig, -, hrtu, -⟩ := boundaryRooted_trig s
  rw [State.pastTriggers, htrig, hrtu]
  rfl

/-- R74: with no step or load, or with none passed over, the boundary event fires nothing. -/
theorem epochBoundary_idle (h : s.jumps = false ∨ s.steppedOver = []) : (epochBoundary s).trig.queue = s.trig.queue ∧
    (epochBoundary s).sideband = s.sideband ∧ (epochBoundary s).trig.lateFires = s.trig.lateFires ∧
    (epochBoundary s).trig.fired = s.trig.fired := by
  obtain ⟨htrig, hside, -⟩ := boundaryRooted_trig s
  obtain ⟨-, -, htrig', hside', -⟩ := epochBoundary_units s
  rw [htrig', hside', State.boundaryFired, triggerBoundary_idle (by rwa [boundaryRooted_past]), ← htrig, ← hside]
  exact ⟨rfl, rfl, rfl, rfl⟩

/-- R74: what a stepped or loaded boundary fires late. -/
theorem epochBoundary_fires (hj : s.jumps = true) (h : s.steppedOver ≠ []) :
    (epochBoundary s).trig.queue =
      s.trig.queue.filter (fun e => inFuture e.fire ((epochBoundary s).rtu.rackTime.toNat / 2 ^ 32)) ∧
    (epochBoundary s).sideband = s.sideband ++ s.steppedOver.flatMap (fun e => ((List.range 16).filter (fun i =>
      (s.trigEntry e.line).outputs.getLsbD i && (s.slot i).state == .admitted)).map (fun i => (i, e.line))) ∧
    (epochBoundary s).trig.lateFires = bumpBy s.steppedOver.length s.trig.lateFires ∧
    (epochBoundary s).trig.fired = bumpBy s.steppedOver.length s.trig.fired := by
  obtain ⟨htrig, hside, hrtu, -⟩ := boundaryRooted_trig s
  obtain ⟨-, -, htrig', hside', -⟩ := epochBoundary_units s
  obtain ⟨_, hlate⟩ := triggerBoundary_late (s := s.boundaryRooted) (by rwa [boundaryRooted_past])
  simp only [boundaryRooted_firedSlots, boundaryRooted_past, htrig, hside, hrtu] at hlate
  rw [htrig', hside', State.boundaryFired, hj, hlate]
  exact ⟨rfl, rfl, rfl, rfl⟩

theorem epochBoundary_triggerLate (hj : s.jumps = true) :
    RaisedTimes .triggerLate s.steppedOver.length s (epochBoundary s) := by
  obtain ⟨-, -, -, -, hevent⟩ := boundaryRooted_trig s
  have hfired := raisedTimes_fireLate s.boundaryRooted.pastTriggers { s.boundaryRooted with
    trig := { s.boundaryRooted.trig with
      seen := (ageSeen s.boundaryRooted).trig.seen, seenAged := true
      queue := s.boundaryRooted.trig.queue.filter (fun e => inFuture e.fire s.boundaryRooted.rtu.ticks) } }
  rw [← triggerBoundary_true, boundaryRooted_past, ← hj] at hfired
  have hbefore : RaisedTimes .triggerLate 0 s { s.boundaryRooted with
    trig := { s.boundaryRooted.trig with
      seen := (ageSeen s.boundaryRooted).trig.seen, seenAged := true
      queue := s.boundaryRooted.trig.queue.filter (fun e => inFuture e.fire s.boundaryRooted.rtu.ticks) } } :=
    raisedTimes_zero hevent
  have hafter : RaisedTimes .triggerLate 0 s.boundaryFired (epochBoundary s) := raisedTimes_zero (epochBoundary_late s)
  have hall := (hbefore.trans hfired).trans hafter
  rwa [Nat.zero_add] at hall

/-! ## Drains (R131) -/

/-- What one slot's drain and those of the others have in common. -/
structure DrainAside (i : Nat) (s t : State) : Prop where
  slot : t.slot i = s.slot i
  trans : t.trans = s.trans
  pending : ∀ k, (s.event k).pending = true → (t.event k).pending = true

theorem DrainAside.refl (i : Nat) (s : State) : DrainAside i s s := ⟨rfl, rfl, fun _ h => h⟩

theorem DrainAside.comp (h : DrainAside i s t) (h' : DrainAside i t u) : DrainAside i s u :=
  ⟨h'.slot.trans h.slot, h'.trans.trans h.trans, fun k hk => h'.pending k (h.pending k hk)⟩

theorem settleDrain_pending (s : State) (j k : Nat) (h : (s.event k).pending = true) :
    ((settleDrain s j).event k).pending = true := by
  unfold settleDrain
  dsimp only
  split
  · exact h
  · split
    · split
      · exact pending_raise (.inl h)
      · exact h
    · exact h

theorem drainAside_settleDrain {j : Nat} (h : j ≠ i) (s : State) : DrainAside i s (settleDrain s j) := by
  refine ⟨?_, ?_, fun k => settleDrain_pending s j k⟩
  · unfold settleDrain
    dsimp only
    split
    · rfl
    · split
      · split
        · exact (State.slot_setSlot (s := s) j i ((s.slot j).quiescedBy .drainComplete)).trans (if_neg h.symm)
        · exact (State.slot_setSlot _ _ _ _).trans (if_neg h.symm)
      · rfl
  · rw [settleDrain_frame]

theorem settleDrains_around (hi : i < 16) (s : State) :
    ∃ v, DrainAside i s v ∧ DrainAside i (settleDrain v i) (settleDrains s) :=
  foldl_around (DrainAside.refl i) (fun _ _ _ => .comp) (fun u _ hj => drainAside_settleDrain hj u) _ (List.mem_range.2 hi)
    List.nodup_range s

theorem settleDrains_pending (h : (s.event k).pending = true) : ((settleDrains s).event k).pending = true :=
  List.foldlRecOn _ settleDrain (motive := fun u => (u.event k).pending = true) h fun u hu j _ => settleDrain_pending u j k hu

/-- R131: a drain whose conditions all hold ends. -/
theorem settleDrains_ends {d : Drain} (hi : i < 16) (hst : (s.slot i).state = .extracting) (hd : (s.slot i).drain = some d)
    (hc : (s.drainFlags i d).complete = true) : ((settleDrains s).slot i).state = .quiesced ∧
      ((settleDrains s).slot i).drain = none ∧ ((settleDrains s).slot i).lastCause = .drainComplete ∧
      ((settleDrains s).event EventKind.slotQuiesced.code).pending = true := by
  obtain ⟨v, hv, ht⟩ := settleDrains_around hi s
  have hflags : v.drainFlags i d = s.drainFlags i d := by
    unfold State.drainFlags State.lock
    rw [hv.trans, hv.slot]
  have hrun := settleDrain_complete (by rwa [hv.slot]) (by rwa [hv.slot]) (by rwa [hflags])
  rw [enterQuiesced_eq] at hrun
  rw [hrun] at ht
  have hslot : (settleDrains s).slot i = (v.slot i).quiescedBy .drainComplete :=
    ht.slot.trans (State.slot_setSlot_same v i ((v.slot i).quiescedBy .drainComplete))
  rw [hslot]
  exact ⟨rfl, rfl, rfl, ht.pending _ (pending_raise (.inr rfl))⟩

/-- R131: a drain that waits takes its conditions as they stand. -/
theorem settleDrains_waits {d : Drain} (hi : i < 16) (hst : (s.slot i).state = .extracting) (hd : (s.slot i).drain = some d)
    (hc : (s.drainFlags i d).complete = false) : ((settleDrains s).slot i).state = .extracting ∧
      ((settleDrains s).slot i).drain = some (s.drainFlags i d) := by
  obtain ⟨v, hv, ht⟩ := settleDrains_around hi s
  have hflags : v.drainFlags i d = s.drainFlags i d := by
    unfold State.drainFlags State.lock
    rw [hv.trans, hv.slot]
  have hrun := settleDrain_left (by rwa [hv.slot]) (by rwa [hv.slot]) (by rwa [hflags])
  rw [hflags, hv.slot] at hrun
  rw [hrun] at ht
  rw [ht.slot, State.slot_setSlot_same]
  exact ⟨hst, rfl⟩

/-- R131: what a drain waits for besides the boundary. -/
def State.drained (s : State) (i : Nat) : Prop := (∀ x ∈ s.trans.inbound, x.2.slot ≠ i) ∧ (s.lock i).holder = none ∧
  (∀ x ∈ s.trans.ott, x.2.id ≠ i) ∧ (s.slot i).waiting = []

theorem drainFlags_complete {d : Drain} (hb : d.boundaryPassed = true) : (s.drainFlags i d).complete = true ↔ s.drained i := by
  simp [Drain.complete, State.drainFlags, State.drained, hb, and_assoc]

/-- R131: of a slot the boundary event changes neither state nor waiting requests; its drain has passed a boundary. -/
theorem epochBoundary_slot (hi : i < 16) (s : State) : ((epochBoundary s).slot i).state = (s.slot i).state ∧
    ((epochBoundary s).slot i).waiting = (s.slot i).waiting ∧
    ((epochBoundary s).slot i).drain = (s.slot i).drain.map (fun d => { d with boundaryPassed := true }) := by
  obtain ⟨_, _, _, hturn⟩ := (turned_deliveryBoundary s.restarts (reopenPackers s.boundaryFired)).slots i
  obtain ⟨_, _, _, _, hpack⟩ := (packed_closePackers s).slots i
  obtain ⟨_, hre⟩ := reopenPackers_frame s.boundaryFired
  have hsame := slot_of_slots (s := s.boundaryFired) (t := reopenPackers s.boundaryFired) (by rw [hre]) i
  have hfired := slot_of_slots (boundaryFired_slots s) i
  rw [(epochBoundary_delivery s).2.1, if_pos hi]
  rw [hsame, hfired, hpack] at hturn
  rw [State.boundaryTurned, hturn]
  exact ⟨rfl, rfl, rfl⟩

theorem epochBoundary_drained (hi : i < 16) (s : State) : (epochBoundary s).drained i ↔ s.drained i := by
  unfold State.drained State.lock
  rw [(epochBoundary_units s).2.2.2.2, (epochBoundary_slot hi s).2.1]

/-- R131: a drain through a boundary event. -/
theorem boundary_drain {d : Drain} (hi : i < 16) (hst : (s.slot i).state = .extracting) (hd : (s.slot i).drain = some d) :
    (s.drained i → ((settleDrains (epochBoundary s)).slot i).state = .quiesced ∧
      ((settleDrains (epochBoundary s)).slot i).drain = none ∧
      ((settleDrains (epochBoundary s)).slot i).lastCause = .drainComplete ∧
      ((settleDrains (epochBoundary s)).event EventKind.slotQuiesced.code).pending = true) ∧
    (¬s.drained i → ((settleDrains (epochBoundary s)).slot i).state = .extracting ∧
      ∃ d1, ((settleDrains (epochBoundary s)).slot i).drain = some d1 ∧ d1.boundaryPassed = true) := by
  obtain ⟨hst', -, hd'⟩ := epochBoundary_slot hi s
  rw [hst] at hst'
  rw [hd, Option.map_some] at hd'
  have hmet := (drainFlags_complete (s := epochBoundary s) (i := i) (d := { d with boundaryPassed := true }) rfl).trans
    (epochBoundary_drained hi s)
  refine ⟨fun h => settleDrains_ends hi hst' hd' (hmet.2 h), fun h => ?_⟩
  obtain ⟨hstate, hdrain⟩ := settleDrains_waits hi hst' hd' (Bool.eq_false_iff.2 fun hc => h (hmet.1 hc))
  exact ⟨hstate, _, hdrain, rfl⟩

/-! ## Rack Time and the timebase at the end of the event -/

theorem epochBoundary_after (s : State) : ∃ lost, (epochBoundary s).rtu = s.rtu.boundaryInstant.1.1.afterBoundary lost ∧
    (lost = true ↔ s.losesRoot) := by
  obtain ⟨hlost, hkept⟩ := epochBoundary_rtu s
  by_cases h : s.losesRoot
  · exact ⟨true, hlost h, fun _ => h, fun _ => rfl⟩
  · exact ⟨false, hkept h, fun hx => absurd hx Bool.false_ne_true, fun hx => absurd hx h⟩

/-- R43, R52, R59: Rack Time and the pending values through a boundary event. -/
theorem epochBoundary_time (h : s.rtu.rackTime.toNat / 2 ^ 49 ≠ s.rtu.epoch) :
    (epochBoundary s).rtu.epoch = (epochBoundary s).rtu.rackTime.toNat / 2 ^ 49 ∧ (epochBoundary s).rtu.pendingLoad = none ∧
    (∀ v, s.rtu.pendingLoad = some v → (epochBoundary s).rtu.rackTime = BitVec.ofNat 88 (v * 2 ^ 32) ∧
      (epochBoundary s).rtu.loads = bump s.rtu.loads ∧ (epochBoundary s).rtu.steps = s.rtu.steps) ∧
    (∀ a, s.rtu.pendingLoad = none ∧ s.rtu.pendingStep = some a →
      (epochBoundary s).rtu.rackTime = s.rtu.rackTime + BitVec.ofInt 88 (a * 2 ^ 28) ∧
      (epochBoundary s).rtu.pendingStep = none ∧ (epochBoundary s).rtu.slew = none ∧
      (epochBoundary s).rtu.steps = bump s.rtu.steps ∧
      ((epochBoundary s).event EventKind.stepped.code).pending = true) ∧
    (s.rtu.pendingLoad = none ∧ s.rtu.pendingStep = none → (epochBoundary s).rtu.rackTime = s.rtu.rackTime ∧
      (epochBoundary s).rtu.loads = s.rtu.loads ∧ (epochBoundary s).rtu.steps = s.rtu.steps) := by
  obtain ⟨lost, hrtu, -⟩ := epochBoundary_after s
  obtain ⟨hepoch, hnone, hload, hstep, hplain⟩ := boundaryInstant_time h
  obtain ⟨htime', hepoch', hload', hloads', hsteps', hstep', hslew'⟩ := afterBoundary_time lost s.rtu.boundaryInstant.1.1
  rw [← hrtu] at htime' hepoch' hload' hloads' hsteps' hstep' hslew'
  rw [htime', hepoch', hload', hloads', hsteps']
  refine ⟨hepoch, hnone, hload, fun a ha => ?_, hplain⟩
  obtain ⟨htime, hs, hslew, hsteps, hkinds⟩ := hstep a ha
  exact ⟨htime, hstep' hs, hslew' hslew, hsteps,
    pending_of_counted (atInstant_kinds (by rw [hkinds]; exact List.mem_singleton.2 rfl))⟩

/-- R56, R57: the timebase through a boundary event, by its state. -/
theorem epochBoundary_timebase (s : State) :
    ((s.rtu.state = .acquire ∨ s.rtu.state = .track) ∧ s.rtu.markGap < 2 ∧ ¬s.losesRoot →
      (epochBoundary s).rtu.state = s.rtu.state ∧ (epochBoundary s).rtu.markGap = s.rtu.markGap + 1 ∧
      (epochBoundary s).rtu.trim = s.rtu.trim) ∧
    (s.rtu.state = .track ∧ (2 ≤ s.rtu.markGap ∨ s.losesRoot) →
      (epochBoundary s).rtu.state = .holdover ∧ (epochBoundary s).rtu.slew = none ∧
      (epochBoundary s).rtu.markGap = 0 ∧ (epochBoundary s).rtu.holdoverEpochs = 0 ∧
      (epochBoundary s).rtu.wideCount = 0 ∧ (epochBoundary s).rtu.outlierCount = 0 ∧
      (epochBoundary s).rtu.trim =
        (if s.rtu.trimHistory = [] then s.rtu.trim else divAway s.rtu.trimHistory.sum s.rtu.trimHistory.length) ∧
      ((epochBoundary s).event EventKind.holdover.code).pending = true) ∧
    (s.rtu.state = .acquire ∧ (2 ≤ s.rtu.markGap ∨ s.losesRoot) →
      (epochBoundary s).rtu.state = .free ∧ (epochBoundary s).rtu.slew = none ∧ (epochBoundary s).rtu.pendingStep = none ∧
      (epochBoundary s).rtu.markGap = 0 ∧ (epochBoundary s).rtu.lockCount = 0 ∧ (epochBoundary s).rtu.trim = s.rtu.trim) ∧
    (s.rtu.state = .holdover → (epochBoundary s).rtu.holdoverEpochs = s.rtu.holdoverEpochs + 1 ∧
      (epochBoundary s).rtu.trim = s.rtu.trim ∧
      (s.rtu.holdoverEpochs + 1 ≤ s.rtu.holdoverLimit → (epochBoundary s).rtu.state = .holdover) ∧
      (s.rtu.holdoverLimit < s.rtu.holdoverEpochs + 1 → (epochBoundary s).rtu.state = .free ∧
        ((epochBoundary s).event EventKind.freeRun.code).pending = true)) ∧
    (s.rtu.state = .free ∨ s.rtu.state = .reference → (epochBoundary s).rtu.state = s.rtu.state ∧
      (epochBoundary s).rtu.markGap = s.rtu.markGap ∧ (epochBoundary s).rtu.holdoverEpochs = s.rtu.holdoverEpochs) := by
  obtain ⟨lost, hrtu, hlost⟩ := epochBoundary_after s
  obtain ⟨hstate, htrim, hhistory, hgap, hhold, hlimit⟩ := boundaryInstant_servo s.rtu
  rw [hrtu, ← hlost, ← hstate, ← htrim, ← hhistory, ← hgap, ← hhold, ← hlimit]
  refine ⟨fun ⟨hs, hg, hl⟩ => ?_, fun ⟨hs, hg⟩ => ?_, fun ⟨hs, hg⟩ => afterBoundary_acquire hs hg, fun hs => ?_, fun hs => ?_⟩
  · rw [Bool.eq_false_iff.2 hl]
    exact afterBoundary_missed hs hg
  · obtain ⟨h1, h2, h3, h4, h5, h6, h7⟩ := afterBoundary_track hs hg
    rw [hstate] at hs
    rw [hgap, hlost] at hg
    exact ⟨h1, h2, h3, h4, h5, h6, h7, pending_holdover hs hg⟩
  · obtain ⟨hepochs, hkeep, hin, hover⟩ := afterBoundary_holdover lost hs
    refine ⟨hepochs, hkeep, hin, fun h => ?_⟩
    obtain ⟨hfree, hkinds⟩ := hover h
    exact ⟨hfree, pending_of_counted (boundaryCounted_kinds (by rw [hkinds]; exact List.mem_singleton.2 rfl))⟩
  · rw [afterBoundary_still lost hs]
    exact ⟨rfl, rfl, rfl⟩

/-! ## The statement -/

theorem candidate_iff (s : State) (p : PortId) : s.boundaryCounted.candidateNext p ↔ s.candidateNext p := by
  obtain ⟨_, _, hport⟩ := boundaryCounted_port s p
  unfold State.candidateNext
  rw [hport, boundaryCounted_topo]
  exact Iff.rfl

/-- The Topology Unit's record and what its part raises, at the end of the event. -/
theorem chosen_epochBoundary (h : Chosen p s.boundaryCounted s.boundaryRooted) : Chosen p s (epochBoundary s) := by
  obtain ⟨hroot, hhops, hchanges, hevent⟩ := h
  rw [boundaryCounted_topo] at hhops hchanges
  rw [Chosen, (epochBoundary_units s).1]
  exact ⟨hroot, hhops, hchanges, pending_of_rooted hevent⟩

/-- R27 to R29, R31: the Rootward Port after the whole event. -/
theorem epochBoundary_rootward (s : State) :
    (s.topo.root = false ∧ s.topo.rootward = none → (∀ p, s.candidateNext p → (s.candidateNext p.other →
          ((s.topo.mark p).map (·.hops)).getD 0 < ((s.topo.mark p.other).map (·.hops)).getD 0 ∨
          (((s.topo.mark p).map (·.hops)).getD 0 = ((s.topo.mark p.other).map (·.hops)).getD 0 ∧ p = .p0)) →
        Chosen p s (epochBoundary s)) ∧
      ((∀ p, ¬s.candidateNext p) → (epochBoundary s).topo.rootward = none ∧
        (epochBoundary s).topo.rootwardChanges = s.topo.rootwardChanges)) ∧
    (s.topo.root = true ∧ s.topo.rootward = none → (epochBoundary s).topo.rootward = none) ∧
    (s.topo.rootward ≠ none ∧ ¬s.losesRoot → (epochBoundary s).topo.rootward = s.topo.rootward ∧
      (epochBoundary s).topo.rootwardChanges = s.topo.rootwardChanges) ∧
    (∀ p, s.topo.rootward = some p ∧ s.losesRoot → (s.candidateNext p.other → Chosen p.other s (epochBoundary s)) ∧
      (¬s.candidateNext p.other → (epochBoundary s).topo.rootward = none ∧ (epochBoundary s).topo.hops = none ∧
        (epochBoundary s).topo.rootwardChanges = bump s.topo.rootwardChanges ∧
        ((epochBoundary s).event EventKind.rootChanged.code).pending = true)) := by
  obtain ⟨hunrooted, hroot, hkept, hlost⟩ := topologyBoundary_rootward s.boundaryCounted
  simp only [candidate_iff, boundaryCounted_topo, boundaryCounted_losesRoot] at hunrooted hroot hkept hlost
  have htopo := (epochBoundary_units s).1
  refine ⟨fun h => ⟨fun p hp hbest => chosen_epochBoundary ((hunrooted h).1 p hp hbest), fun hnone => ?_⟩, fun h => ?_, fun h => ?_,
    fun p h => ⟨fun hc => chosen_epochBoundary ((hlost p h).1 hc), fun hc => ?_⟩⟩
  · rw [htopo]
    exact (hunrooted h).2 hnone
  · rw [htopo]
    exact hroot h
  · rw [htopo]
    exact hkept h
  · obtain ⟨hnone, hhops, hchanges, hevent⟩ := (hlost p h).2 hc
    rw [htopo]
    exact ⟨hnone, hhops, hchanges, pending_of_rooted hevent⟩

/-- R69, R74: the triggers at the end of the event. -/
theorem epochBoundary_triggers (s : State) :
    (s.rtu.pendingLoad ≠ none ∨ s.rtu.pendingStep ≠ none →
      (epochBoundary s).trig.queue =
        s.trig.queue.filter (fun e => inFuture e.fire ((epochBoundary s).rtu.rackTime.toNat / 2 ^ 32)) ∧
      (epochBoundary s).sideband = s.sideband ++ s.steppedOver.flatMap (fun e => ((List.range 16).filter (fun i =>
        (s.trigEntry e.line).outputs.getLsbD i && (s.slot i).state == .admitted)).map (fun i => (i, e.line))) ∧
      (s.steppedOver ≠ [] →
        (epochBoundary s).trig.lateFires = min (s.trig.lateFires + s.steppedOver.length) 4294967295 ∧
        (epochBoundary s).trig.fired = min (s.trig.fired + s.steppedOver.length) 4294967295 ∧
        ((epochBoundary s).event EventKind.triggerLate.code).pending = true ∧
        ((epochBoundary s).event EventKind.triggerLate.code).count =
          min ((s.event EventKind.triggerLate.code).count + s.steppedOver.length) 255)) ∧
    ((s.rtu.pendingLoad = none ∧ s.rtu.pendingStep = none) ∨ s.steppedOver = [] →
      (epochBoundary s).trig.queue = s.trig.queue ∧ (epochBoundary s).sideband = s.sideband ∧
      (epochBoundary s).trig.lateFires = s.trig.lateFires ∧ (epochBoundary s).trig.fired = s.trig.fired) := by
  refine ⟨fun hj => ?_, fun h => epochBoundary_idle (h.imp (fun hx => ?_) id)⟩
  · by_cases hpast : s.steppedOver = []
    · obtain ⟨hqueue, hside, -⟩ := epochBoundary_idle (.inr hpast)
      rw [hqueue, hside, hpast, List.flatMap_nil, List.append_nil]
      exact ⟨(List.filter_eq_self.2 fun e he => by simpa using List.filter_eq_nil_iff.1 hpast e he).symm, rfl,
        fun hne => absurd rfl hne⟩
    · obtain ⟨hqueue, hside, hlate, hfired⟩ := epochBoundary_fires (jumps_iff.2 hj) hpast
      have hevent := (epochBoundary_triggerLate (jumps_iff.2 hj)).2 (List.length_pos_iff.2 hpast)
      exact ⟨hqueue, hside, fun _ => ⟨hlate, hfired, hevent⟩⟩
  · rw [← Bool.not_eq_true, jumps_iff]
    simp [hx]

theorem older_eq (m : MarkRecord) : m.older = { m with age := if m.age < 3 then m.age + 1 else m.age } := by
  unfold MarkRecord.older
  split <;> rfl

/-- What the end of the act leaves of the event: all but the slots, and every event that is Pending. -/
structure DrainsAfter (e t : State) : Prop where
  topo : t.topo = e.topo
  rtu : t.rtu = e.rtu
  trig : t.trig = e.trig
  sideband : t.sideband = e.sideband
  channels : t.channels = e.channels
  ports : ∀ p, t.port p = e.port p
  late : t.event EventKind.triggerLate.code = e.event EventKind.triggerLate.code
  pending : ∀ k, (e.event k).pending = true → (t.event k).pending = true

theorem drainsAfter_settleDrains (s : State) : DrainsAfter s (settleDrains s) := by
  have hlate := event_settleDrains (s := s) (k := EventKind.triggerLate.code) (by decide)
  have hpending := fun k => settleDrains_pending (s := s) (k := k)
  have hport := settleDrains_port s
  obtain ⟨_, _, h⟩ := settleDrains_frame s
  rw [h] at hlate hpending hport ⊢
  exact ⟨rfl, rfl, rfl, rfl, rfl, hport, hlate, hpending⟩

theorem Chosen.mono {e t : State} (h : Chosen p s e) (ht : DrainsAfter e t) : Chosen p s t := by
  obtain ⟨hroot, hhops, hchanges, hevent⟩ := h
  rw [Chosen, ht.topo]
  exact ⟨hroot, hhops, hchanges, ht.pending _ hevent⟩

/-- Settles O26. -/
theorem boundaryAppliesLoadOrStep : Obligations.BoundaryAppliesLoadOrStep := by
  unfold Obligations.BoundaryAppliesLoadOrStep
  intro s hrouted hreached
  refine ⟨_, exec_epochBoundary hrouted, ?_⟩
  obtain ⟨htime, hnone, hload, hstep, hplain⟩ := epochBoundary_time hreached
  obtain ⟨hunrooted, hroot, hkept, hlost⟩ := epochBoundary_rootward s
  obtain ⟨hmissed, htrack, hacquire, hholdover, hstill⟩ := epochBoundary_timebase s
  obtain ⟨hjump, hidle⟩ := epochBoundary_triggers s
  have hmark := epochBoundary_mark s
  have hport := epochBoundary_port s
  have hchannel := epochBoundary_channel s
  have hseen := fun h => epochBoundary_seen (s := s) h
  have hdrain := fun (i : Fin 16) d => boundary_drain (s := s) (d := d) i.isLt
  have hafter := drainsAfter_settleDrains (epochBoundary s)
  unfold State.steppedOver at hjump hidle
  generalize epochBoundary s = e at *
  generalize settleDrains e = t at *
  obtain ⟨topo, rtu, trig, sideband, channels, ports, late, pending⟩ := id hafter
  have hbad := fun p => (hport p).1
  simp only [← ports] at hbad
  dsimp only
  rw [topo, rtu, trig, sideband, late]
  refine ⟨htime, hnone, hbad .p0, hbad .p1, fun c => ?_, fun p => ?_, fun p => ?_, fun h l => ?_, hload, fun a ha => ?_, hplain,
    ?_, ?_, fun i d hst hd => hdrain i d hst hd⟩
  · rw [State.channel, channels]
    exact hchannel c
  · rw [hmark, funext older_eq]
  · obtain ⟨-, hhistory, hburst⟩ := hport p
    rw [ports]
    refine ⟨hhistory, ?_⟩
    rw [hburst]
    simp only [countsBoundary_iff]
  · rw [seen_of_trig trig]
    exact hseen h l
  · obtain ⟨ht, hs, hslew, hsteps, hevent⟩ := hstep a ha
    exact ⟨ht, hs, hslew, hsteps, pending _ hevent⟩
  · refine ⟨fun h => ⟨fun p hp hbest => ?_, (hunrooted h).2⟩, hroot, hkept,
      fun p h => ⟨fun hc => ?_, fun hc => ?_⟩, hmissed, fun h => ?_, hacquire, fun h => ?_, hstill⟩
    · rw [← topo]
      exact ((hunrooted h).1 p hp hbest).mono hafter
    · rw [← topo]
      exact ((hlost p h).1 hc).mono hafter
    · obtain ⟨hn, hhops, hchanges, hevent⟩ := (hlost p h).2 hc
      exact ⟨hn, hhops, hchanges, pending _ hevent⟩
    · obtain ⟨h1, h2, h3, h4, h5, h6, h7, hevent⟩ := htrack h
      exact ⟨h1, h2, h3, h4, h5, h6, h7, pending _ hevent⟩
    · obtain ⟨hepochs, htrim, hin, hover⟩ := hholdover h
      exact ⟨hepochs, htrim, hin, fun hx => ⟨(hover hx).1, pending _ (hover hx).2⟩⟩
  · exact ⟨hjump, hidle⟩

end Sys2Proof.Machine
end
